-- ==== Sys2Proof/Word.lean ====
section
/-! DEFINITION. The characters of the two serial links and the 16-bit check register. -/

namespace Sys2Proof

/-- One character of a serial link: eight data bits (R27, R206). -/
abbrev Byte := BitVec 8

/-- The 16-bit check register of a frame (R28, R207). -/
abbrev Check := BitVec 16

end Sys2Proof
end

