-- ==== Sys2Proof/Config.lean ====
section
/-! DEFINITION. The numbers the part fixes: limits, table sizes, durations and thresholds, each with its rule. -/

namespace Sys2Proof.Config

/-- The greatest service time (R5, R9). -/
def serviceTimeMax : Nat := 1048575
/-- The node count in force until a CONFIGURE is taken (R1). -/
def provisionalNodeCount : Nat := 32
/-- Pulses nearer than this many milliseconds to the one before extend the run (R6). -/
def pulseRunMs : Nat := 250
/-- Pulses of one run that end holdover (R6). -/
def runLength : Nat := 10
/-- Filter lengths of the plunger, breaker status and LOCAL key inputs (R15). -/
def plungerFilter : Nat := 3
def statusFilter : Nat := 5
def keyFilter : Nat := 10
/-- The first character of a linebus frame (R28) and of a port frame (R207). -/
def busSync : Byte := 0x96
def portStart : Byte := 0xD4
/-- Longest payloads of the two links (R28, R207). -/
def busPayloadMax : Nat := 48
def portPayloadMax : Nat := 96
/-- The longest ANNOUNCE request (R211). -/
def announcePayloadMax : Nat := 92
/-- Bit times of idle line that free the receiver and a first attempt (R35, R44). -/
def idleBits : Nat := 20
/-- Attempts after which a frame is dropped (R36, R38). -/
def attemptLimit : Nat := 16
/-- Frames the outbound queue holds, the frame in hand counted (R39). -/
def outboundMax : Nat := 16
/-- Every statistical counter holds here (R43, R45, R168, R222). -/
def counterMax : Nat := 65535
/-- Advances between STATUS points (R42) and between frame-error reports (R45). -/
def statusPeriod : Nat := 10
def errorReportPeriod : Nat := 10
/-- Silence counts at which a peer becomes STALE and LOST (R52). -/
def staleAt : Nat := 25
def lostAt : Nat := 60
/-- The age past which a recent start counts as absent (R58). -/
def startAgeMax : Nat := 600
/-- Entries the Timetable Store holds (R63) and PENDING entries of one look-ahead (R83). -/
def timetableMax : Nat := 1536
def lookAhead : Nat := 8
/-- Entries of one approaching queue (R75). -/
def approachMax : Nat := 8
/-- Advances of the withdrawal grace (R102). -/
def graceLength : Nat := 20
/-- The breaker time limit before a CONFIGURE is taken (R116). -/
def provisionalTimeLimit : Nat := 100
/-- Ids a lockout set holds (R125). -/
def lockoutMax : Nat := 4
/-- Items of one isolation list, repeat period and sends of one item (R131, R132). -/
def isolationItems : Nat := 2
def isolationRepeat : Nat := 20
def isolationSends : Nat := 5
/-- Advances a restore wait lasts (R138). -/
def restoreWait : Nat := 100
/-- Records of the Incident Table (R148), refresh period (R156), local age limit (R155), silence age limit (R159). -/
def incidentMax : Nat := 32
def refreshPeriod : Nat := 100
def localAgeMax : Nat := 6000
def silenceAgeMax : Nat := 350
/-- Blocks of the Record Store, and how many of them the reserve starts from (R168). -/
def storeBlocks : Nat := 96
def storeReserve : Nat := 32
/-- Messages of one zone queue (R177), the mask's priority (R183), the margin of a preemption (R185). -/
def zoneQueueMax : Nat := 12
def maskPriority : Nat := 6
def preemptMargin : Nat := 2
/-- Advances after which a stop completes by itself (R191). -/
def stopLimit : Nat := 20
/-- Failures that put a zone in FAULT (R189). -/
def faultRun : Nat := 2
/-- Quiet time on SPRX that is the frame gap, in microseconds (R206). -/
def frameGapUs : Nat := 5000
/-- Frames of the answer queue and of the report queue (R214, R215). -/
def answerMax : Nat := 4
def reportMax : Nat := 32
/-- The discard count holds here (R215). -/
def discardMax : Nat := 255
/-- Contents characters one report carries, and those of one part of a divided report (R216). -/
def reportContentsMax : Nat := 91
def reportPartMax : Nat := 89

end Sys2Proof.Config
end

