-- ==== Sys2Proof/Syntax.lean ====
section
/-! DEFINITION. The commands: one constructor of `Instr` for each row of spec/opcode_table.json, with the operands the rules give
the step (INVENTORY.md, "Instructions"). -/

namespace Sys2Proof

/-- The two tracks, and with them the two platforms of a node (R2, R3). -/
inductive Track where
  | up
  | down
deriving DecidableEq, Repr

/-- The four feeder breakers of a node (R4). -/
inductive Breaker where
  | ul
  | uh
  | dl
  | dh
deriving DecidableEq, Repr

/-- The traction section (t, g) (R2). -/
structure TractionSection where
  track : Track
  gap : Nat
deriving DecidableEq, Repr

/-- An incident id: origin node and serial (R145). -/
structure IncidentId where
  origin : Nat
  serial : Nat
deriving DecidableEq, Repr

/-- What made an attempt a collision (R36). -/
inductive CollisionCause where
  /-- the read-back character differs from the one driven -/
  | mismatch
  /-- the read-back character has a character error -/
  | characterError
  /-- no character is read back within one character time -/
  | missing
deriving DecidableEq, Repr

/-- The nine inputs the Field Interface samples together, `true` for ACTIVE (R15). -/
structure InputLevels where
  occupancyUp : Bool
  occupancyDown : Bool
  plungerUp : Bool
  plungerDown : Bool
  statusUl : Bool
  statusUh : Bool
  statusDl : Bool
  statusDh : Bool
  key : Bool
deriving DecidableEq, Repr

/-- The commands of the block, one constructor per row of the table, in the table's order. A `node` operand is a node
number, `heard` the characters taken since the command before, `idle` the bit times the line has been idle: since its last character in
LINE_IDLE, and since the idle count was last brought up to date in ATTEMPT_BEGIN and BACKOFF_RETRY (R27). -/
inductive Instr where
  | powerOnReset (straps : BitVec 5)
  | clockPulse (sincePulseMs : Nat)
  | pulseTimeout
  | oscillatorAdvance
  | occupancyRise (t : Track)
  | departure (t : Track)
  | plungerPress (t : Track)
  | plungerRelease (t : Track)
  | breakerSettlement (br : Breaker) (isClosed : Bool)
  | breakerStatusChange (br : Breaker) (isClosed : Bool)
  | localKeyChange (isSet : Bool)
  | pulseEnd (br : Breaker)
  | thirdAdvanceOpen (br : Breaker)
  | breakerTimeLimit (br : Breaker)
  | isolateRepeat (id : IncidentId) (sec : TractionSection)
  | restoreWaitTimeout (br : Breaker)
  | attemptBegin (idle : Nat)
  | backoffRetry (idle : Nat)
  | collision (cause : CollisionCause) (heard : List Byte)
  | frameSent
  | statusPoint
  | lineIdle (heard : List Byte) (idle : Nat)
  | linebusCharacterError (heard : List Byte)
  | linebusLengthError (source cls len : Byte)
  | linebusFrameDiscarded (source cls : Byte) (payload : List Byte) (check : Check)
  | frameErrorReport
  | statusFrame (source : Byte) (payload : List Byte)
  | powerFrame (source : Byte) (payload : List Byte)
  | isolateFrame (source : Byte) (payload : List Byte)
  | restoreFrame (source : Byte) (payload : List Byte)
  | incidentFrame (source : Byte) (payload : List Byte)
  | departFrame (source : Byte) (payload : List Byte)
  | announceFrame (source : Byte) (payload : List Byte)
  | peerStale (node : Nat)
  | peerLost (node : Nat)
  | lapse (node : Nat)
  | overdueInstant (t : Track)
  | dwellTargetReached (t : Track)
  | staggerTimeReached (t : Track)
  | graceExpiry (t : Track)
  | wmaxReached (t : Track)
  | refresh (id : IncidentId)
  | localAgeClose (id : IncidentId)
  | copyDrop (id : IncidentId)
  | notBeforeReached (message : Nat)
  | messageExpiry (message : Nat)
  | playDeadline (channel : Nat)
  | stopTimeout (channel : Nat)
  | portFrameGap (heard : List Byte) (quietUs : Nat)
  | portCharacterError (heard : List Byte)
  | portLengthError (len : Byte)
  | nak (channel kind tag : Byte) (payload : List Byte) (check : Check)
  | portFrameEnd
  | configure (tag : Byte) (payload : List Byte)
  | dayStart (tag : Byte) (payload : List Byte)
  | dayEnd (tag : Byte) (payload : List Byte)
  | serviceReset (tag : Byte) (payload : List Byte)
  | readStatus (tag : Byte) (payload : List Byte)
  | alarmAck (tag : Byte) (payload : List Byte)
  | timetablePart (tag : Byte) (payload : List Byte)
  | amendChange (tag : Byte) (payload : List Byte)
  | amendCancel (tag : Byte) (payload : List Byte)
  | amendInsert (tag : Byte) (payload : List Byte)
  | inject (tag : Byte) (payload : List Byte)
  | flush (tag : Byte) (payload : List Byte)
  | hold (tag : Byte) (payload : List Byte)
  | unhold (tag : Byte) (payload : List Byte)
  | release (tag : Byte) (payload : List Byte)
  | readPlatform (tag : Byte) (payload : List Byte)
  | isolate (tag : Byte) (payload : List Byte)
  | restore (tag : Byte) (payload : List Byte)
  | readPower (tag : Byte) (payload : List Byte)
  | raise (tag : Byte) (payload : List Byte)
  | acknowledge (tag : Byte) (payload : List Byte)
  | close (tag : Byte) (payload : List Byte)
  | adopt (tag : Byte) (payload : List Byte)
  | change (tag : Byte) (payload : List Byte)
  | readIncidents (tag : Byte) (payload : List Byte)
  | announce (tag : Byte) (payload : List Byte)
  | withdraw (tag : Byte) (payload : List Byte)
  | audioDone (tag : Byte) (payload : List Byte)
  | audioFailed (tag : Byte) (payload : List Byte)
  | audioStopped (tag : Byte) (payload : List Byte)
  | audioReset (tag : Byte) (payload : List Byte)
  | samplingPoint (levels : InputLevels)
  | linebusOtherCharacter (char : Option Byte)
deriving DecidableEq, Repr

end Sys2Proof
end

