-- ==== Sys2Proof/Decode.lean ====
section
/-! DEFINITION. The commands a word of the table spells. -/

namespace Sys2Proof

/-- No row of the table carries bits, so no word spells a command (log entry 34). -/
def decodeTableWord (_nbits _w : Nat) : Option Instr := none

end Sys2Proof
end

