-- ==== Sys2Proof/Machine/State.lean ====
section
/-! DEFINITION. The state of one node as plain data, block by block, and its value after reset. -/

namespace Sys2Proof.Machine

/-! ### Small containers -/

/-- One value for each track (or platform). -/
structure PerTrack (α : Type) where
  up : α
  down : α
deriving DecidableEq, Repr

/-- One value for each of the four breakers. -/
structure PerBreaker (α : Type) where
  ul : α
  uh : α
  dl : α
  dh : α
deriving DecidableEq, Repr

/-- The three announcement zones, indexed 0, 1 and 2 (R3). -/
inductive Zone where
  | up
  | down
  | concourse
deriving DecidableEq, Repr

/-- One value for each zone. -/
structure PerZone (α : Type) where
  up : α
  down : α
  concourse : α
deriving DecidableEq, Repr

/-! ### Configuration and node state -/

/-- The eight fields CONFIGURE gives one platform (R218, fields 5 to 12 or 13 to 20). -/
structure PlatformConfig where
  wmin : Nat
  wmax : Nat
  rup : Nat
  gain : Nat
  stagger : Nat
  ldelay : Nat
  stallMargin : Nat
  hdefault : Nat
deriving DecidableEq, Repr

/-- The six templates, each a list of 1 to 6 phrase codes (R197, R218). -/
structure Templates where
  approach : List Nat
  delay : List Nat
  suspend : List Nat
  evacuate : List Nat
  stalled : List Nat
  held : List Nat
deriving DecidableEq, Repr

/-- The configuration held, after clamping (R218, R219). -/
structure NodeConfig where
  nodeCount : Nat
  timeLimit : Nat
  occupancyFilter : Nat
  channelCount : Nat
  platforms : PerTrack PlatformConfig
  templates : Templates
  numberBase : Nat
deriving DecidableEq, Repr

/-- The node states (R10). -/
inductive NodeState where
  | configuring
  | ready
  | service
deriving DecidableEq, Repr

/-- The Time Base modes (R5). -/
inductive TimeMode where
  | pulsed
  | holdover
deriving DecidableEq, Repr

/-- What the Time Base holds (R5). -/
structure TimeBase where
  service : Nat
  day : Nat
  mode : TimeMode
  run : Nat
  overrun : Bool
deriving DecidableEq, Repr

/-- What every block reads and only the Time Base and the node-state requests write. -/
structure Env where
  nodeNumber : Nat
  config : Option NodeConfig
  nodeState : NodeState
  time : TimeBase
deriving DecidableEq, Repr

/-! ### Field Interface -/

/-- A filter record; the level and the candidate are `some true` for ACTIVE, `some false` for INACTIVE, and `none` for
UNSETTLED or absent (R15). -/
structure FilterRecord where
  level : Option Bool
  candidate : Option Bool
  run : Nat
deriving DecidableEq, Repr

/-- The nine filter records (R15). -/
structure Filters where
  occupancy : PerTrack FilterRecord
  plunger : PerTrack FilterRecord
  status : PerBreaker FilterRecord
  key : FilterRecord
deriving DecidableEq, Repr

/-- An accepted change, or settlement, of an input on its way to its block: the level, `true` for ACTIVE, and the stamp, the service
time held when it was accepted (R16 to R18). The Platform Regulators read the stamp; the Power Controller's rules take the time now
held (R149), and no register of its own holds a stamp. -/
structure Accepted where
  level : Bool
  stamp : Nat
deriving DecidableEq, Repr

/-- What has been accepted and not yet delivered (R16 to R19): at most one change of an input, since a sampling point follows the
deliveries of the one before (log entry 6). A change of the LOCAL key carries no stamp (R18). -/
structure Deliveries where
  occupancy : PerTrack (Option Accepted)
  plunger : PerTrack (Option Accepted)
  status : PerBreaker (Option Accepted)
  key : Option Bool
deriving DecidableEq, Repr

/-- A breaker's output lines, `true` for ACTIVE, and its pending close pulse (R24, R25). -/
structure CoilLines where
  openLine : Bool
  closeLine : Bool
  pendingClose : Bool
deriving DecidableEq, Repr

/-- The Field Interface: filters, accepted changes, coil lines, starter lines and the alarm line (R15, R16, R24, R26). -/
structure FieldState where
  filters : Filters
  waiting : Deliveries
  coils : PerBreaker CoilLines
  starters : PerTrack Bool
  alarmLine : Bool
deriving DecidableEq, Repr

/-! ### Breaker and frame vocabulary -/

/-- The five breaker states a POWER frame can carry (R30). -/
inductive BreakerState where
  | closed
  | opening
  | opened
  | closing
  | failed
deriving DecidableEq, Repr

/-- What a STATUS frame says of one breaker (R33). -/
inductive ReportedBreaker where
  | known (st : BreakerState)
  | unknown
  | absent
deriving DecidableEq, Repr

/-- The four platform states (R88). -/
inductive PlatformState where
  | vacant
  | dwell
  | held
  | released
deriving DecidableEq, Repr

/-- The last departure of a platform (R88). -/
structure LastDeparture where
  trip : Nat
  dact : Nat
deriving DecidableEq, Repr

/-- A track set (R145). -/
inductive TrackSet where
  | up
  | down
  | both
deriving DecidableEq, Repr

/-- The ten incident kinds, in the order of their codes 1 to 10 (R145). -/
inductive IncidentKind where
  | emergencyStop
  | sectionTrip
  | breakerFail
  | uncommandedClose
  | trainStalled
  | departedUnreleased
  | delay
  | nodeLost
  | descriptionError
  | operator
deriving DecidableEq, Repr

/-- The actions of an INCIDENT frame, in the order of their codes 0 to 4 (R34). -/
inductive IncidentAction where
  | raise
  | refresh
  | change
  | close
  | adopt
deriving DecidableEq, Repr

/-- The span of an incident (R145). -/
structure Span where
  tracks : TrackSet
  first : Nat
  last : Nat
deriving DecidableEq, Repr

/-- The platform an incident names: node and track (R145). -/
structure PlatformRef where
  node : Nat
  track : Track
deriving DecidableEq, Repr

/-- The contents of a POWER frame (R30). -/
structure PowerContents where
  breaker : Breaker
  state : BreakerState
  lockoutCount : Nat
  overlock : Bool
  keyLocal : Bool
  reason : Option Nat
deriving DecidableEq, Repr

/-- The contents of an INCIDENT frame (R31). -/
structure IncidentContents where
  action : IncidentAction
  id : IncidentId
  kind : IncidentKind
  severity : Nat
  span : Span
  platform : Option PlatformRef
  trip : Option Nat
  adoptedFrom : Option Nat
  owner : Nat
  raised : Nat
  acked : Option Nat
  isolationFailed : Bool
  closeReason : Option Nat
deriving DecidableEq, Repr

/-- The contents of a DEPART frame (R32). -/
structure DepartContents where
  track : Track
  trip : Nat
  dact : Nat
  entered : Option TractionSection
  terminates : Bool
deriving DecidableEq, Repr

/-- A zone set (R34). -/
structure ZoneSet where
  up : Bool
  down : Bool
  concourse : Bool
deriving DecidableEq, Repr

/-- The contents of an ANNOUNCE frame (R32). -/
structure AnnounceContents where
  first : Nat
  last : Nat
  zones : ZoneSet
  priority : Nat
  repeats : Nat
  interval : Nat
  phrases : List Nat
deriving DecidableEq, Repr

/-- The contents of a STATUS frame (R33); `service` is set for SERVICE and clear for READY. -/
structure StatusContents where
  service : Bool
  time : Nat
  breakers : PerBreaker ReportedBreaker
  keyLocal : Bool
  holdover : Bool
  latches : PerTrack Bool
  platforms : PerTrack PlatformState
  departures : PerTrack (Option LastDeparture)
  incidents : Nat
deriving DecidableEq, Repr

/-- The seven frame classes (R29). -/
inductive FrameClass where
  | isolate
  | restore
  | power
  | incident
  | depart
  | announce
  | status
deriving DecidableEq, Repr

/-- A linebus frame: its class with the class's contents (R29 to R33). -/
inductive Frame where
  | isolate (sec : TractionSection) (id : IncidentId)
  | restore (sec : TractionSection) (requester : Nat) (id : Option IncidentId)
  | power (c : PowerContents)
  | incident (c : IncidentContents)
  | depart (c : DepartContents)
  | announce (c : AnnounceContents)
  | status (c : StatusContents)
deriving DecidableEq, Repr

/-! ### Linebus Controller -/

/-- The frame in hand, its attempt count, and the mark that SERVICE RESET leaves on a DEPART or ANNOUNCE frame being
sent, so that a collision removes it (R35, R49). -/
structure Hand where
  frame : Frame
  attempts : Nat
  doomed : Bool
deriving DecidableEq, Repr

/-- The transmitter states (R35); a frame in hand exists in SENDING and BACKOFF only. -/
inductive Transmitter where
  | off
  | idle
  | waiting
  | sending (h : Hand)
  | backoff (h : Hand)
deriving DecidableEq, Repr

/-- The receive assembly (R44) and the port framer (R209), with the characters of the frame in assembly. -/
inductive Assembly where
  | skip
  | seek
  | frame (taken : List Byte)
deriving DecidableEq, Repr

/-- What the Linebus Controller holds (R35, R39, R42 to R48). -/
structure Linebus where
  tx : Transmitter
  waiting : List Frame
  silent : Bool
  rx : Assembly
  idleCount : Nat
  sent : Nat
  collisions : Nat
  dropped : Nat
  checkErrors : Nat
  classErrors : Nat
  contentErrors : Nat
  truncatedErrors : Nat
  lengthErrors : Nat
  validFrames : Nat
  errorPending : Bool
  errorAge : Nat
  advances : Nat
  statusDue : Bool
deriving DecidableEq, Repr

/-! ### Peer View -/

/-- A peer's liveness (R50). -/
inductive Liveness where
  | unheard
  | current
  | stale
  | lost
deriving DecidableEq, Repr

/-- The lockout count and OVERLOCK flag of a breaker report, written by POWER frames (R50). -/
structure ReportedLockout where
  count : Nat
  overlock : Bool
deriving DecidableEq, Repr

/-- A breaker report (R50); `byPower` tells the class that last wrote the state. -/
structure BreakerReport where
  state : BreakerState
  keyLocal : Bool
  lockout : Option ReportedLockout
  reason : Option Nat
  byPower : Bool
deriving DecidableEq, Repr

/-- The last STATUS of a peer with the service time at which it was taken (R50). -/
structure LastStatus where
  contents : StatusContents
  takenAt : Nat
deriving DecidableEq, Repr

/-- An entry of the peer table (R50). -/
structure PeerEntry where
  liveness : Liveness
  silence : Nat
  lastHeard : Option Nat
  lastStatus : Option LastStatus
  reports : PerBreaker (Option BreakerReport)
deriving DecidableEq, Repr

/-- An entry of the recent-starts table (R58); `lapsed` marks a lapse that has been made known. -/
structure StartEntry where
  start : Option Nat
  age : Nat
  lapsed : Bool
deriving DecidableEq, Repr

/-- What the Peer View holds (R50, R58, R61). -/
structure PeerView where
  table : List PeerEntry
  starts : List StartEntry
  lostLow : Option IncidentId
  lostHigh : Option IncidentId
deriving DecidableEq, Repr

/-! ### Timetable Store and Train Describer -/

/-- The four entry states (R63). -/
inductive EntryState where
  | pending
  | inUse
  | consumed
  | cancelled
deriving DecidableEq, Repr

/-- A timetable entry; its platform is the sequence it stands in (R63). -/
structure Entry where
  trip : Nat
  arrival : Option Nat
  departure : Nat
  phrase : Nat
  terminates : Bool
  isFirst : Bool
  state : EntryState
deriving DecidableEq, Repr

/-- The load state (R65). -/
inductive LoadState where
  | empty
  | loading (total next : Nat)
  | loaded
  | failed
deriving DecidableEq, Repr

/-- What the Timetable Store holds (R63, R65). -/
structure Timetable where
  sequences : PerTrack (List Entry)
  load : LoadState
  lastPart : Option Nat
deriving DecidableEq, Repr

/-- How a train came into an approaching queue (R75). -/
inductive ApproachSource where
  | heard
  | injected
deriving DecidableEq, Repr

/-- An entry of an approaching queue (R75). -/
structure Approach where
  trip : Nat
  upstream : Nat
  source : ApproachSource
  stallRaised : Bool
  stallId : Option IncidentId
deriving DecidableEq, Repr

/-! ### Platform Regulators -/

/-- The dwell modes (R88). -/
inductive DwellMode where
  | regulated
  | manual
deriving DecidableEq, Repr

/-- The outcome of the match (R83, R84). -/
inductive MatchOutcome where
  | identified
  | unidentified
deriving DecidableEq, Repr

/-- The hold-reason set (R88, R99). -/
structure Reasons where
  power : Bool
  incident : Bool
  estop : Bool
  stagger : Bool
  operator : Bool
deriving DecidableEq, Repr

/-- The dwell fields of a platform record (R88). `entry` is the trip of the IN_USE entry, absent for EXTRA and MANUAL;
`headway` is the H of the arrival, which R97 reads again. -/
structure Dwell where
  mode : DwellMode
  trip : Nat
  entry : Option Nat
  outcome : Option MatchOutcome
  skipped : Nat
  arrival : Nat
  scheduled : Option Nat
  target : Option Nat
  deviation : Option Int
  targetOver : Bool
  reasons : Reasons
  staggerOpen : Bool
  staggerTime : Option Nat
  followerAvailable : Bool
  grace : Option Nat
  heldLong : Bool
  headway : Nat
deriving DecidableEq, Repr

/-- The three states of an occupied platform (R88). -/
inductive Phase where
  | dwell
  | held
  | released
deriving DecidableEq, Repr

/-- A platform's state with its dwell fields, which are present exactly while it is not VACANT (R88). -/
inductive Standing where
  | vacant
  | occupied (phase : Phase) (d : Dwell)
deriving DecidableEq, Repr

/-- A pending amendment of the IN_USE entry (R73). -/
inductive Amendment where
  | cancel
  | change (departure : Nat)
deriving DecidableEq, Repr

/-- A platform record (R88). -/
structure Platform where
  standing : Standing
  lastDeparture : Option LastDeparture
  delayId : Option IncidentId
  amendment : Option Amendment
deriving DecidableEq, Repr

/-! ### Power Controller -/

/-- A command in flight: its count, the time limit it was issued with, whether it is an open command that overtook a
close, and the passing mark (R116, R118, R120). -/
structure Command where
  count : Nat
  limit : Nat
  overtook : Bool
  passing : Bool
deriving DecidableEq, Repr

/-- A breaker's state with the command in flight of OPENING and CLOSING (R116). -/
inductive Condition where
  | closed
  | opening (c : Command)
  | opened
  | closing (c : Command)
  | failed
deriving DecidableEq, Repr

/-- A restore wait of a high end (R137). -/
structure RestoreWait where
  fromPort : Bool
  requester : Nat
  id : Option IncidentId
  count : Nat
deriving DecidableEq, Repr

/-- The derived state of a section (R127). -/
inductive SectionState where
  | live
  | dead
  | unsure
deriving DecidableEq, Repr

/-- A breaker record (R116) with the state of the section it feeds (R127). -/
structure BreakerRecord where
  condition : Option Condition
  inputClosed : Option Bool
  lockout : List IncidentId
  overlock : Bool
  failId : Option IncidentId
  wait : Option RestoreWait
  sectionState : Option SectionState
deriving DecidableEq, Repr

/-- An emergency-stop latch (R139). -/
structure Latch where
  isSet : Bool
  id : Option IncidentId
  ignored : Nat
deriving DecidableEq, Repr

/-- What the Power Controller holds; an absent breaker has no record (R4, R116, R139, R142). -/
structure Power where
  breakers : PerBreaker (Option BreakerRecord)
  latches : PerTrack Latch
  keyLocal : Bool
deriving DecidableEq, Repr

/-! ### Incident Table -/

/-- The states of an isolation item (R132). -/
inductive ItemState where
  | pending
  | confirmed
  | failed
deriving DecidableEq, Repr

/-- An isolation item (R145). -/
structure IsolationItem where
  sec : TractionSection
  sends : Nat
  repeats : Nat
  state : ItemState
deriving DecidableEq, Repr

/-- The fields of a record while it is local (R145). -/
structure Owned where
  acknowledged : Bool
  floor : Nat
  isolation : List IsolationItem
  refresh : Nat
  age : Nat
deriving DecidableEq, Repr

/-- The fields of a record while it is a copy (R145). -/
structure CopyPart where
  orphan : Bool
  silence : Nat
deriving DecidableEq, Repr

/-- A record is local (OPEN or ACKED) or a copy (REMOTE or ORPHAN) (R145). -/
inductive Holding where
  | owned (o : Owned)
  | copy (c : CopyPart)
deriving DecidableEq, Repr

/-- An incident record (R145). -/
structure Incident where
  id : IncidentId
  kind : IncidentKind
  severity : Nat
  span : Span
  platform : Option PlatformRef
  trip : Option Nat
  owner : Nat
  adoptedFrom : Option Nat
  raised : Nat
  acked : Option Nat
  isolationFailed : Bool
  holding : Holding
  admission : Nat
deriving DecidableEq, Repr

/-- What the Incident Table holds; the records stand in admission order (R145, R147, R164). -/
structure IncidentTable where
  records : List Incident
  lastSerial : Nat
  nextAdmission : Nat
  alarm : Bool
deriving DecidableEq, Repr

/-! ### Record Store -/

/-- The holder of a block (R168). -/
inductive Holder where
  | incident (id : IncidentId)
  | message (id part : Nat)
deriving DecidableEq, Repr

/-- The block map, `none` for FREE, and the refusal count (R168). -/
structure Store where
  blocks : List (Option Holder)
  refusals : Nat
deriving DecidableEq, Repr

/-! ### Announcement Controller -/

/-- What withdraws a chain (R175, R193). -/
inductive Link where
  | incident (id : IncidentId)
  | traction (sec : TractionSection)
deriving DecidableEq, Repr

/-- The origins of a message (R175). -/
inductive Origin where
  | operator
  | timetable
  | incident
  | power
  | peer
deriving DecidableEq, Repr

/-- The automatic kinds (R197). -/
inductive AutoKind where
  | approach
  | delay
  | suspend
  | evacuate
  | stalled
  | held
deriving DecidableEq, Repr

/-- A member of a chain: what is its own and not the chain's (R175). -/
structure Member where
  id : Nat
  phrases : List Nat
  attempts : Nat
deriving DecidableEq, Repr

/-- A chain's place (R175). -/
inductive Place where
  | waiting
  | onChannel
deriving DecidableEq, Repr

/-- A chain: its members in order and the fields its rules read from the chain head (R175). -/
structure Chain where
  members : List Member
  priority : Nat
  repeats : Nat
  interval : Nat
  notBefore : Option Nat
  notBeforeDue : Bool
  expiry : Option Nat
  link : Option Link
  origin : Origin
  kind : Option AutoKind
  order : Int
  place : Place
deriving DecidableEq, Repr

/-- The causes of a stop (R182). -/
inductive StopCause where
  | preempt
  | withdraw
  | deadline
deriving DecidableEq, Repr

/-- A channel record (R182); `began` is the service time at which its present chain began to play. -/
inductive Channel where
  | idle
  | playing (zone : Zone) (message count began : Nat)
  | stopping (zone : Zone) (message : Nat) (cause : StopCause) (count began : Nat)
deriving DecidableEq, Repr

/-- A zone's fault record (R182). -/
structure FaultRecord where
  fault : Bool
  run : Nat
deriving DecidableEq, Repr

/-- What the Announcement Controller holds (R175 to R182). -/
structure Announcer where
  queues : PerZone (List Chain)
  channels : List Channel
  faults : PerZone FaultRecord
  lastMessageId : Nat
  nextOrder : Int
deriving DecidableEq, Repr

/-! ### Reports -/

/-- Why a chain was not admitted or was discarded (R178, R180). -/
inductive DropCause where
  | expired
  | store
  | queue
  | displaced
  | failed
  | withdrawn
deriving DecidableEq, Repr

/-- The causes of a TX_DROP report (R43). -/
inductive TxDropCause where
  | attempts
  | evicted
  | full
deriving DecidableEq, Repr

/-- The classifications of a departure (R107). -/
inductive DepartureClass where
  | normal
  | lateWithdraw
  | unreleased
deriving DecidableEq, Repr

/-- The causes of a breaker's change of state (R130, event 1). -/
inductive ChangeCause where
  | arrival
  | expiry
  | trip
  | uncommandedClose
  | settlement
  | followInput
deriving DecidableEq, Repr

/-- The events of INCIDENT reports that carry a record, in the order of their codes; 2, raise lost, and 8, copy
refused, carry none of the table (R165). -/
inductive IncidentEvent where
  | raised
  | acknowledged
  | changed
  | escalated
  | closed (reason : Nat)
  | copyStored
  | copyRefused
  | copyUpdated
  | dropped
  | evicted
  | orphaned
  | adopted
  | yielded
deriving DecidableEq, Repr

/-- The contents of an arrival report (R96). -/
structure ArrivalContents where
  track : Track
  trip : Nat
  arrival : Nat
  outcome : Option MatchOutcome
  skipped : Nat
  entry : Option Nat
  scheduled : Option Nat
  target : Option Nat
  deviation : Option Int
  gain : Option Nat
deriving DecidableEq, Repr

/-- The five receive error counters (R45). -/
structure ErrorCounters where
  check : Nat
  cls : Nat
  content : Nat
  truncated : Nat
  length : Nat
deriving DecidableEq, Repr

/-- The events of all reports, by channel, with what each carries (R217). -/
inductive ReportBody where
  -- NODE
  | started (node : Nat)
  | holdoverBegun
  | holdoverEnded
  | dayOverrun
  | silent (node : Nat)
  | frameErrors (c : ErrorCounters)
  | txDrop (cause : TxDropCause) (cls : FrameClass) (payload : List Byte)
  | peerLiveness (peer : Nat) (before after : Liveness)
  | lateWithdraw (t : Track) (trip dact : Nat)
  | messageDropped (message : Option Nat) (zone : Zone) (origin : Origin) (kind : Option AutoKind) (cause : DropCause)
  | zoneFaultBegun (zone : Zone)
  | zoneFaultEnded (zone : Zone)
  | requestOverrun (channel kind tag : Byte)
  -- PLATFORM
  | arrival (c : ArrivalContents)
  | recomputation (t : Track) (target : Nat) (deviation : Option Int) (gain : Nat)
  | stateAndSet (t : Track) (phase : Phase) (reasons : Reasons)
  | departed (t : Track) (trip dact : Nat) (cls : DepartureClass) (lateness : Option Int)
  | outOfStep (t : Track) (rise : Bool) (stamp : Nat)
  | queueAddition (t : Track) (trip upstream : Nat) (source : ApproachSource) (length : Nat)
  | offerRefused (t : Track) (duplicate : Bool) (trip upstream : Nat)
  | flushed (t : Track) (trip : Nat)
  | amendmentDropped (t : Track) (trip departure : Nat)
  -- POWER
  | breakerChange (br : Breaker) (state : BreakerState) (cause : Option ChangeCause)
  | lockoutChange (br : Breaker) (count : Nat) (overlock : Bool)
  | sectionChange (sec : TractionSection) (before after : SectionState)
  | itemChange (id : IncidentId) (sec : TractionSection) (state : ItemState)
  | latchSet (t : Track) (id : Option IncidentId)
  | latchCleared (t : Track) (id : Option IncidentId)
  | plungerPressed (t : Track) (ignored : Nat)
  | plungerReleased (t : Track)
  | keyChange (isSet : Bool)
  | restoreRefused (sec : TractionSection) (requester reason : Nat)
  -- INCIDENT
  | incident (event : IncidentEvent) (record : Incident)
  | raiseLost (kind : IncidentKind) (span : Span) (platform : Option PlatformRef) (trip : Option Nat)
  -- ANNOUNCE
  | play (channel : Nat) (zone : Zone) (message : Nat) (phrases : List Nat)
  | stop (channel : Nat) (zone : Zone) (message : Nat) (cause : Option StopCause)
deriving DecidableEq, Repr

/-- Which part of a divided report this is (R216). -/
structure PartMark where
  number : Nat
  isLast : Bool
deriving DecidableEq, Repr

/-- A report in the report queue: its event and contents, the service time at which it was queued, and its part when
it had to be divided (R215, R216). -/
structure Report where
  body : ReportBody
  time : Nat
  part : Option PartMark
deriving DecidableEq, Repr

/-! ### Station Port -/

/-- A frame of the answer queue: an ANSWER or a NAK (R207, R212, R210). -/
structure AnswerFrame where
  isNak : Bool
  channel : Byte
  tag : Byte
  payload : List Byte
deriving DecidableEq, Repr

/-- The frame on SPTX; a report carries the discard count it was taken with (R214, R215). -/
inductive PortOut where
  | answer (f : AnswerFrame)
  | report (r : Report) (discard : Nat)
deriving DecidableEq, Repr

/-- What the Station Port holds; `tx` is absent in IDLE (R209, R214, R215, R222). -/
structure Port where
  framer : Assembly
  quietTime : Nat
  tx : Option PortOut
  answers : List AnswerFrame
  reports : List Report
  discard : Nat
  requestFrames : Nat
  nakLength : Nat
  nakCheck : Nat
  nakChannel : Nat
  nakKind : Nat
  truncated : Nat
  overrun : Nat
  reportsDiscarded : Nat
  answersSent : Nat
  reportsSent : Nat
deriving DecidableEq, Repr

/-! ### The whole node -/

/-- The blocks that a step reads and writes under a fixed `Env`. -/
structure Blocks where
  field : FieldState
  bus : Linebus
  peers : PeerView
  timetable : Timetable
  describer : PerTrack (List Approach)
  platforms : PerTrack Platform
  power : Power
  incidents : IncidentTable
  store : Store
  announce : Announcer
  port : Port
deriving DecidableEq, Repr

/-- One node. -/
structure Node where
  env : Env
  blk : Blocks
deriving DecidableEq, Repr

/-- The state of the machine: the node, and the commands that wait for it, first in first out. -/
structure State where
  node : Node
  pending : List Instr
deriving DecidableEq, Repr

/-- The reasons a step could stop with a fault: none. No rule of the part stops it, and no meaning answers a fault, so
nobody raises one (safe: there is nothing to raise). -/
inductive Fault where
deriving DecidableEq, Repr

/-- The reasons a step could be refused. -/
inductive Refusal where
  /-- A command that has no meaning yet, refused by name in `exec`'s arm alone (safe). No arm of this model uses it. -/
  | notModelled (mnemonic : String)
deriving DecidableEq, Repr

/-! ### Reset -/

/-- An input whose filter has just been started (R20, R21). -/
def FilterRecord.unsettled : FilterRecord := { level := none, candidate := none, run := 0 }

/-- No accepted change waits. -/
def Deliveries.empty : Deliveries :=
  { occupancy := ⟨none, none⟩, plunger := ⟨none, none⟩, status := ⟨none, none, none, none⟩, key := none }

/-- A breaker's lines at rest (R24). -/
def CoilLines.rest : CoilLines := { openLine := false, closeLine := false, pendingClose := false }

/-- A peer never heard (R50). -/
def PeerEntry.unheard : PeerEntry :=
  { liveness := .unheard, silence := 0, lastHeard := none, lastStatus := none, reports := ⟨none, none, none, none⟩ }

/-- A recent-starts entry that is absent (R58). -/
def StartEntry.absent : StartEntry := { start := none, age := 0, lapsed := false }

/-- A platform record at reset (R88). -/
def Platform.atReset : Platform := { standing := .vacant, lastDeparture := none, delayId := none, amendment := none }

/-- The record of a present breaker at reset (R116). -/
def BreakerRecord.atReset : BreakerRecord :=
  { condition := none, inputClosed := none, lockout := [], overlock := false, failId := none, wait := none, sectionState := none }

/-- A latch at reset (R139). -/
def Latch.clear : Latch := { isSet := false, id := none, ignored := 0 }

/-- What every block reads at power-on reset, for a node whose straps read `k` (R1, R5, R10). -/
def Env.atReset (k : Nat) : Env :=
  { nodeNumber := k
    config := none
    nodeState := .configuring
    time := { service := 0, day := 0, mode := .holdover, run := 0, overrun := false } }

/-- The Linebus Controller at power-on reset (R48). -/
def Linebus.atReset : Linebus :=
  { tx := .off, waiting := [], silent := false, rx := .skip, idleCount := 0
    sent := 0, collisions := 0, dropped := 0
    checkErrors := 0, classErrors := 0, contentErrors := 0, truncatedErrors := 0, lengthErrors := 0, validFrames := 0
    errorPending := false, errorAge := Config.errorReportPeriod, advances := 0, statusDue := false }

/-- The Station Port at power-on reset, with the STARTED report on SPTX: it is queued as the last act of reset and an
idle transmitter takes it at once (R221, R214). -/
def Port.atReset (k : Nat) : Port :=
  { framer := .skip, quietTime := 0
    tx := some (.report { body := .started k, time := 0, part := none } 0)
    answers := [], reports := [], discard := 0
    requestFrames := 0, nakLength := 0, nakCheck := 0, nakChannel := 0, nakKind := 0, truncated := 0, overrun := 0
    reportsDiscarded := 0, answersSent := 0, reportsSent := 0 }

/-- The blocks at power-on reset. A breaker has a record when it is present under the provisional node count: UL and DL
for k ≥ 1, UH and DH for k ≤ 30 (R4, R116). -/
def Blocks.atReset (k : Nat) : Blocks :=
  let low := if 1 ≤ k then some BreakerRecord.atReset else none
  let high := if k + 2 ≤ Config.provisionalNodeCount then some BreakerRecord.atReset else none
  { field :=
      { filters :=
          { occupancy := ⟨.unsettled, .unsettled⟩
            plunger := ⟨.unsettled, .unsettled⟩
            status := ⟨.unsettled, .unsettled, .unsettled, .unsettled⟩
            key := .unsettled }
        waiting := .empty
        coils := ⟨.rest, .rest, .rest, .rest⟩
        starters := ⟨false, false⟩
        alarmLine := false }
    bus := .atReset
    peers :=
      { table := List.replicate 32 .unheard, starts := List.replicate 32 .absent, lostLow := none, lostHigh := none }
    timetable := { sequences := ⟨[], []⟩, load := .empty, lastPart := none }
    describer := ⟨[], []⟩
    platforms := ⟨.atReset, .atReset⟩
    power := { breakers := ⟨low, high, low, high⟩, latches := ⟨.clear, .clear⟩, keyLocal := false }
    incidents := { records := [], lastSerial := 0, nextAdmission := 1, alarm := false }
    store := { blocks := List.replicate Config.storeBlocks none, refusals := 0 }
    announce :=
      { queues := ⟨[], [], []⟩, channels := [], faults := ⟨⟨false, 0⟩, ⟨false, 0⟩, ⟨false, 0⟩⟩
        lastMessageId := 0, nextOrder := 1 }
    port := .atReset k }

/-- A node right after power-on reset with straps that read `k` (R1, R10). -/
def Node.atReset (k : Nat) : Node := { env := .atReset k, blk := .atReset k }

/-- The machine right after reset: no command waits. The straps are an input of the part; this state reads them as 0
(DESIGN CHOICE, log entry 4), and POWER_ON_RESET gives the state for any other reading. -/
def State.reset : State := { node := .atReset 0, pending := [] }

end Sys2Proof.Machine
end

