-- ==== Sys2Proof/Machine/Operands.lean ====
section
/-! DEFINITION. The operand forms: characters and numbers, the check computation, the codes of the enumerated fields, the
payloads of linebus frames in both directions, and the fields of port requests. -/

namespace Sys2Proof

/-! ### Codes of the tracks and breakers (R34, R208) -/

def Track.code : Track → Nat
  | .up => 0
  | .down => 1

def Track.ofCode : Nat → Option Track
  | 0 => some .up
  | 1 => some .down
  | _ => none

def Breaker.code : Breaker → Nat
  | .ul => 0
  | .uh => 1
  | .dl => 2
  | .dh => 3

def Breaker.ofCode : Nat → Option Breaker
  | 0 => some .ul
  | 1 => some .uh
  | 2 => some .dl
  | 3 => some .dh
  | _ => none

end Sys2Proof

namespace Sys2Proof.Machine

/-! ### Numbers and characters (R28, R208) -/

/-- One character holding a small number. -/
def char (n : Nat) : Byte := BitVec.ofNat 8 n

/-- A number in one, two or three characters, most significant first. -/
def chars1 (n : Nat) : List Byte := [char n]
def chars2 (n : Nat) : List Byte := [char (n / 256), char n]
def chars3 (n : Nat) : List Byte := [char (n / 65536), char (n / 256), char n]

/-- The number that characters hold, most significant first. -/
def num (cs : List Byte) : Nat := cs.foldl (fun acc c => acc * 256 + c.toNat) 0

/-- Optional fields: all ones in every character when absent. -/
def opt1 (o : Option Nat) : List Byte := (o.map chars1).getD [0xFF]
def opt2 (o : Option Nat) : List Byte := (o.map chars2).getD [0xFF, 0xFF]
def opt3 (o : Option Nat) : List Byte := (o.map chars3).getD [0xFF, 0xFF, 0xFF]

/-- A signed quantity in three characters, two's complement (R208). -/
def signed3 (i : Int) : List Byte := chars3 (BitVec.ofInt 24 i).toNat
def optSigned3 (o : Option Int) : List Byte := (o.map signed3).getD [0xFF, 0xFF, 0xFF]

/-- A flag in one character. -/
def flag (f : Bool) : Nat := if f then 1 else 0

/-- Reading an optional field back: absent when every character holds all ones. -/
def readOpt (cs : List Byte) : Option Nat := if cs.all (· = 0xFF) then none else some (num cs)

/-- The characters of a payload from offset `at_` on, `len` of them, and the number they hold. -/
def fieldChars (p : List Byte) (at_ len : Nat) : List Byte := (p.drop at_).take len
def field (p : List Byte) (at_ len : Nat) : Nat := num (fieldChars p at_ len)
def fieldOpt (p : List Byte) (at_ len : Nat) : Option Nat := readOpt (fieldChars p at_ len)

/-! ### The check computation (R28) -/

/-- One step of the check register. -/
def crcStep (r : Check) : Check := if r.msb then (r <<< 1) ^^^ 0x1021 else r <<< 1

/-- One character into the check register. -/
def crcChar (r : Check) (c : Byte) : Check := Nat.repeat crcStep 8 (r ^^^ (c.zeroExtend 16 <<< 8))

/-- The CRC-16 over a list of characters. -/
def crc (cs : List Byte) : Check := cs.foldl crcChar 0xFFFF

/-- The check in two characters, high byte first. -/
def checkChars (k : Check) : List Byte := chars2 k.toNat

/-! ### Codes of enumerated fields -/

def Zone.code : Zone → Nat
  | .up => 0
  | .down => 1
  | .concourse => 2

def Zone.ofCode : Nat → Option Zone
  | 0 => some .up
  | 1 => some .down
  | 2 => some .concourse
  | _ => none

/-- The zone of a platform (R3). -/
def Zone.ofTrack : Track → Zone
  | .up => .up
  | .down => .down

def BreakerState.code : BreakerState → Nat
  | .closed => 0
  | .opening => 1
  | .opened => 2
  | .closing => 3
  | .failed => 4

def BreakerState.ofCode : Nat → Option BreakerState
  | 0 => some .closed
  | 1 => some .opening
  | 2 => some .opened
  | 3 => some .closing
  | 4 => some .failed
  | _ => none

def ReportedBreaker.code : ReportedBreaker → Nat
  | .known st => st.code
  | .unknown => 5
  | .absent => 6

def ReportedBreaker.ofCode : Nat → Option ReportedBreaker
  | 5 => some .unknown
  | 6 => some .absent
  | n => (BreakerState.ofCode n).map .known

def PlatformState.code : PlatformState → Nat
  | .vacant => 0
  | .dwell => 1
  | .held => 2
  | .released => 3

def PlatformState.ofCode : Nat → Option PlatformState
  | 0 => some .vacant
  | 1 => some .dwell
  | 2 => some .held
  | 3 => some .released
  | _ => none

/-- A track set as flags, UP in the least significant place (R34, R208). -/
def TrackSet.code : TrackSet → Nat
  | .up => 1
  | .down => 2
  | .both => 3

def TrackSet.ofCode : Nat → Option TrackSet
  | 1 => some .up
  | 2 => some .down
  | 3 => some .both
  | _ => none

/-- The set of one track. -/
def TrackSet.one : Track → TrackSet
  | .up => .up
  | .down => .down

def IncidentKind.code : IncidentKind → Nat
  | .emergencyStop => 1
  | .sectionTrip => 2
  | .breakerFail => 3
  | .uncommandedClose => 4
  | .trainStalled => 5
  | .departedUnreleased => 6
  | .delay => 7
  | .nodeLost => 8
  | .descriptionError => 9
  | .operator => 10

def IncidentKind.ofCode : Nat → Option IncidentKind
  | 1 => some .emergencyStop
  | 2 => some .sectionTrip
  | 3 => some .breakerFail
  | 4 => some .uncommandedClose
  | 5 => some .trainStalled
  | 6 => some .departedUnreleased
  | 7 => some .delay
  | 8 => some .nodeLost
  | 9 => some .descriptionError
  | 10 => some .operator
  | _ => none

def IncidentAction.code : IncidentAction → Nat
  | .raise => 0
  | .refresh => 1
  | .change => 2
  | .close => 3
  | .adopt => 4

def IncidentAction.ofCode : Nat → Option IncidentAction
  | 0 => some .raise
  | 1 => some .refresh
  | 2 => some .change
  | 3 => some .close
  | 4 => some .adopt
  | _ => none

def ZoneSet.code (z : ZoneSet) : Nat := flag z.up + 2 * flag z.down + 4 * flag z.concourse

def ZoneSet.ofCode (n : Nat) : Option ZoneSet :=
  if 1 ≤ n ∧ n ≤ 7 then some ⟨n % 2 = 1, n / 2 % 2 = 1, n / 4 % 2 = 1⟩ else none

/-- The zones of a set, in zone order. -/
def ZoneSet.zones (z : ZoneSet) : List Zone :=
  (if z.up then [.up] else []) ++ (if z.down then [.down] else []) ++ (if z.concourse then [.concourse] else [])

/-- Class codes (R29). -/
def FrameClass.code : FrameClass → Byte
  | .isolate => 0x11
  | .restore => 0x12
  | .power => 0x21
  | .incident => 0x31
  | .depart => 0x41
  | .announce => 0x51
  | .status => 0x61

def FrameClass.ofCode (c : Byte) : Option FrameClass :=
  if c = 0x11 then some .isolate
  else if c = 0x12 then some .restore
  else if c = 0x21 then some .power
  else if c = 0x31 then some .incident
  else if c = 0x41 then some .depart
  else if c = 0x51 then some .announce
  else if c = 0x61 then some .status
  else none

/-- Ranks: a lower rank is sent first (R29). -/
def FrameClass.rank : FrameClass → Nat
  | .isolate => 0
  | .restore => 0
  | .power => 1
  | .incident => 2
  | .depart => 3
  | .announce => 4
  | .status => 5

def Frame.cls : Frame → FrameClass
  | .isolate _ _ => .isolate
  | .restore _ _ _ => .restore
  | .power _ => .power
  | .incident _ => .incident
  | .depart _ => .depart
  | .announce _ => .announce
  | .status _ => .status

/-- Close reasons (R154). -/
inductive CloseReason where
  | operator
  | auto
  | reset
  | evicted
  | configure
  | dayEnd
deriving DecidableEq, Repr

def CloseReason.code : CloseReason → Nat
  | .operator => 1
  | .auto => 2
  | .reset => 3
  | .evicted => 4
  | .configure => 5
  | .dayEnd => 6

/-- Refusal reasons of restores (7.4, R129). -/
inductive RefusalReason where
  | keyLocal
  | lockout
  | overlock
  | notOpen
  | incident
  | estop
  | restoreIncomplete
  | abandoned
deriving DecidableEq, Repr

def RefusalReason.code : RefusalReason → Nat
  | .keyLocal => 1
  | .lockout => 2
  | .overlock => 3
  | .notOpen => 4
  | .incident => 5
  | .estop => 6
  | .restoreIncomplete => 7
  | .abandoned => 8

/-- Status codes of answers (R212). -/
inductive Status where
  | ok
  | clamped
  | range
  | state
  | busy
  | full
  | order
  | sequence
  | duplicate
  | consumed
  | unknownId
  | noTimetable
  | platformBusy
  | estopActive
  | plungerActive
deriving DecidableEq, Repr

def Status.code : Status → Nat
  | .ok => 0
  | .clamped => 1
  | .range => 2
  | .state => 3
  | .busy => 4
  | .full => 5
  | .order => 6
  | .sequence => 7
  | .duplicate => 8
  | .consumed => 9
  | .unknownId => 10
  | .noTimetable => 11
  | .platformBusy => 12
  | .estopActive => 13
  | .plungerActive => 14

/-! ### Linebus payloads, sent (R34) -/

/-- A section in one character: track in the top bit, gap in the five lowest. -/
def sectionChar (sec : TractionSection) : Byte := char (sec.track.code * 128 + sec.gap)

/-- A platform in one character, with its node in place of the gap. -/
def platformChar (p : PlatformRef) : Byte := char (p.track.code * 128 + p.node)

/-- A last departure in five characters, all ones when absent. -/
def departureChars : Option LastDeparture → List Byte
  | some d => chars2 d.trip ++ chars3 d.dact
  | none => List.replicate 5 0xFF

def PowerContents.payload (c : PowerContents) : List Byte :=
  [char c.breaker.code, char c.state.code, char (c.lockoutCount + 64 * flag c.keyLocal + 128 * flag c.overlock)] ++ opt1 c.reason

def IncidentContents.payload (c : IncidentContents) : List Byte :=
  [char c.action.code, char c.id.origin, char c.id.serial, char c.kind.code, char c.severity, char c.span.tracks.code,
    char c.span.first, char c.span.last, (c.platform.map platformChar).getD 0xFF]
    ++ opt2 c.trip ++ opt1 c.adoptedFrom ++ chars1 c.owner ++ chars3 c.raised ++ opt3 c.acked
    ++ [char (flag c.isolationFailed)] ++ opt1 c.closeReason

def DepartContents.payload (c : DepartContents) : List Byte :=
  chars1 c.track.code ++ chars2 c.trip ++ chars3 c.dact ++ [(c.entered.map sectionChar).getD 0xFF, char (flag c.terminates)]

def AnnounceContents.payload (c : AnnounceContents) : List Byte :=
  [char c.first, char c.last, char c.zones.code, char c.priority, char c.repeats] ++ chars2 c.interval
    ++ chars1 c.phrases.length ++ c.phrases.flatMap chars2

def StatusContents.payload (c : StatusContents) : List Byte :=
  chars1 (1 + flag c.service) ++ chars3 c.time
    ++ [char c.breakers.ul.code, char c.breakers.uh.code, char c.breakers.dl.code, char c.breakers.dh.code,
      char (flag c.keyLocal + 2 * flag c.holdover + 4 * flag c.latches.up + 8 * flag c.latches.down),
      char c.platforms.up.code, char c.platforms.down.code]
    ++ departureChars c.departures.up ++ departureChars c.departures.down ++ chars1 c.incidents

/-- The payload of a frame, character by character. -/
def Frame.payload : Frame → List Byte
  | .isolate sec id => [sectionChar sec, char id.origin, char id.serial]
  | .restore sec requester id =>
    [sectionChar sec, char requester]
      ++ (id.map fun i => [char i.origin, char i.serial]).getD [0xFF, 0xFF]
  | .power c => c.payload
  | .incident c => c.payload
  | .depart c => c.payload
  | .announce c => c.payload
  | .status c => c.payload

/-- The characters of a linebus frame from source to the end of the payload: what the check covers. -/
def busBody (source cls : Byte) (payload : List Byte) : List Byte := [source, cls, char payload.length] ++ payload

/-- All characters of a linebus frame with the given check (R28). -/
def busChars (source cls : Byte) (payload : List Byte) (check : Check) : List Byte :=
  Config.busSync :: busBody source cls payload ++ checkChars check

/-- The characters of a frame as this part sends it (R28). -/
def Frame.chars (source : Nat) (f : Frame) : List Byte :=
  busChars (char source) f.cls.code f.payload (crc (busBody (char source) f.cls.code f.payload))

/-! ### Linebus payloads, received: length, content conditions and unnamed bits (R30 to R34, R45) -/

/-- A section within a line of `n` nodes. -/
def parseSection (n : Nat) (c : Byte) : Option TractionSection :=
  match Track.ofCode (c.toNat / 128) with
  | some t => if c.toNat / 32 % 4 = 0 ∧ c.toNat % 32 + 2 ≤ n then some ⟨t, c.toNat % 32⟩ else none
  | none => none

/-- A platform within a line of `n` nodes. -/
def parsePlatform (n : Nat) (c : Byte) : Option PlatformRef :=
  match Track.ofCode (c.toNat / 128) with
  | some t => if c.toNat / 32 % 4 = 0 ∧ c.toNat % 32 < n then some ⟨c.toNat % 32, t⟩ else none
  | none => none

/-- An incident id whose origin is within the line and whose serial is 1 to 255. -/
def parseId (n : Nat) (origin serial : Byte) : Option IncidentId :=
  if origin.toNat < n ∧ 1 ≤ serial.toNat then some ⟨origin.toNat, serial.toNat⟩ else none

/-- An optional field: `some none` when absent, `none` when present and bad. -/
def parseOpt {α : Type} (absent : Bool) (value : Option α) : Option (Option α) :=
  if absent then some none else value.map some

/-- A value kept under a condition. -/
def keep {α : Type} (cond : Bool) (a : α) : Option α := if cond then some a else none

/-- The breakers a node `s` has on a line of `n` nodes (R4). -/
def presentAt (n s : Nat) : Breaker → Bool
  | .ul => 1 ≤ s
  | .uh => s + 2 ≤ n
  | .dl => 1 ≤ s
  | .dh => s + 2 ≤ n

/-- The section ahead of a platform of node `s` on a line of `n` nodes (R3). -/
def sectionAheadAt (n s : Nat) : Track → Option TractionSection
  | .up => if s + 2 ≤ n then some ⟨.up, s⟩ else none
  | .down => if 1 ≤ s then some ⟨.down, s - 1⟩ else none

def parsePower (n s : Nat) : List Byte → Option PowerContents
  | [c1, c2, c3, c4] =>
    match Breaker.ofCode c1.toNat, BreakerState.ofCode c2.toNat with
    | some br, some st =>
      keep (presentAt n s br && decide (c3.toNat / 8 % 8 = 0) && decide (c3.toNat % 8 ≤ 4)
          && (decide (c4 = 0xFF) || decide (1 ≤ c4.toNat ∧ c4.toNat ≤ 15)))
        { breaker := br, state := st, lockoutCount := c3.toNat % 8, overlock := c3.toNat / 128 = 1
          keyLocal := c3.toNat / 64 % 2 = 1, reason := readOpt [c4] }
    | _, _ => none
  | _ => none

/-- The contents of an INCIDENT frame (R31, R34). A trip above 9999 that is no absent marker is a content error, the model's reading
(log entry 45). -/
def parseIncident (n : Nat) : List Byte → Option IncidentContents
  | [c1, c2, c3, c4, c5, c6, c7, c8, c9, c10, c11, c12, c13, c14, c15, c16, c17, c18, c19, c20, c21] =>
    match IncidentAction.ofCode c1.toNat, parseId n c2 c3, IncidentKind.ofCode c4.toNat, TrackSet.ofCode c6.toNat,
      parseOpt (c9 = 0xFF) (parsePlatform n c9) with
    | some action, some id, some kind, some tracks, some platform =>
      keep (decide (1 ≤ c5.toNat ∧ c5.toNat ≤ 4) && decide (c7.toNat ≤ c8.toNat) && decide (c8.toNat + 2 ≤ n)
          && ((readOpt [c10, c11]).all fun v => decide (v ≤ 9999)) && ((readOpt [c12]).all fun v => decide (v < n))
          && decide (c13.toNat < n) && decide (num [c14, c15, c16] ≤ Config.serviceTimeMax)
          && ((readOpt [c17, c18, c19]).all fun v => decide (v ≤ Config.serviceTimeMax)) && decide (c20.toNat ≤ 1)
          && ((readOpt [c21]).all fun v => decide (1 ≤ v ∧ v ≤ 15))
          && (decide (action = .close) == (readOpt [c21]).isSome))
        { action := action, id := id, kind := kind, severity := c5.toNat
          span := { tracks := tracks, first := c7.toNat, last := c8.toNat }
          platform := platform, trip := readOpt [c10, c11], adoptedFrom := readOpt [c12], owner := c13.toNat
          raised := num [c14, c15, c16], acked := readOpt [c17, c18, c19], isolationFailed := c20.toNat = 1
          closeReason := readOpt [c21] }
    | _, _, _, _, _ => none
  | _ => none

/-- The contents of a DEPART frame (R32, R34). A trip above 9999 is a content error, the model's reading (log entry 45). -/
def parseDepart (n s : Nat) : List Byte → Option DepartContents
  | [c1, c2, c3, c4, c5, c6, c7, c8] =>
    match Track.ofCode c1.toNat, parseOpt (c7 = 0xFF) (parseSection n c7) with
    | some t, some entered =>
      keep (decide (num [c2, c3] ≤ 9999) && decide (num [c4, c5, c6] ≤ Config.serviceTimeMax) && decide (c8.toNat ≤ 1)
          && (entered.all fun sec => decide (sectionAheadAt n s t = some sec)))
        { track := t, trip := num [c2, c3], dact := num [c4, c5, c6], entered := entered, terminates := c8.toNat = 1 }
    | _, _ => none
  | _ => none

/-- Phrase codes, two characters each. -/
def parsePhrases : List Byte → Option (List Nat)
  | [] => some []
  | [_] => none
  | a :: b :: rest => (parsePhrases rest).map (num [a, b] :: ·)

def parseAnnounce : List Byte → Option AnnounceContents
  | c1 :: c2 :: c3 :: c4 :: c5 :: c6 :: c7 :: c8 :: rest =>
    match ZoneSet.ofCode c3.toNat, parsePhrases rest with
    | some zones, some phrases =>
      keep (decide (c1.toNat ≤ c2.toNat) && decide (c2.toNat ≤ 31) && decide (c4.toNat ≤ 7) && decide (c5.toNat ≤ 15)
          && decide (50 ≤ num [c6, c7] ∧ num [c6, c7] ≤ 6000) && decide (1 ≤ c8.toNat ∧ c8.toNat ≤ 16)
          && decide (phrases.length = c8.toNat) && (phrases.all fun v => decide (v ≤ 4095)))
        { first := c1.toNat, last := c2.toNat, zones := zones, priority := c4.toNat, repeats := c5.toNat
          interval := num [c6, c7], phrases := phrases }
    | _, _ => none
  | _ => none

/-- A last departure: absent, or a trip and a Dact in range. -/
def parseDeparture (c1 c2 c3 c4 c5 : Byte) : Option (Option LastDeparture) :=
  parseOpt ([c1, c2, c3, c4, c5].all (· = 0xFF))
    (keep (decide (num [c1, c2] ≤ 9999) && decide (num [c3, c4, c5] ≤ Config.serviceTimeMax)) ⟨num [c1, c2], num [c3, c4, c5]⟩)

/-- A breaker that the receiver's line model gives as absent at the source must be reported ABSENT (R33). -/
def absentAgrees (n s : Nat) (br : Breaker) (r : ReportedBreaker) : Bool := presentAt n s br || decide (r = .absent)

def parseStatus (n s : Nat) : List Byte → Option StatusContents
  | [c1, c2, c3, c4, c5, c6, c7, c8, c9, c10, c11, c12, c13, c14, c15, c16, c17, c18, c19, c20, c21, c22] =>
    match ReportedBreaker.ofCode c5.toNat, ReportedBreaker.ofCode c6.toNat, ReportedBreaker.ofCode c7.toNat,
      ReportedBreaker.ofCode c8.toNat, PlatformState.ofCode c10.toNat, PlatformState.ofCode c11.toNat,
      parseDeparture c12 c13 c14 c15 c16, parseDeparture c17 c18 c19 c20 c21 with
    | some ul, some uh, some dl, some dh, some pu, some pd, some du, some dd =>
      keep (decide (c1.toNat = 1 ∨ c1.toNat = 2) && decide (num [c2, c3, c4] ≤ Config.serviceTimeMax)
          && decide (c9.toNat < 16) && decide (c22.toNat ≤ 32)
          && absentAgrees n s .ul ul && absentAgrees n s .uh uh && absentAgrees n s .dl dl && absentAgrees n s .dh dh)
        { service := c1.toNat = 2, time := num [c2, c3, c4], breakers := ⟨ul, uh, dl, dh⟩
          keyLocal := c9.toNat % 2 = 1, holdover := c9.toNat / 2 % 2 = 1
          latches := ⟨c9.toNat / 4 % 2 = 1, c9.toNat / 8 % 2 = 1⟩, platforms := ⟨pu, pd⟩, departures := ⟨du, dd⟩
          incidents := c22.toNat }
    | _, _, _, _, _, _, _, _ => none
  | _ => none

def parseIsolate (n : Nat) : List Byte → Option Frame
  | [c1, c2, c3] =>
    match parseSection n c1, parseId n c2 c3 with
    | some sec, some id => some (.isolate sec id)
    | _, _ => none
  | _ => none

def parseRestore (n : Nat) : List Byte → Option Frame
  | [c1, c2, c3, c4] =>
    match parseSection n c1, parseOpt (c3 = 0xFF && c4 = 0xFF) (parseId n c3 c4) with
    | some sec, some id => keep (c2.toNat < n) (.restore sec c2.toNat id)
    | _, _ => none
  | _ => none

/-- The frame a payload of class `cls` from source `s` holds on a line of `n` nodes, or `none` for a content error. -/
def parseFrame (n s : Nat) (cls : FrameClass) (p : List Byte) : Option Frame :=
  if s < n then
    match cls with
    | .isolate => parseIsolate n p
    | .restore => parseRestore n p
    | .power => (parsePower n s p).map .power
    | .incident => (parseIncident n p).map .incident
    | .depart => (parseDepart n s p).map .depart
    | .announce => (parseAnnounce p).map .announce
    | .status => (parseStatus n s p).map .status
  else none

/-! ### Port frames (R207) -/

/-- The characters of a port frame from length to the end of the payload: what the check covers. -/
def portBody (channel kind tag : Byte) (payload : List Byte) : List Byte := [char payload.length, channel, kind, tag] ++ payload

/-- All characters of a port frame with the given check. -/
def portChars (channel kind tag : Byte) (payload : List Byte) (check : Check) : List Byte :=
  Config.portStart :: portBody channel kind tag payload ++ checkChars check

/-- The channels of the station port, in the order of their codes 1 to 6. -/
inductive PortChannel where
  | node
  | timetable
  | platform
  | power
  | incident
  | announce
deriving DecidableEq, Repr

def PortChannel.code : PortChannel → Nat
  | .node => 1
  | .timetable => 2
  | .platform => 3
  | .power => 4
  | .incident => 5
  | .announce => 6

/-- How many request kinds each channel has, numbered from 1 in the request table's order (R207, R211). -/
def requestKinds (channel : Nat) : Nat :=
  match channel with
  | 1 => 6
  | 2 => 4
  | 3 => 4
  | 4 => 3
  | 5 => 6
  | 6 => 6
  | _ => 0

/-- The kinds the node sends (R207). -/
def kindAnswer : Byte := 0x80
def kindNak : Byte := 0x81
def kindReport : Byte := 0x82

/-! ### Fields of port requests (R208, R211) -/

/-- A section in two characters; `none` when the track is neither UP nor DOWN. -/
def fieldSection (p : List Byte) (at_ : Nat) : Option TractionSection :=
  (Track.ofCode (field p at_ 1)).map fun t => ⟨t, field p (at_ + 1) 1⟩

/-- An incident id in two characters, present or all ones. -/
def fieldId (p : List Byte) (at_ : Nat) : IncidentId := ⟨field p at_ 1, field p (at_ + 1) 1⟩
def fieldIdOpt (p : List Byte) (at_ : Nat) : Option IncidentId := (fieldOpt p at_ 2).map fun _ => fieldId p at_

/-- The entry of a TIMETABLE PART or of an AMEND INSERT, as it stands in the request. -/
structure EntryRequest where
  platform : Nat
  terminates : Bool
  isFirst : Bool
  trip : Nat
  arrival : Option Nat
  departure : Nat
  phrase : Nat
deriving DecidableEq, Repr

/-- The platform and flags character: the platform in bits 0 to 5, TERMINATES in bit 6, FIRST in bit 7 (R211 names
the three in one character and gives no places: DESIGN CHOICE, log entry 10). -/
def fieldPlatformFlags (c : Nat) : Nat × Bool × Bool := (c % 64, c / 64 % 2 = 1, c / 128 % 2 = 1)

/-- A timetable entry of 11 characters (R211). -/
def fieldEntry (p : List Byte) (at_ : Nat) : EntryRequest :=
  let pf := fieldPlatformFlags (field p at_ 1)
  { platform := pf.1, terminates := pf.2.1, isFirst := pf.2.2, trip := field p (at_ + 1) 2, arrival := fieldOpt p (at_ + 3) 3
    departure := field p (at_ + 6) 3, phrase := field p (at_ + 9) 2 }

/-- A TIMETABLE PART request (R65). -/
structure PartRequest where
  total : Nat
  index : Nat
  entries : List EntryRequest
deriving DecidableEq, Repr

/-- The fields of a TIMETABLE PART whose shape is good. -/
def readPart (p : List Byte) : PartRequest :=
  { total := field p 0 1, index := field p 1 1
    entries := (List.range (field p 2 1)).map fun i => fieldEntry p (3 + 11 * i) }

/-- The shape of a TIMETABLE PART: an entry count of 1 to 8 and the length that goes with it (R211). R211
step 2 refuses another entry count with no effect, before the request is handed to the owner whose steps R65 gives (log entry 49). -/
def shapePart (p : List Byte) : Bool :=
  decide (1 ≤ field p 2 1 ∧ field p 2 1 ≤ 8) && decide (p.length = 3 + 11 * field p 2 1)

/-- The amendment kind's code: CHANGE, CANCEL, INSERT (R69, R208). -/
def amendKindChange : Nat := 0
def amendKindCancel : Nat := 1
def amendKindInsert : Nat := 2

/-- The shape of an AMEND of one kind: that kind's code and that kind's length (R211). -/
def shapeAmend (kind len : Nat) (p : List Byte) : Bool := decide (field p 0 1 = kind) && decide (p.length = len)

/-- The entry of an AMEND INSERT, whose platform and trip are the AMEND's own fields (R211). -/
def fieldInsert (p : List Byte) : EntryRequest :=
  let pf := fieldPlatformFlags (field p 1 1)
  { platform := pf.1, terminates := pf.2.1, isFirst := pf.2.2, trip := field p 2 2, arrival := fieldOpt p 4 3
    departure := field p 7 3, phrase := field p 10 2 }

/-- The members of an ANNOUNCE: `count` of them, each a phrase count of 1 to 16 and that many codes, and nothing left. -/
def parseMembers : Nat → List Byte → Option (List (List Nat))
  | 0, [] => some []
  | 0, _ :: _ => none
  | _ + 1, [] => none
  | k + 1, c :: rest =>
    if 1 ≤ c.toNat ∧ c.toNat ≤ 16 ∧ 2 * c.toNat ≤ rest.length then
      match parsePhrases (rest.take (2 * c.toNat)), parseMembers k (rest.drop (2 * c.toNat)) with
      | some ph, some ms => some (ph :: ms)
      | _, _ => none
    else none

/-- What the withdraw-on field of an ANNOUNCE holds (R211). -/
inductive LinkField where
  | absent
  | incident (id : IncidentId)
  | traction (sec : Option TractionSection)
  | bad
deriving DecidableEq, Repr

/-- An ANNOUNCE request (R195). -/
structure AnnounceRequest where
  zones : Nat
  priority : Nat
  repeats : Nat
  interval : Nat
  notBefore : Option Nat
  expiry : Option Nat
  link : LinkField
  first : Option Nat
  last : Option Nat
  members : List (List Nat)
deriving DecidableEq, Repr

/-- The withdraw-on field: none, an incident or a section, then the id or section (R211). Code 0 alone says that there is none, whatever
the two characters after it hold, and all ones are a code beyond the last: the model's choice (log entry 64). -/
def fieldLink (p : List Byte) (at_ : Nat) : LinkField :=
  match field p at_ 1 with
  | 0 => .absent
  | 1 => .incident (fieldId p (at_ + 1))
  | 2 => .traction (fieldSection p (at_ + 1))
  | _ => .bad

/-- The members of an ANNOUNCE payload, when its shape is good: at most 92 characters, a member count of 1 to 3 and members that
fill the payload exactly (R211). -/
def announceMembers (p : List Byte) : Option (List (List Nat)) :=
  if 17 < p.length ∧ p.length ≤ Config.announcePayloadMax ∧ 1 ≤ field p 16 1 ∧ field p 16 1 ≤ 3 then parseMembers (field p 16 1) (p.drop 17) else none

/-- The fields of an ANNOUNCE whose shape is good. -/
def readAnnounce (p : List Byte) : AnnounceRequest :=
  { zones := field p 0 1, priority := field p 1 1, repeats := field p 2 1, interval := field p 3 2
    notBefore := fieldOpt p 5 3, expiry := fieldOpt p 8 3, link := fieldLink p 11, first := fieldOpt p 14 1
    last := fieldOpt p 15 1, members := (announceMembers p).getD [] }

/-- A template of a CONFIGURE before clamping: its count and its six slots (R218). -/
structure RawTemplate where
  count : Nat
  slots : List Nat
deriving DecidableEq, Repr

/-- The fields of a CONFIGURE before clamping (R218). -/
structure RawConfig where
  nodeCount : Nat
  timeLimit : Nat
  occupancyFilter : Nat
  channelCount : Nat
  platforms : PerTrack PlatformConfig
  templates : List RawTemplate
  numberBase : Nat
deriving DecidableEq, Repr

/-- Two 12-bit slots in three characters, the first in the upper twelve bits (R218). -/
def slotPair (p : List Byte) (at_ : Nat) : List Nat := [field p at_ 3 / 4096, field p at_ 3 % 4096]

def fieldTemplate (p : List Byte) (at_ : Nat) : RawTemplate :=
  { count := field p at_ 1, slots := slotPair p (at_ + 1) ++ slotPair p (at_ + 4) ++ slotPair p (at_ + 7) }

def fieldPlatformConfig (p : List Byte) (at_ : Nat) : PlatformConfig :=
  { wmin := field p at_ 2, wmax := field p (at_ + 2) 2, rup := field p (at_ + 4) 2, gain := field p (at_ + 6) 1
    stagger := field p (at_ + 7) 2, ldelay := field p (at_ + 9) 2, stallMargin := field p (at_ + 11) 2
    hdefault := field p (at_ + 13) 2 }

/-- The 27 fields of a CONFIGURE payload in their places (R218). -/
def readConfig (p : List Byte) : RawConfig :=
  { nodeCount := field p 0 1, timeLimit := field p 1 1, occupancyFilter := field p 2 1, channelCount := field p 3 1
    platforms := ⟨fieldPlatformConfig p 4, fieldPlatformConfig p 19⟩
    templates := (List.range 6).map fun i => fieldTemplate p (34 + 10 * i)
    numberBase := field p 94 2 }

end Sys2Proof.Machine
end

