-- ==== Sys2Proof/Machine/Reports.lean ====
section
/-! DEFINITION. The reports of all blocks as characters: event codes, contents, division into parts, and the frames that
leave on SPTX (R215 to R217). -/

namespace Sys2Proof.Machine

/-! ### Codes of values the manual lists without tabling codes: the place in the list, from 0 (R208) -/

def NodeState.code : NodeState → Nat
  | .configuring => 0
  | .ready => 1
  | .service => 2

def TimeMode.code : TimeMode → Nat
  | .pulsed => 0
  | .holdover => 1

def Liveness.code : Liveness → Nat
  | .unheard => 0
  | .current => 1
  | .stale => 2
  | .lost => 3

def TxDropCause.code : TxDropCause → Nat
  | .attempts => 0
  | .evicted => 1
  | .full => 2

def Origin.code : Origin → Nat
  | .operator => 0
  | .timetable => 1
  | .incident => 2
  | .power => 3
  | .peer => 4

def AutoKind.code : AutoKind → Nat
  | .approach => 0
  | .delay => 1
  | .suspend => 2
  | .evacuate => 3
  | .stalled => 4
  | .held => 5

def DropCause.code : DropCause → Nat
  | .expired => 0
  | .store => 1
  | .queue => 2
  | .displaced => 3
  | .failed => 4
  | .withdrawn => 5

def DepartureClass.code : DepartureClass → Nat
  | .normal => 0
  | .lateWithdraw => 1
  | .unreleased => 2

def ChangeCause.code : ChangeCause → Nat
  | .arrival => 0
  | .expiry => 1
  | .trip => 2
  | .uncommandedClose => 3
  | .settlement => 4
  | .followInput => 5

def SectionState.code : SectionState → Nat
  | .live => 0
  | .dead => 1
  | .unsure => 2

def ItemState.code : ItemState → Nat
  | .pending => 0
  | .confirmed => 1
  | .failed => 2

def StopCause.code : StopCause → Nat
  | .preempt => 0
  | .withdraw => 1
  | .deadline => 2

def ApproachSource.code : ApproachSource → Nat
  | .heard => 0
  | .injected => 1

/-- IDENTIFIED, UNIDENTIFIED or, for a dwell without a match, MANUAL (R96). -/
def outcomeCode : Option MatchOutcome → Nat
  | some .identified => 0
  | some .unidentified => 1
  | none => 2

def Phase.state : Phase → PlatformState
  | .dwell => .dwell
  | .held => .held
  | .released => .released

/-- A hold-reason set as flags, POWER least significant (R88, R208). -/
def Reasons.code (r : Reasons) : Nat :=
  flag r.power + 2 * flag r.incident + 4 * flag r.estop + 8 * flag r.stagger + 16 * flag r.operator

/-- OPEN, ACKED, REMOTE or ORPHAN (R145). -/
def Holding.code : Holding → Nat
  | .owned o => if o.acknowledged then 1 else 0
  | .copy c => if c.orphan then 3 else 2

/-! ### Compound fields -/

def sectionChars (sec : TractionSection) : List Byte := [char sec.track.code, char sec.gap]
def idChars (id : IncidentId) : List Byte := [char id.origin, char id.serial]
def optIdChars (o : Option IncidentId) : List Byte := (o.map idChars).getD [0xFF, 0xFF]
def platformChars (o : Option PlatformRef) : List Byte :=
  (o.map fun p => [char p.node, char p.track.code]).getD [0xFF, 0xFF]
def spanChars (s : Span) : List Byte := [char s.tracks.code, char s.first, char s.last]
def itemChars (i : IsolationItem) : List Byte := sectionChars i.sec ++ [char i.sends, char i.repeats, char i.state.code]

/-- The fields of R145 that only a local record, or only a copy, has; all ones where the record has none, the local
age of a record that is no DESCRIPTION_ERROR among them (log entry 59). -/
def Holding.floorChars : Holding → List Byte
  | .owned o => chars1 o.floor
  | .copy _ => [0xFF]

/-- The fields of R145 that follow the ISOLATION_FAILED flag. The character with the number of isolation items before the items, 0 for a
copy, is the model's choice (log entry 12). -/
def Holding.tailChars (kind : IncidentKind) : Holding → List Byte
  | .owned o =>
    chars1 o.isolation.length ++ o.isolation.flatMap itemChars ++ chars1 o.refresh
      ++ opt2 (if kind = .descriptionError then some o.age else none) ++ [0xFF, 0xFF]
  | .copy c => chars1 0 ++ [0xFF, 0xFF, 0xFF] ++ chars2 c.silence

/-- A record's fields in the order of R145; the 3 characters of the admission number, and the count before the isolation items, are the
model's choice (log entry 12). -/
def Incident.fields (r : Incident) : List Byte :=
  idChars r.id ++ [char r.kind.code, char r.severity] ++ r.holding.floorChars ++ spanChars r.span ++ platformChars r.platform
    ++ opt2 r.trip ++ chars1 r.owner ++ opt1 r.adoptedFrom ++ chars1 r.holding.code ++ chars3 r.raised ++ opt3 r.acked
    ++ chars1 (flag r.isolationFailed) ++ r.holding.tailChars r.kind ++ chars3 r.admission

/-! ### Channel, event code and contents of a report (R217, R130, R165) -/

def ReportBody.channel : ReportBody → PortChannel
  | .started _ | .holdoverBegun | .holdoverEnded | .dayOverrun | .silent _ | .frameErrors _ | .txDrop _ _ _
  | .peerLiveness _ _ _ | .lateWithdraw _ _ _ | .messageDropped _ _ _ _ _ | .zoneFaultBegun _ | .zoneFaultEnded _
  | .requestOverrun _ _ _ => .node
  | .arrival _ | .recomputation _ _ _ _ | .stateAndSet _ _ _ | .departed _ _ _ _ _ | .outOfStep _ _ _
  | .queueAddition _ _ _ _ _ | .offerRefused _ _ _ _ | .flushed _ _ | .amendmentDropped _ _ _ => .platform
  | .breakerChange _ _ _ | .lockoutChange _ _ _ | .sectionChange _ _ _ | .itemChange _ _ _ | .latchSet _ _
  | .latchCleared _ _ | .plungerPressed _ _ | .plungerReleased _ | .keyChange _ | .restoreRefused _ _ _ => .power
  | .incident _ _ | .raiseLost _ _ _ _ => .incident
  | .play _ _ _ _ | .stop _ _ _ _ => .announce

/-- The event codes of INCIDENT reports (R165); an evicted local record is a close. -/
def IncidentEvent.code : IncidentEvent → Nat
  | .raised => 1
  | .acknowledged => 3
  | .changed => 4
  | .escalated => 5
  | .closed _ => 6
  | .copyStored => 7
  | .copyRefused => 8
  | .copyUpdated => 9
  | .dropped => 10
  | .evicted => 11
  | .orphaned => 12
  | .adopted => 13
  | .yielded => 14

def ReportBody.event : ReportBody → Nat
  | .started _ => 1
  | .holdoverBegun => 2
  | .holdoverEnded => 3
  | .dayOverrun => 4
  | .silent _ => 5
  | .frameErrors _ => 6
  | .txDrop _ _ _ => 7
  | .peerLiveness _ _ _ => 8
  | .lateWithdraw _ _ _ => 9
  | .messageDropped _ _ _ _ _ => 10
  | .zoneFaultBegun _ => 11
  | .zoneFaultEnded _ => 12
  | .requestOverrun _ _ _ => 13
  | .arrival _ => 1
  | .recomputation _ _ _ _ => 2
  | .stateAndSet _ _ _ => 3
  | .departed _ _ _ _ _ => 4
  | .outOfStep _ _ _ => 5
  | .queueAddition _ _ _ _ _ => 6
  | .offerRefused _ _ _ _ => 7
  | .flushed _ _ => 8
  | .amendmentDropped _ _ _ => 9
  | .breakerChange _ _ _ => 1
  | .lockoutChange _ _ _ => 2
  | .sectionChange _ _ _ => 3
  | .itemChange _ _ _ => 4
  | .latchSet _ _ => 5
  | .latchCleared _ _ => 6
  | .plungerPressed _ _ => 7
  | .plungerReleased _ => 8
  | .keyChange _ => 9
  | .restoreRefused _ _ _ => 10
  | .incident ev _ => ev.code
  | .raiseLost _ _ _ _ => 2
  | .play _ _ _ _ => 1
  | .stop _ _ _ _ => 2

/-- What follows the three fields every report begins with. Where the owner's rule takes the platform, breaker or id for
granted it stands first (DESIGN CHOICE, log entry 12). The arrival report gives EXTRA as an absent entry trip and S, and a MANUAL
arrival has skip count 0 (R96 gives no code: DESIGN CHOICE, log entry 57). The message-dropped report has the head message id first,
as R180 lists its fields, where R205 lists it fourth (DESIGN CHOICE, log entry 58). The PLAY report has a phrase count before its
phrases, and an INCIDENT report a count before its isolation items (DESIGN CHOICE, log entry 12). Of the POWER reports event 1 alone
has a cause field, since R130 names causes for it alone, where R217 has each POWER report carry its cause (DESIGN CHOICE, log entry
14). -/
def ReportBody.contents : ReportBody → List Byte
  | .started node => [char node, char NodeState.configuring.code]
  | .holdoverBegun => []
  | .holdoverEnded => []
  | .dayOverrun => []
  | .silent node => chars1 node
  | .frameErrors c => chars2 c.check ++ chars2 c.cls ++ chars2 c.content ++ chars2 c.truncated ++ chars2 c.length
  | .txDrop cause cls payload => [char cause.code, cls.code] ++ payload
  | .peerLiveness peer before after => [char peer, char before.code, char after.code]
  | .lateWithdraw t trip dact => chars1 t.code ++ chars2 trip ++ chars3 dact
  | .messageDropped message zone origin kind cause =>
    opt2 message ++ [char zone.code, char origin.code] ++ opt1 (kind.map AutoKind.code) ++ chars1 cause.code
  | .zoneFaultBegun zone => chars1 zone.code
  | .zoneFaultEnded zone => chars1 zone.code
  | .requestOverrun channel kind tag => [channel, kind, tag]
  | .arrival c =>
    chars1 c.track.code ++ chars2 c.trip ++ chars3 c.arrival ++ [char (outcomeCode c.outcome), char c.skipped]
      ++ opt2 c.entry ++ opt3 c.scheduled ++ opt3 c.target ++ optSigned3 c.deviation ++ opt1 c.gain
  | .recomputation t target deviation gain => chars1 t.code ++ chars3 target ++ optSigned3 deviation ++ chars1 gain
  | .stateAndSet t phase reasons => [char t.code, char phase.state.code, char reasons.code]
  | .departed t trip dact cls lateness => chars1 t.code ++ chars2 trip ++ chars3 dact ++ chars1 cls.code ++ optSigned3 lateness
  | .outOfStep t rise stamp => [char t.code, char (if rise then 0 else 1)] ++ chars3 stamp
  | .queueAddition t trip upstream source length =>
    chars1 t.code ++ chars2 trip ++ chars3 upstream ++ [char source.code, char length]
  | .offerRefused t duplicate trip upstream => [char t.code, char (if duplicate then 0 else 1)] ++ chars2 trip ++ chars3 upstream
  | .flushed t trip => chars1 t.code ++ chars2 trip
  | .amendmentDropped t trip departure => chars1 t.code ++ chars2 trip ++ chars3 departure
  | .breakerChange br state cause => [char br.code, char state.code] ++ opt1 (cause.map ChangeCause.code)
  | .lockoutChange br count overlock => [char br.code, char count, char (flag overlock)]
  | .sectionChange sec before after => sectionChars sec ++ [char before.code, char after.code]
  | .itemChange id sec state => idChars id ++ sectionChars sec ++ chars1 state.code
  | .latchSet t id => chars1 t.code ++ optIdChars id
  | .latchCleared t id => chars1 t.code ++ optIdChars id
  | .plungerPressed t ignored => [char t.code, char ignored]
  | .plungerReleased t => chars1 t.code
  | .keyChange isSet => chars1 (flag isSet)
  | .restoreRefused sec requester reason => sectionChars sec ++ [char requester, char reason]
  | .incident (.closed reason) r => r.fields ++ chars1 reason
  | .incident _ r => r.fields
  | .raiseLost kind span platform trip => chars1 kind.code ++ spanChars span ++ platformChars platform ++ opt2 trip
  | .play channel zone message phrases =>
    [char channel, char zone.code] ++ chars2 message ++ chars1 phrases.length ++ phrases.flatMap chars2
  | .stop channel zone message cause => [char channel, char zone.code] ++ chars2 message ++ opt1 (cause.map StopCause.code)

/-! ### Division (R216) and frames (R207, R215) -/

/-- How many parts contents of `len` characters need: one while they fit a report, else parts of `reportPartMax`. -/
def partCount (len : Nat) : Nat :=
  if len ≤ Config.reportContentsMax then 1 else (len + Config.reportPartMax - 1) / Config.reportPartMax

/-- The reports one event queues: one, or its parts in order (R216). The first part has number 1, and the contents are cut every 89
characters, whatever field stands there: the model's choice (log entry 65). -/
def divide (body : ReportBody) (time : Nat) : List Report :=
  if body.contents.length ≤ Config.reportContentsMax then [{ body := body, time := time, part := none }]
  else
    let n := partCount body.contents.length
    (List.range n).map fun i => { body := body, time := time, part := some { number := i + 1, isLast := i + 1 = n } }

/-- A report's payload, with the discard count the transmitter took it with. -/
def Report.payload (r : Report) (discard : Nat) : List Byte :=
  [char r.body.event, char discard] ++ chars3 r.time ++
    match r.part with
    | none => r.body.contents
    | some p =>
      [char p.number, char (flag p.isLast)]
        ++ (r.body.contents.drop (Config.reportPartMax * (p.number - 1))).take Config.reportPartMax

/-- A whole port frame with its check (R207). -/
def portFrameChars (channel kind tag : Byte) (payload : List Byte) : List Byte :=
  portChars channel kind tag payload (crc (portBody channel kind tag payload))

/-- The characters that leave on SPTX for the frame being sent (R207, R214, R215). -/
def PortOut.chars : PortOut → List Byte
  | .answer f => portFrameChars f.channel (if f.isNak then kindNak else kindAnswer) f.tag f.payload
  | .report r discard => portFrameChars (char r.body.channel.code) kindReport 0 (r.payload discard)

end Sys2Proof.Machine
end

