-- ==== Sys2Proof/Machine/Access.lean ====
section
/-! DEFINITION. Reading and replacing one member of the small containers, and the updates of the blocks that every rule
writes state with. -/

namespace Sys2Proof.Machine

/-! ### Containers -/

def PerTrack.get {α : Type} (p : PerTrack α) : Track → α
  | .up => p.up
  | .down => p.down

def PerTrack.set {α : Type} (p : PerTrack α) (t : Track) (a : α) : PerTrack α :=
  match t with
  | .up => { p with up := a }
  | .down => { p with down := a }

def PerBreaker.get {α : Type} (p : PerBreaker α) : Breaker → α
  | .ul => p.ul
  | .uh => p.uh
  | .dl => p.dl
  | .dh => p.dh

def PerBreaker.set {α : Type} (p : PerBreaker α) (br : Breaker) (a : α) : PerBreaker α :=
  match br with
  | .ul => { p with ul := a }
  | .uh => { p with uh := a }
  | .dl => { p with dl := a }
  | .dh => { p with dh := a }

def PerZone.get {α : Type} (p : PerZone α) : Zone → α
  | .up => p.up
  | .down => p.down
  | .concourse => p.concourse

def PerZone.set {α : Type} (p : PerZone α) (z : Zone) (a : α) : PerZone α :=
  match z with
  | .up => { p with up := a }
  | .down => { p with down := a }
  | .concourse => { p with concourse := a }

/-- The tracks, breakers and zones in the manual's order. -/
def allTracks : List Track := [.up, .down]
def allBreakers : List Breaker := [.ul, .uh, .dl, .dh]
def allZones : List Zone := [.up, .down, .concourse]

/-- One entry of a list replaced; the list is left as it is when it has no such entry. -/
def modifyAt {α : Type} (l : List α) (i : Nat) (f : α → α) : List α :=
  match l[i]? with
  | some a => l.set i (f a)
  | none => l

/-- A counter that rises by one and holds at its limit. -/
def countUp (limit n : Nat) : Nat := if n < limit then n + 1 else n

/-! ### Updates of the blocks -/

def Blocks.setField (b : Blocks) (f : FieldState) : Blocks := { b with field := f }
def Blocks.setBus (b : Blocks) (l : Linebus) : Blocks := { b with bus := l }
def Blocks.setPeers (b : Blocks) (p : PeerView) : Blocks := { b with peers := p }
def Blocks.setTimetable (b : Blocks) (t : Timetable) : Blocks := { b with timetable := t }
def Blocks.setApproach (b : Blocks) (t : Track) (q : List Approach) : Blocks := { b with describer := b.describer.set t q }
def Blocks.setPlatform (b : Blocks) (t : Track) (p : Platform) : Blocks := { b with platforms := b.platforms.set t p }
def Blocks.setPower (b : Blocks) (p : Power) : Blocks := { b with power := p }
def Blocks.setIncidents (b : Blocks) (i : IncidentTable) : Blocks := { b with incidents := i }
def Blocks.setStore (b : Blocks) (s : Store) : Blocks := { b with store := s }
def Blocks.setAnnounce (b : Blocks) (a : Announcer) : Blocks := { b with announce := a }
def Blocks.setPort (b : Blocks) (p : Port) : Blocks := { b with port := p }

/-- A breaker's record replaced; an absent breaker keeps none (R4). -/
def Blocks.setBreaker (b : Blocks) (br : Breaker) (r : BreakerRecord) : Blocks :=
  match b.power.breakers.get br with
  | some _ => b.setPower { b.power with breakers := b.power.breakers.set br (some r) }
  | none => b

def Blocks.setLatch (b : Blocks) (t : Track) (l : Latch) : Blocks :=
  b.setPower { b.power with latches := b.power.latches.set t l }

def Blocks.setCoils (b : Blocks) (br : Breaker) (c : CoilLines) : Blocks :=
  b.setField { b.field with coils := b.field.coils.set br c }

def Blocks.setStarter (b : Blocks) (t : Track) (level : Bool) : Blocks :=
  b.setField { b.field with starters := b.field.starters.set t level }

def Blocks.setSequence (b : Blocks) (t : Track) (l : List Entry) : Blocks :=
  b.setTimetable { b.timetable with sequences := b.timetable.sequences.set t l }

def Blocks.setQueue (b : Blocks) (z : Zone) (l : List Chain) : Blocks :=
  b.setAnnounce { b.announce with queues := b.announce.queues.set z l }

/-- A channel's record replaced; channels are numbered from 1 (R182). -/
def Blocks.setChannel (b : Blocks) (i : Nat) (c : Channel) : Blocks :=
  b.setAnnounce { b.announce with channels := modifyAt b.announce.channels (i - 1) fun _ => c }

def Blocks.setRecords (b : Blocks) (l : List Incident) : Blocks := b.setIncidents { b.incidents with records := l }

/-- The record of one id changed where it stands. -/
def Blocks.modifyRecord (b : Blocks) (id : IncidentId) (f : Incident → Incident) : Blocks :=
  b.setRecords (b.incidents.records.map fun r => if r.id = id then f r else r)

end Sys2Proof.Machine
end

