-- ==== Sys2Proof/Machine/Flags.lean ====
section
/-! DEFINITION. Every derived value: the line as this node knows it, section states, the answers of the Incident Table, hold
reasons, the dwell target, and the standing of the emergency mask. -/

namespace Sys2Proof

/-! ### Breakers (R4) -/

def Breaker.track : Breaker → Track
  | .ul => .up
  | .uh => .up
  | .dl => .down
  | .dh => .down

/-- Whether this node is the high end of the section the breaker feeds. -/
def Breaker.atHighEnd : Breaker → Bool
  | .ul => true
  | .uh => false
  | .dl => true
  | .dh => false

/-- The breaker at the other end of the same section. -/
def Breaker.far : Breaker → Breaker
  | .ul => .uh
  | .uh => .ul
  | .dl => .dh
  | .dh => .dl

/-- The breakers of a track, low-numbered gap first. -/
def Track.lowBreaker : Track → Breaker
  | .up => .ul
  | .down => .dl
def Track.highBreaker : Track → Breaker
  | .up => .uh
  | .down => .dh

/-- The section a breaker of node `k` feeds. -/
def Breaker.fed (k : Nat) (br : Breaker) : TractionSection :=
  { track := br.track, gap := if br.atHighEnd then k - 1 else k }

/-- The breaker by which `node` feeds a section, if it is one of the section's end nodes (R2, R4). -/
def TractionSection.breakerAt (sec : TractionSection) (node : Nat) : Option Breaker :=
  if node = sec.gap then some sec.track.highBreaker
  else if node = sec.gap + 1 then some sec.track.lowBreaker
  else none

end Sys2Proof

namespace Sys2Proof.Machine

/-! ### The line (R1 to R4) -/

/-- The node count in force (R1). -/
def Env.lineCount (e : Env) : Nat := (e.config.map (·.nodeCount)).getD Config.provisionalNodeCount

/-- The service time held. -/
def Env.now (e : Env) : Nat := e.time.service

/-- Whether a breaker is present (R4). -/
def Env.present (e : Env) (br : Breaker) : Bool := presentAt e.lineCount e.nodeNumber br

/-- Whether a section lies within the line (R2). -/
def Env.sectionInLine (e : Env) (sec : TractionSection) : Bool := sec.gap + 2 ≤ e.lineCount

/-- The section ahead of a platform (R3). -/
def Env.sectionAhead (e : Env) (t : Track) : Option TractionSection := sectionAheadAt e.lineCount e.nodeNumber t

/-- The section behind a platform (R3). -/
def Env.sectionBehind (e : Env) : Track → Option TractionSection
  | .up => if 1 ≤ e.nodeNumber then some ⟨.up, e.nodeNumber - 1⟩ else none
  | .down => if e.nodeNumber + 2 ≤ e.lineCount then some ⟨.down, e.nodeNumber⟩ else none

/-- The upstream node of a platform (R3). -/
def Env.upstream (e : Env) : Track → Option Nat
  | .up => if 1 ≤ e.nodeNumber then some (e.nodeNumber - 1) else none
  | .down => if e.nodeNumber + 2 ≤ e.lineCount then some (e.nodeNumber + 1) else none

/-- The sections adjacent to a platform (R3). The lower gap stands first, for both platforms, and its isolation begins first (R139):
the order is the model's choice (log entry 54). -/
def Env.adjacent (e : Env) (t : Track) : List TractionSection :=
  (if 1 ≤ e.nodeNumber then [⟨t, e.nodeNumber - 1⟩] else [])
    ++ (if e.nodeNumber + 2 ≤ e.lineCount then [⟨t, e.nodeNumber⟩] else [])

/-- This node's own breaker for a section, if it is a present end (R4). -/
def Env.ownBreaker (e : Env) (sec : TractionSection) : Option Breaker :=
  (sec.breakerAt e.nodeNumber).filter e.present

/-- The section a breaker of this node feeds (R4). -/
def Env.fed (e : Env) (br : Breaker) : TractionSection := br.fed e.nodeNumber

/-- The node at a breaker's far end (R4). -/
def Env.farNode (e : Env) (br : Breaker) : Nat := if br.atHighEnd then e.nodeNumber - 1 else e.nodeNumber + 1

/-- The platform whose section ahead a section is, if any (R3, R128). -/
def Env.platformAhead (e : Env) (sec : TractionSection) : Option Track :=
  if e.sectionAhead sec.track = some sec then some sec.track else none

/-- Whether `p` is a neighbour (R57). -/
def Env.isNeighbour (e : Env) (p : Nat) : Bool :=
  (decide (1 ≤ e.nodeNumber) && decide (p + 1 = e.nodeNumber))
    || (decide (p = e.nodeNumber + 1) && decide (e.nodeNumber + 2 ≤ e.lineCount))

/-- The neighbours, lower first, which is the model's choice (log entry 47). -/
def Env.neighbours (e : Env) : List Nat :=
  (if 1 ≤ e.nodeNumber then [e.nodeNumber - 1] else [])
    ++ (if e.nodeNumber + 2 ≤ e.lineCount then [e.nodeNumber + 1] else [])

/-- The gap between this node and a neighbour. -/
def Env.gapTo (e : Env) (p : Nat) : Nat := if p < e.nodeNumber then p else e.nodeNumber

/-- Whether the node is outside CONFIGURING, and whether it is in SERVICE (R10). -/
def Env.configured (e : Env) : Bool := e.nodeState ≠ .configuring
def Env.inService (e : Env) : Bool := e.nodeState = .service

/-- Fields no block reads before a CONFIGURE (R220). -/
def PlatformConfig.unset : PlatformConfig :=
  { wmin := 0, wmax := 0, rup := 0, gain := 0, stagger := 0, ldelay := 0, stallMargin := 0, hdefault := 0 }

def Templates.unset : Templates := { approach := [], delay := [], suspend := [], evacuate := [], stalled := [], held := [] }

/-- A platform's configured values (R218). -/
def Env.platformConfig (e : Env) (t : Track) : PlatformConfig := (e.config.map fun c => c.platforms.get t).getD .unset

/-- The templates and the number base (R197). -/
def Env.templates (e : Env) : Templates := (e.config.map (·.templates)).getD .unset
def Env.numberBase (e : Env) : Nat := (e.config.map (·.numberBase)).getD 0

/-- The breaker time limit in force (R116). -/
def Env.timeLimit (e : Env) : Nat := (e.config.map (·.timeLimit)).getD Config.provisionalTimeLimit

/-! ### Instants (R8) -/

/-- An instant held at the limit of service time. -/
def saturate (n : Nat) : Nat := min n Config.serviceTimeMax

/-- Whether an instant is reached. -/
def Env.reached (e : Env) (instant : Nat) : Bool := instant ≤ e.now

/-- Whether an optional instant is present and reached. -/
def Env.passed (e : Env) (instant : Option Nat) : Bool := (instant.map e.reached).getD false

/-! ### Breaker and section states (R127) -/

/-- The state a breaker shows on the linebus and the port. -/
def Condition.state : Condition → BreakerState
  | .closed => .closed
  | .opening _ => .opening
  | .opened => .opened
  | .closing _ => .closing
  | .failed => .failed

/-- A breaker's state as others see it; `none` while its input has not settled or it is absent. -/
def Blocks.breakerState (b : Blocks) (br : Breaker) : Option BreakerState :=
  match b.power.breakers.get br with
  | some r => r.condition.map Condition.state
  | none => none

/-- The peer table's entry for a node (R50). -/
def PeerView.entry (p : PeerView) (n : Nat) : PeerEntry := p.table[n]?.getD .unheard

/-- Whether a peer counts as heard for its far-end reports (R55). -/
def Liveness.heard : Liveness → Bool
  | .current => true
  | .stale => true
  | .unheard => false
  | .lost => false

/-- What a heard peer last said of one of its breakers: state and LOCAL flag; `none` is UNKNOWN (R55). -/
def PeerView.reported (p : PeerView) (n : Nat) (br : Breaker) : Option (BreakerState × Bool) :=
  if (p.entry n).liveness.heard then ((p.entry n).reports.get br).map fun r => (r.state, r.keyLocal) else none

/-- The far-end report of one of this node's breakers (R55). -/
def farReport (e : Env) (b : Blocks) (br : Breaker) : Option (BreakerState × Bool) :=
  b.peers.reported (e.farNode br) br.far

/-- How a state counts in the derivation (R127); OPEN alone is not energising. -/
def BreakerState.energising : BreakerState → Bool
  | .opened => false
  | .closed => true
  | .opening => true
  | .closing => true
  | .failed => true

/-- A section's state from its own breaker and its far-end report (R127). -/
def deriveSection (own far : Option BreakerState) : SectionState :=
  if (own.map BreakerState.energising).getD false || (far.map BreakerState.energising).getD false then .live
  else if own = some .opened ∧ far = some .opened then .dead
  else .unsure

/-- The derived state of the section a breaker feeds. -/
def sectionStateOf (e : Env) (b : Blocks) (br : Breaker) : SectionState :=
  deriveSection (b.breakerState br) ((farReport e b br).map (·.1))

/-- The section record's state; a section whose record has not been created is not DEAD. -/
def Blocks.heldSection (b : Blocks) (br : Breaker) : Option SectionState :=
  match b.power.breakers.get br with
  | some r => r.sectionState
  | none => none

/-- Whether a section this node feeds stands DEAD. -/
def sectionDead (e : Env) (b : Blocks) (sec : TractionSection) : Bool :=
  match e.ownBreaker sec with
  | some br => b.heldSection br = some .dead
  | none => false

/-- A lockout stands on a breaker: an id in its set, or OVERLOCK (R119). -/
def BreakerRecord.lockedOut (r : BreakerRecord) : Bool := !r.lockout.isEmpty || r.overlock

/-- Whether an id stands in the lockout set of any breaker (R148). -/
def Power.holdsLockout (p : Power) (id : IncidentId) : Bool :=
  allBreakers.any fun br => ((p.breakers.get br).map fun r => decide (id ∈ r.lockout)).getD false

/-- Whether a set latch holds an id (R139, R148). -/
def Power.isLatched (p : Power) (id : IncidentId) : Bool :=
  allTracks.any fun t => (p.latches.get t).isSet && decide ((p.latches.get t).id = some id)

/-! ### The answers of the Incident Table (R146) -/

def TrackSet.has (s : TrackSet) (t : Track) : Bool :=
  match s, t with
  | .up, .up => true
  | .down, .down => true
  | .both, _ => true
  | .up, .down => false
  | .down, .up => false

/-- A span covers a section (R146). -/
def Span.covers (s : Span) (sec : TractionSection) : Bool :=
  s.tracks.has sec.track && decide (s.first ≤ sec.gap) && decide (sec.gap ≤ s.last)

/-- The span of one section. -/
def Span.one (sec : TractionSection) : Span := { tracks := .one sec.track, first := sec.gap, last := sec.gap }

def Holding.isLocal : Holding → Bool
  | .owned _ => true
  | .copy _ => false

def Incident.isLocal (r : Incident) : Bool := r.holding.isLocal

/-- Lookup (R146). -/
def IncidentTable.find (i : IncidentTable) (id : IncidentId) : Option Incident := i.records.find? fun r => decide (r.id = id)

/-- Coverage: an incident of severity 3 or more covers a section (R146). -/
def IncidentTable.coverage (i : IncidentTable) (sec : TractionSection) : Bool :=
  i.records.any fun r => decide (3 ≤ r.severity) && r.span.covers sec

/-- The kinds of the disruption question (R146). -/
def IncidentKind.disrupts : IncidentKind → Bool
  | .delay => true
  | .trainStalled => true
  | .sectionTrip => true
  | .departedUnreleased => true
  | .nodeLost => true
  | .emergencyStop => false
  | .breakerFail => false
  | .uncommandedClose => false
  | .descriptionError => false
  | .operator => false

/-- Disruption (R146). -/
def IncidentTable.disruption (i : IncidentTable) : Bool := i.records.any fun r => r.kind.disrupts

/-- The number of local records (R33). -/
def IncidentTable.localCount (i : IncidentTable) : Nat := (i.records.filter Incident.isLocal).length

/-- A record of an id that is in the table, of a kind, and local: the check before an automatic close (R62, R81, R111). -/
def IncidentTable.findOwned (i : IncidentTable) (id : IncidentId) (kind : IncidentKind) : Option Incident :=
  (i.find id).filter fun r => r.isLocal && decide (r.kind = kind)

/-- Whether a local DESCRIPTION_ERROR names a platform of this node (R77, R84). -/
def IncidentTable.describedInError (i : IncidentTable) (p : PlatformRef) : Bool :=
  i.records.any fun r => r.isLocal && decide (r.kind = .descriptionError) && decide (r.platform = some p)

/-- The severity at which each kind is raised; OPERATOR's is the request's (8.1). -/
def IncidentKind.raiseSeverity : IncidentKind → Nat
  | .emergencyStop => 4
  | .sectionTrip => 3
  | .breakerFail => 3
  | .uncommandedClose => 4
  | .trainStalled => 3
  | .departedUnreleased => 3
  | .delay => 1
  | .nodeLost => 2
  | .descriptionError => 1
  | .operator => 1

/-- The platform of this node on a track, as incidents name it. -/
def Env.platformRef (e : Env) (t : Track) : PlatformRef := { node := e.nodeNumber, track := t }

/-- A trip as incidents carry it: absent for trip 0 (R77, R80, R84, R112). -/
def tripField (trip : Nat) : Option Nat := if trip = 0 then none else some trip

/-- The section an incident of a departure concerns: the section ahead, or behind where there is none (R110, R112). -/
def Env.aheadOrBehind (e : Env) (t : Track) : TractionSection :=
  ((e.sectionAhead t).or (e.sectionBehind t)).getD ⟨t, 0⟩

/-- The section a description error concerns: the section behind, or ahead where there is none (R77). -/
def Env.behindOrAhead (e : Env) (t : Track) : TractionSection :=
  ((e.sectionBehind t).or (e.sectionAhead t)).getD ⟨t, 0⟩

/-! ### Hold reasons and stagger (R99, R100) -/

def Reasons.empty : Reasons := { power := false, incident := false, estop := false, stagger := false, operator := false }

def Reasons.isEmpty (r : Reasons) : Bool := !(r.power || r.incident || r.estop || r.stagger || r.operator)

def reasonPower (e : Env) (b : Blocks) (t : Track) : Bool := ((e.sectionAhead t).map (sectionDead e b)).getD false
def reasonIncident (e : Env) (b : Blocks) (t : Track) : Bool := ((e.sectionAhead t).map b.incidents.coverage).getD false
def reasonEstop (b : Blocks) (t : Track) : Bool := (b.power.latches.get t).isSet

/-- The start time of a substation's entry, if it is valid (R58). -/
def PeerView.start (p : PeerView) (n : Nat) : Option Nat :=
  match p.starts[n]? with
  | some s => if s.age ≤ Config.startAgeMax then s.start else none
  | none => none

/-- The later of two optional times. -/
def later : Option Nat → Option Nat → Option Nat
  | some a, some b => some (max a b)
  | some a, none => some a
  | none, o => o

/-- The stagger time P of a platform, absent where neither feeding substation has a valid start (R100). -/
def staggerTime (e : Env) (b : Blocks) (t : Track) : Option Nat :=
  match e.sectionAhead t with
  | some sec =>
    (later (b.peers.start sec.gap) (b.peers.start (sec.gap + 1))).map fun l => saturate (l + (e.platformConfig t).stagger)
  | none => none

/-- STAGGER stands while the mark is open and P is not reached (R99, R100). -/
def reasonStagger (e : Env) (isOpen : Bool) (p : Option Nat) : Bool := isOpen && (p.map fun i => !e.reached i).getD false

/-! ### The dwell target (R92 to R96) -/

/-- The effective gain (R92). -/
def effectiveGain (e : Env) (b : Blocks) (t : Track) (extra : Bool) : Nat :=
  if extra || b.incidents.disruption then 8 else (e.platformConfig t).gain

/-- What one computation reads (R93). -/
structure DwellInput where
  arrival : Nat
  scheduled : Option Nat
  wmin : Nat
  wmax : Nat
  rup : Nat
  previous : Option Nat
  headway : Nat
  follower : Option Nat
  gain : Nat
deriving DecidableEq, Repr

/-- Stage 1 (R94). -/
def DwellInput.scheduleTarget (d : DwellInput) : Nat :=
  match d.scheduled with
  | some s => max s (d.arrival + d.wmin)
  | none => d.arrival + d.wmin

/-- Stage 2, for a present Dprev (R94). -/
def DwellInput.followerEstimate (d : DwellInput) (prev : Nat) : Nat :=
  match d.follower with
  | some u => u + d.rup + d.wmin
  | none => prev + 2 * d.headway

/-- Stage 3 (R94). -/
def DwellInput.headwayTarget (d : DwellInput) : Nat :=
  match d.previous with
  | some prev => max ((prev + d.followerEstimate prev) / 2) (d.arrival + d.wmin)
  | none => d.scheduleTarget

/-- Stage 4, truncated toward zero (R95). -/
def DwellInput.blend (d : DwellInput) : Int :=
  (d.scheduleTarget : Int) + Int.tdiv ((d.gain : Int) * ((d.headwayTarget : Int) - (d.scheduleTarget : Int))) 8

/-- Stage 5: the dwell target (R95). -/
def DwellInput.target (d : DwellInput) : Nat :=
  saturate (min (max d.blend ((d.arrival + d.wmin : Nat) : Int)) ((d.arrival + d.wmax : Nat) : Int)).toNat

/-- Stage 6: the deviation (R96). -/
def DwellInput.deviation (d : DwellInput) : Option Int := d.scheduled.map fun s : Nat => (d.target : Int) - (s : Int)

/-- The scheduled headway H (R93). -/
def headway (cfg : PlatformConfig) (scheduled before : Option Nat) : Nat :=
  match scheduled, before with
  | some s, some p => min (max (s - p) cfg.wmin) 6000
  | _, _ => cfg.hdefault

/-! ### The timetable (R63, R64, R83) -/

/-- The index of the first entry that meets a condition. -/
def indexOf {α : Type} (l : List α) (p : α → Bool) : Option Nat := (List.range l.length).find? fun i => (l[i]?.map p).getD false

/-- The cursor: the first PENDING entry (R64). -/
def cursor (l : List Entry) : Option Entry := l.find? fun x => decide (x.state = .pending)

/-- Entries held in total (R63). -/
def Timetable.total (t : Timetable) : Nat := t.sequences.up.length + t.sequences.down.length

/-- The overdue instant O of a queue's head (R80). -/
def overdueInstant (e : Env) (t : Track) (a : Approach) : Nat :=
  saturate (a.upstream + (e.platformConfig t).rup + (e.platformConfig t).stallMargin)

/-! ### The Record Store's counts (R168) -/

def Store.free (s : Store) : Nat := (s.blocks.filter fun x => x.isNone).length

def Holder.isMessage : Holder → Bool
  | .message _ _ => true
  | .incident _ => false

def Store.incidents (s : Store) : Nat := (s.blocks.filter fun x => (x.map fun h => !h.isMessage).getD false).length
def Store.messages (s : Store) : Nat := (s.blocks.filter fun x => (x.map Holder.isMessage).getD false).length
def Store.reserve (s : Store) : Nat := Config.storeReserve - s.incidents

/-! ### Announcements (R177, R182, R183) -/

/-- Messages of a queue: each member counts as one (R177). -/
def messageCount (q : List Chain) : Nat := (q.map fun c => c.members.length).sum

/-- The blocks of a message with these phrases: 1 for up to 8, else 2 (R168, R175). -/
def blocksFor (phrases : List Nat) : Nat := if phrases.length ≤ 8 then 1 else 2

def Member.blocks (m : Member) : Nat := blocksFor m.phrases

/-- Whether the mask holds (R183). -/
def Announcer.mask (a : Announcer) : Bool :=
  allZones.any fun z => (a.queues.get z).any fun c => decide (Config.maskPriority ≤ c.priority)

/-- A not-before that is absent or reached (R177). -/
def Env.eligible (e : Env) (c : Chain) : Bool := (c.notBefore.map e.reached).getD true

/-- The first waiting chain of a queue (R177). -/
def firstWaiting (e : Env) (q : List Chain) : Option Chain := q.find? fun c => decide (c.place = .waiting) && e.eligible c

/-- The zone a channel serves while PLAYING or STOPPING (R182). -/
def Channel.zone? : Channel → Option Zone
  | .idle => none
  | .playing z _ _ _ => some z
  | .stopping z _ _ _ _ => some z

def Channel.isIdle : Channel → Bool
  | .idle => true
  | .playing _ _ _ _ => false
  | .stopping _ _ _ _ _ => false

def Channel.isStopping : Channel → Bool
  | .stopping _ _ _ _ _ => true
  | .idle => false
  | .playing _ _ _ _ => false

/-- A zone holds a channel (R182). -/
def Announcer.holds (a : Announcer) (z : Zone) : Bool := a.channels.any fun c => decide (c.zone? = some z)

/-- The ready chain of a zone, if it has one (R183). -/
def readyChain (e : Env) (a : Announcer) (z : Zone) : Option Chain :=
  if (a.faults.get z).fault then none
  else (firstWaiting e (a.queues.get z)).filter fun c => !a.mask || decide (Config.maskPriority ≤ c.priority)

/-- Rank among ready chains of different zones: priority, then order number (R184); zones are taken in index order. -/
def Chain.before (c d : Chain) : Bool :=
  decide (d.priority < c.priority) || (decide (c.priority = d.priority) && decide (c.order < d.order))

/-- The place of a chain in its queue relative to another (R177). -/
def Chain.hasMessage (c : Chain) (id : Nat) : Bool := c.members.any fun m => decide (m.id = id)

/-- The id of a chain's head (R175). -/
def Chain.headId (c : Chain) : Nat := ((c.members.head?).map (·.id)).getD 0

/-- Whether a chain's expiry is reached (R181). -/
def Env.expired (e : Env) (c : Chain) : Bool := e.passed c.expiry

end Sys2Proof.Machine
end

