-- ==== Sys2Proof/Machine/Ops.lean ====
section
/-! DEFINITION. The operations every block shares: queueing reports, answers and linebus frames, the Record Store's grants and
releases, and the output lines. -/

namespace Sys2Proof.Machine

/-! ### The station port's queues (R214, R215) -/

/-- The transmitter takes a report; the discard count goes with it and returns to 0 (R215). -/
def Port.takeReport (p : Port) (r : Report) : Port := { p with tx := some (.report r p.discard), discard := 0 }

/-- One report joins the report queue; an idle transmitter takes it at once, and a full queue gives up its oldest (R214, R215). -/
def Port.pushReport (p : Port) (r : Report) : Port :=
  match p.tx with
  | none => p.takeReport r
  | some _ =>
    if p.reports.length < Config.reportMax then { p with reports := p.reports ++ [r] }
    else
      { p with
        reports := p.reports.tail ++ [r]
        discard := countUp Config.discardMax p.discard
        reportsDiscarded := countUp Config.counterMax p.reportsDiscarded }

/-- One frame joins the answer queue; an idle transmitter takes it at once (R214). -/
def Port.pushAnswer (p : Port) (f : AnswerFrame) : Port :=
  match p.tx with
  | none => { p with tx := some (.answer f) }
  | some _ => { p with answers := p.answers ++ [f] }

/-- A block queues a report (R215, R216). -/
def queueReport (e : Env) (b : Blocks) (body : ReportBody) : Blocks :=
  b.setPort ((divide body e.now).foldl Port.pushReport b.port)

/-! ### Output lines (R24 to R26) -/

/-- An open command at the Field Interface (R24). -/
def CoilLines.openPulse (_ : CoilLines) : CoilLines := { openLine := true, closeLine := false, pendingClose := false }

/-- A close command at the Field Interface: it waits for an open pulse to end (R24, R25). -/
def CoilLines.closePulse (c : CoilLines) : CoilLines :=
  if c.openLine then { c with pendingClose := true } else { c with closeLine := true }

/-- The Power Controller asks for the end of a close pulse (R24, R25). -/
def CoilLines.endClose (c : CoilLines) : CoilLines := { c with closeLine := false, pendingClose := false }

/-- The running pulse ends by itself (R24, R25). -/
def CoilLines.pulseEnd (c : CoilLines) : CoilLines :=
  if c.openLine then { openLine := false, closeLine := c.pendingClose, pendingClose := false }
  else { c with closeLine := false }

def openCoil (b : Blocks) (br : Breaker) : Blocks := b.setCoils br (b.field.coils.get br).openPulse
def closeCoil (b : Blocks) (br : Breaker) : Blocks := b.setCoils br (b.field.coils.get br).closePulse
def endCloseCoil (b : Blocks) (br : Breaker) : Blocks := b.setCoils br (b.field.coils.get br).endClose

/-- The alarm state with its line (R26, R164). -/
def setAlarm (b : Blocks) (on : Bool) : Blocks :=
  (b.setIncidents { b.incidents with alarm := on }).setField { b.field with alarmLine := on }

/-! ### The Record Store (R169 to R171) -/

/-- The lowest-numbered FREE block goes to a holder. -/
def fillFirst (h : Holder) : List (Option Holder) → List (Option Holder)
  | [] => []
  | none :: rest => some h :: rest
  | some x :: rest => some x :: fillFirst h rest

/-- An incident record's block (R169). -/
def Store.grantIncident (s : Store) (id : IncidentId) : Store := { s with blocks := fillFirst (.incident id) s.blocks }

/-- A message's blocks (R170). -/
def Store.grantMessage (s : Store) (id n : Nat) : Store :=
  { s with blocks := (List.range n).foldl (fun m i => fillFirst (.message id (i + 1)) m) s.blocks }

/-- Whether a message ask for `n` blocks is granted (R170). -/
def Store.allows (s : Store) (n : Nat) : Bool := s.reserve + n ≤ s.free

def Store.refuse (s : Store) : Store := { s with refusals := countUp Config.counterMax s.refusals }

/-- Every block of a holder becomes FREE (R171). -/
def Store.freeWhere (s : Store) (p : Holder → Bool) : Store :=
  { s with blocks := s.blocks.map fun x => if (x.map p).getD false then none else x }

def Holder.isIncident (id : IncidentId) : Holder → Bool
  | .incident i => i = id
  | .message _ _ => false

def Holder.isOfMessage (id : Nat) : Holder → Bool
  | .message m _ => m = id
  | .incident _ => false

def releaseIncident (b : Blocks) (id : IncidentId) : Blocks := b.setStore (b.store.freeWhere (Holder.isIncident id))
def releaseMessage (b : Blocks) (id : Nat) : Blocks := b.setStore (b.store.freeWhere (Holder.isOfMessage id))

/-! ### Linebus frames (R33, R39 to R41) -/

/-- A platform's state (R88). -/
def Standing.state : Standing → PlatformState
  | .vacant => .vacant
  | .occupied p _ => p.state

/-- What a STATUS frame says of one of this node's breakers (R33). -/
def reportedBreaker (b : Blocks) (br : Breaker) : ReportedBreaker :=
  match b.power.breakers.get br with
  | none => .absent
  | some r =>
    match r.condition with
    | some c => .known c.state
    | none => .unknown

/-- The snapshot of a STATUS frame (R33). -/
def snapshot (e : Env) (b : Blocks) : StatusContents :=
  { service := e.inService
    time := e.now
    breakers := ⟨reportedBreaker b .ul, reportedBreaker b .uh, reportedBreaker b .dl, reportedBreaker b .dh⟩
    keyLocal := b.power.keyLocal
    holdover := e.time.mode = .holdover
    latches := ⟨b.power.latches.up.isSet, b.power.latches.down.isSet⟩
    platforms := ⟨b.platforms.up.standing.state, b.platforms.down.standing.state⟩
    departures := ⟨b.platforms.up.lastDeparture, b.platforms.down.lastDeparture⟩
    incidents := b.incidents.localCount }

/-- The frame in hand (R35). -/
def Transmitter.hand? : Transmitter → Option Hand
  | .sending h => some h
  | .backoff h => some h
  | .off => none
  | .idle => none
  | .waiting => none

/-- Frames in the outbound queue, the frame in hand counted (R39). -/
def Linebus.occupied (l : Linebus) : Nat := l.waiting.length + l.tx.hand?.toList.length

/-- A frame takes its place: behind every frame of its rank or lower (R39). -/
def insertFrame (f : Frame) : List Frame → List Frame
  | [] => [f]
  | g :: rest => if f.cls.rank < g.cls.rank then f :: g :: rest else g :: insertFrame f rest

/-- A queued frame moves an idle transmitter to WAITING (R35). -/
def Transmitter.wake : Transmitter → Transmitter
  | .idle => .waiting
  | t => t

/-- The transmitter when its frame in hand has left the queue (R35). -/
def Linebus.next (l : Linebus) : Transmitter := if l.waiting.isEmpty then .idle else .waiting

def Linebus.insert (l : Linebus) (f : Frame) : Linebus := { l with waiting := insertFrame f l.waiting, tx := l.tx.wake }

/-- A frame dropped: counted, and reported unless it is STATUS (R38, R40, R43). -/
def dropFrame (e : Env) (b : Blocks) (cause : TxDropCause) (f : Frame) : Blocks :=
  let b := b.setBus { b.bus with dropped := countUp Config.counterMax b.bus.dropped }
  match f.cls with
  | .status => b
  | _ => queueReport e b (.txDrop cause f.cls f.payload)

/-- Admission to the outbound queue (R39, R40); the newest frame of the highest rank is the last that waits. -/
def admitFrame (e : Env) (b : Blocks) (f : Frame) : Blocks :=
  if b.bus.occupied < Config.outboundMax then b.setBus (b.bus.insert f)
  else
    match b.bus.waiting.getLast? with
    | some g =>
      if f.cls.rank < g.cls.rank then
        let b := dropFrame e (b.setBus { b.bus with waiting := b.bus.waiting.dropLast }) .evicted g
        b.setBus (b.bus.insert f)
      else dropFrame e b .full f
    | none => dropFrame e b .full f

def Frame.isStatus (f : Frame) : Bool := f.cls = .status

/-- The queued STATUS frame takes a new snapshot, unless it is being sent (R41). -/
def renewStatus (l : Linebus) (c : StatusContents) : Linebus :=
  match l.tx with
  | .backoff h =>
    if h.frame.isStatus then { l with tx := .backoff { h with frame := .status c } }
    else { l with waiting := l.waiting.map fun f => if f.isStatus then .status c else f }
  | _ => { l with waiting := l.waiting.map fun f => if f.isStatus then .status c else f }

/-- Whether the queue holds a STATUS frame, waiting or in hand (R41). -/
def Linebus.holdsStatus (l : Linebus) : Bool :=
  l.waiting.any Frame.isStatus || (l.tx.hand?.map fun h => h.frame.isStatus).getD false

/-- Whether frames that blocks queue are discarded (R39). -/
def Linebus.mute (e : Env) (l : Linebus) : Bool := e.nodeState = .configuring || l.silent

/-- A block queues a frame (R39); each POWER frame renews a queued STATUS (R41). -/
def queueFrame (e : Env) (b : Blocks) (f : Frame) : Blocks :=
  if b.bus.mute e then b
  else
    let b := admitFrame e b f
    if f.cls = .power then b.setBus (renewStatus b.bus (snapshot e b)) else b

/-- A STATUS frame is generated (R41, R42). -/
def queueStatus (e : Env) (b : Blocks) : Blocks :=
  if b.bus.mute e then b
  else if b.bus.holdsStatus then b.setBus (renewStatus b.bus (snapshot e b))
  else admitFrame e b (.status (snapshot e b))

/-- The POWER frame of a breaker (R30, R129); a breaker whose state is absent has none that a frame could carry (log entry 13). -/
def queuePowerFrame (e : Env) (b : Blocks) (br : Breaker) (reason : Option RefusalReason) : Blocks :=
  match b.power.breakers.get br with
  | some r =>
    match r.condition with
    | some c =>
      queueFrame e b
        (.power
          { breaker := br, state := c.state, lockoutCount := r.lockout.length, overlock := r.overlock
            keyLocal := b.power.keyLocal, reason := reason.map RefusalReason.code })
    | none => b
  | none => b

/-- The contents of an INCIDENT frame for a record (R31). -/
def Incident.contents (r : Incident) (action : IncidentAction) (reason : Option CloseReason) : IncidentContents :=
  { action := action, id := r.id, kind := r.kind, severity := r.severity, span := r.span, platform := r.platform, trip := r.trip
    adoptedFrom := r.adoptedFrom, owner := r.owner, raised := r.raised, acked := r.acked, isolationFailed := r.isolationFailed
    closeReason := reason.map CloseReason.code }

/-- A local record whose refresh count starts again (R156). -/
def Incident.refreshed (r : Incident) : Incident :=
  match r.holding with
  | .owned o => { r with holding := .owned { o with refresh := 0 } }
  | .copy _ => r

/-- An INCIDENT frame for a record, as it stands, which also starts its refresh count again (R156). -/
def queueIncidentFrame (e : Env) (b : Blocks) (id : IncidentId) (action : IncidentAction) (reason : Option CloseReason) :
    Blocks :=
  match b.incidents.find id with
  | some r => (queueFrame e b (.incident (r.contents action reason))).modifyRecord id Incident.refreshed
  | none => b

/-- An INCIDENT report with a record's fields as they stand (R165). -/
def reportIncident (e : Env) (b : Blocks) (event : IncidentEvent) (id : IncidentId) : Blocks :=
  match b.incidents.find id with
  | some r => queueReport e b (.incident event r)
  | none => b

end Sys2Proof.Machine
end

