-- ==== Sys2Proof/Machine/Announce.lean ====
section
/-! DEFINITION. The Announcement Controller: admission, discard, the arbiter, the play protocol, withdrawal and the automatic
messages (chapter 10). -/

namespace Sys2Proof.Machine

/-! ### Finding chains -/

/-- The zone and chain of a message (R175). -/
def Announcer.findMessage (a : Announcer) (id : Nat) : Option (Zone × Chain) :=
  allZones.findSome? fun z => ((a.queues.get z).find? fun c => c.hasMessage id).map fun c => (z, c)

/-- The chain of a message within one zone. -/
def Announcer.chainOf (a : Announcer) (z : Zone) (id : Nat) : Option Chain := (a.queues.get z).find? fun c => c.hasMessage id

/-- Every message id held (R176). -/
def Announcer.heldIds (a : Announcer) : List Nat :=
  allZones.flatMap fun z => (a.queues.get z).flatMap fun c => c.members.map (·.id)

/-- The channel with its number (R182). -/
def Announcer.channel (a : Announcer) (i : Nat) : Option Channel := if 1 ≤ i then a.channels[i - 1]? else none

/-- Channel numbers with their records. -/
def Announcer.numbered (a : Announcer) : List (Nat × Channel) :=
  (List.range a.channels.length).map fun i => (i + 1, a.channels[i]?.getD .idle)

/-! ### Queue order (R177) -/

/-- A chain takes its place: behind every chain that does not rank behind it. -/
def insertChain (c : Chain) : List Chain → List Chain
  | [] => [c]
  | d :: rest => if c.before d then c :: d :: rest else d :: insertChain c rest

def withoutChain (head : Nat) (q : List Chain) : List Chain := q.filter fun c => decide (c.headId ≠ head)

/-- A chain written back into its zone queue, in order. -/
def placeChain (b : Blocks) (z : Zone) (c : Chain) : Blocks :=
  b.setQueue z (insertChain c (withoutChain c.headId (b.announce.queues.get z)))

/-! ### Discard (R180) -/

/-- A chain's members leave the queue and their blocks become FREE (R171). -/
def dropChain (b : Blocks) (z : Zone) (c : Chain) : Blocks :=
  (c.members.map (·.id)).foldl releaseMessage (b.setQueue z (withoutChain c.headId (b.announce.queues.get z)))

/-- A chain discarded, with its report (R180). -/
def discardChain (e : Env) (b : Blocks) (z : Zone) (c : Chain) (cause : DropCause) : Blocks :=
  queueReport e (dropChain b z c) (.messageDropped (some c.headId) z c.origin c.kind cause)

/-! ### The arbiter (R184, R185) -/

/-- A member starts to play on a channel: the record, the chain's place and the PLAY report (R186). -/
def startMember (e : Env) (b : Blocks) (i : Nat) (z : Zone) (c : Chain) (m : Member) (began : Nat) : Blocks :=
  let b := b.setChannel i (.playing z m.id 0 began)
  let b := placeChain b z { c with place := .onChannel }
  queueReport e b (.play i z m.id m.phrases)

/-- The ready chains of all zones in the arbiter's rank order (R184). -/
def readyChains (e : Env) (a : Announcer) : List (Zone × Chain) :=
  let found := allZones.filterMap fun z => (readyChain e a z).map fun c => (z, c)
  found.foldr (fun x acc => insertRanked x acc) []
where
  /-- Insertion that keeps an earlier zone ahead of a later one of equal rank. -/
  insertRanked (x : Zone × Chain) : List (Zone × Chain) → List (Zone × Chain)
    | [] => [x]
    | y :: rest => if y.2.before x.2 then y :: insertRanked x rest else x :: y :: rest

/-- The lowest-numbered IDLE channel (R184). -/
def Announcer.idleChannel (a : Announcer) : Option Nat := (a.numbered.find? fun x => x.2.isIdle).map (·.1)

/-- The startable chain ranked first (R183, R184). -/
def firstStartable (e : Env) (a : Announcer) : Option (Zone × Chain) := (readyChains e a).find? fun x => !a.holds x.1

/-- IDLE channels go to startable chains, one at each turn (R184). -/
def giveChannels (e : Env) : Nat → Blocks → Blocks
  | 0, b => b
  | n + 1, b =>
    match b.announce.idleChannel, firstStartable e b.announce with
    | some i, some (z, c) =>
      match c.members.head? with
      | some m => giveChannels e n (startMember e b i z c m e.now)
      | none => b
    | _, _ => b

/-- A PLAYING channel is stopped: STOP report, STOPPING, stop count 0 (R185, R189, R193). -/
def stopChannel (e : Env) (b : Blocks) (i : Nat) (cause : StopCause) : Blocks :=
  match b.announce.channel i with
  | some (.playing z m _ began) => queueReport e (b.setChannel i (.stopping z m cause 0 began)) (.stop i z m (some cause))
  | _ => b

/-- A PLAYING channel as the preemption check reads it. -/
structure Playing where
  number : Nat
  zone : Zone
  priority : Nat
  began : Nat
deriving DecidableEq, Repr

/-- The PLAYING channels with the priority of the chain each plays. -/
def Announcer.playing (a : Announcer) : List Playing :=
  a.numbered.filterMap fun x =>
    match x.2 with
    | .playing z m _ began => (a.chainOf z m).map fun c => { number := x.1, zone := z, priority := c.priority, began := began }
    | .idle => none
    | .stopping _ _ _ _ _ => none

/-- The channel a chain of no channel would take: lowest priority, then latest begun, then highest number (R185). -/
def worstPlaying : List Playing → Option Playing
  | [] => none
  | p :: rest =>
    match worstPlaying rest with
    | none => some p
    | some q =>
      some (if p.priority < q.priority ∨ (p.priority = q.priority ∧ q.began < p.began) then p else q)

/-- The channel a ready chain may take by force (R185). -/
def preemptTarget (playing : List Playing) (x : Zone × Chain) : Option Nat :=
  let p := match playing.find? fun p => decide (p.zone = x.1) with
    | some own => some own
    | none => worstPlaying playing
  (p.filter fun q => decide (q.priority + Config.preemptMargin ≤ x.2.priority)).map (·.number)

/-- The preemption check (R185). -/
def preemptCheck (e : Env) (b : Blocks) : Blocks :=
  if b.announce.channels.any fun c => c.isIdle || c.isStopping then b
  else
    match (readyChains e b.announce).findSome? (preemptTarget b.announce.playing) with
    | some i => stopChannel e b i .preempt
    | none => b

/-- The arbiter (R184). -/
def arbiter (e : Env) (b : Blocks) : Blocks :=
  let b := giveChannels e b.announce.channels.length b
  if b.announce.channels.any Channel.isIdle then b else preemptCheck e b

/-- The arbiter runs when what was done lifted the mask (R180, R183). -/
def arbiterIfLifted (e : Env) (before b : Blocks) : Blocks :=
  if before.announce.mask && !b.announce.mask then arbiter e b else b

/-! ### Admission (R176 to R179) -/

/-- A chain offered to a zone. -/
structure Offer where
  zone : Zone
  priority : Nat
  repeats : Nat
  interval : Nat
  notBefore : Option Nat
  expiry : Option Nat
  link : Option Link
  origin : Origin
  kind : Option AutoKind
  members : List (List Nat)
deriving DecidableEq, Repr

/-- The outcome of an offer. -/
inductive Admission where
  | admitted (head : Nat)
  | refused (cause : DropCause)
  | notMade
deriving DecidableEq, Repr

/-- The next message id: one more than the last, wrapping from 65,535 to 1, past every id held (R176). -/
def nextMessageId (held : List Nat) (last : Nat) : Nat :=
  (((List.range (held.length + 1)).map fun i => (last + i) % 65535 + 1).find? fun n => decide (n ∉ held)).getD (last % 65535 + 1)

/-- Members with their ids, taken in order (R176). -/
def nameMembers (held : List Nat) (last : Nat) : List (List Nat) → List Member
  | [] => []
  | ph :: rest =>
    let id := nextMessageId held last
    { id := id, phrases := ph, attempts := 0 } :: nameMembers (id :: held) id rest

/-- The chains that make room for `excess` more places, in the order they are taken, if there are enough (R179). -/
def takeDisplaced (excess : Nat) : List Chain → Option (List Chain)
  | [] => if excess = 0 then some [] else none
  | c :: rest => if excess = 0 then some [] else (takeDisplaced (excess - c.members.length) rest).map (c :: ·)

/-- The chains to displace for a newcomer: candidates run from the lowest priority and the newest (R179). -/
def displacement (q : List Chain) (priority count : Nat) : Option (List Chain) :=
  takeDisplaced (messageCount q + count - Config.zoneQueueMax)
    (q.reverse.filter fun c => decide (c.place = .waiting) && decide (c.priority < priority))

/-- The name under which the blocks of a chain's `i`-th member are held between its ask and its entry, where it takes its id
(R178): no message id is so large (R176). -/
def entering (i : Nat) : Nat := 65536 + i

/-- The store's asks for a chain's members in order, the first of them its `i`-th: the store with all granted, or none at the
first refusal (R170, R178). -/
def askAll (s : Store) (i : Nat) : List (List Nat) → Option Store
  | [] => some s
  | ph :: rest => if s.allows (blocksFor ph) then askAll (s.grantMessage (entering i) (blocksFor ph)) (i + 1) rest else none

/-- The blocks granted to the members of a chain are held by their ids (R178, step 5). -/
def Holder.named (members : List Member) : Holder → Holder
  | .incident id => .incident id
  | .message id part =>
    if 65536 ≤ id then (members[id - 65536]?.map fun m => Holder.message m.id part).getD (.message id part) else .message id part

def Store.named (s : Store) (members : List Member) : Store :=
  { s with blocks := s.blocks.map fun x => x.map (Holder.named members) }

/-- Admission of one chain: state, expiry, the store's blocks, room, and the ids at entry, when displaced chains have left
(R178). -/
def admitChain (e : Env) (b : Blocks) (o : Offer) : Blocks × Admission :=
  if e.nodeState = .configuring then (b, .notMade)
  else if e.passed o.expiry then (b, .refused .expired)
  else
    match askAll b.store 0 o.members with
    | none => (b.setStore b.store.refuse, .refused .store)
    | some store =>
      match displacement (b.announce.queues.get o.zone) o.priority o.members.length with
      | none => (b, .refused .queue)
      | some out =>
        let b := out.foldl (fun b c => discardChain e b o.zone c .displaced) (b.setStore store)
        let members := nameMembers b.announce.heldIds b.announce.lastMessageId o.members
        let b := b.setStore (b.store.named members)
        let chain : Chain :=
          { members := members, priority := o.priority, repeats := o.repeats, interval := o.interval
            notBefore := o.notBefore, notBeforeDue := false, expiry := o.expiry, link := o.link, origin := o.origin
            kind := o.kind, order := b.announce.nextOrder, place := .waiting }
        let b := placeChain b o.zone chain
        let b := b.setAnnounce
          { b.announce with
            lastMessageId := ((members.getLast?).map (·.id)).getD b.announce.lastMessageId
            nextOrder := b.announce.nextOrder + 1 }
        (arbiter e b, .admitted chain.headId)

/-- An automatic or peer chain: a refusal is dropped with a report (R178). -/
def admitOrDrop (e : Env) (b : Blocks) (o : Offer) : Blocks :=
  match admitChain e b o with
  | (b, .refused cause) => queueReport e b (.messageDropped none o.zone o.origin o.kind cause)
  | (b, .admitted _) => b
  | (b, .notMade) => b

/-! ### Play ends (R181, R187 to R191) -/

/-- A chain returns to WAITING; with its expiry reached it is discarded (R181). -/
def returnChain (e : Env) (b : Blocks) (z : Zone) (c : Chain) : Blocks :=
  let c := { c with place := .waiting }
  if e.expired c then discardChain e b z c .expired else placeChain b z c

/-- A chain whose last member completed (R188). -/
def endPlay (e : Env) (b : Blocks) (z : Zone) (c : Chain) : Blocks :=
  if c.repeats = 0 then dropChain b z c
  else
    let c :=
      { c with
        repeats := c.repeats - 1, notBefore := some (saturate (e.now + c.interval)), notBeforeDue := false
        order := b.announce.nextOrder }
    returnChain e (b.setAnnounce { b.announce with nextOrder := b.announce.nextOrder + 1 }) z c

/-- The member after a message in its chain (R175). -/
def Chain.nextMember (c : Chain) (id : Nat) : Option Member :=
  ((c.members.dropWhile fun m => decide (m.id ≠ id)).tail).head?

/-- The failure run of a zone returns to 0 (R187). -/
def clearRun (b : Blocks) (z : Zone) : Blocks :=
  b.setAnnounce { b.announce with faults := b.announce.faults.set z { b.announce.faults.get z with run := 0 } }

/-- A failure in a zone: the run rises, and at 2 the zone enters FAULT (R189, R190). -/
def countFailure (e : Env) (b : Blocks) (z : Zone) : Blocks :=
  let f := b.announce.faults.get z
  let run := countUp Config.faultRun f.run
  let fault := decide (run = Config.faultRun)
  let b := b.setAnnounce { b.announce with faults := b.announce.faults.set z { fault := f.fault || fault, run := run } }
  if fault && !f.fault then queueReport e b (.zoneFaultBegun z) else b

/-- The order number at the front of a chain's priority (R176). -/
def frontOrder (q : List Chain) (c : Chain) : Int :=
  ((q.filter fun d => decide (d.priority = c.priority) && decide (d.headId ≠ c.headId)).map (·.order)).foldl
    (fun acc o => if o - 1 < acc.getD o then some (o - 1) else acc) none |>.getD c.order

/-- A member's failure (R189, steps 1 to 3). -/
def failMember (e : Env) (b : Blocks) (z : Zone) (c : Chain) (id : Nat) : Blocks :=
  let again := c.members.any fun m => decide (m.id = id) && decide (1 ≤ m.attempts)
  let b :=
    if again then discardChain e b z c .failed
    else
      returnChain e b z
        { c with
          members := c.members.map fun m => if m.id = id then { m with attempts := m.attempts + 1 } else m
          order := frontOrder (b.announce.queues.get z) c }
  countFailure e b z

/-- AUDIO DONE at a channel PLAYING the message (R187); the arbiter does not run when the chain goes on (R184). -/
def completePlay (e : Env) (b : Blocks) (i : Nat) (z : Zone) (id began : Nat) : Blocks :=
  let b := clearRun b z
  match b.announce.chainOf z id with
  | some c =>
    match c.nextMember id with
    | some m => startMember e b i z c m began
    | none => arbiter e ((endPlay e b z c).setChannel i .idle)
  | none => arbiter e (b.setChannel i .idle)

/-- AUDIO FAILED at a channel PLAYING the message (R189). -/
def failPlay (e : Env) (b : Blocks) (i : Nat) (z : Zone) (id : Nat) : Blocks :=
  match b.announce.chainOf z id with
  | some c => arbiter e ((failMember e b z c id).setChannel i .idle)
  | none => arbiter e ((countFailure e b z).setChannel i .idle)

/-- The deadline of the play on a channel (R189). -/
def deadlinePlay (e : Env) (b : Blocks) (i : Nat) (z : Zone) (id : Nat) : Blocks :=
  let b := match b.announce.chainOf z id with
    | some c => failMember e b z c id
    | none => countFailure e b z
  arbiter e (stopChannel e b i .deadline)

/-- A stop completes (R191). -/
def completeStop (e : Env) (b : Blocks) (i : Nat) (z : Zone) (id : Nat) (cause : StopCause) (done : Bool) : Blocks :=
  let b := match cause with
    | .preempt =>
      let b := if done then clearRun b z else b
      match b.announce.chainOf z id with
      | some c => if done && (c.nextMember id).isNone then endPlay e b z c else returnChain e b z c
      | none => b
    | .withdraw => b
    | .deadline => b
  arbiter e (b.setChannel i .idle)

/-- The phrase count of the member a channel plays, and its deadline (R186). -/
def Announcer.deadline (a : Announcer) (z : Zone) (id : Nat) : Nat :=
  10 * (((a.chainOf z id).bind fun c => c.members.find? fun m => decide (m.id = id)).map fun m => m.phrases.length).getD 0 + 50

/-! ### Withdrawal (R193) -/

/-- The channel that plays or stops one of a chain's members. -/
def Announcer.channelOf (a : Announcer) (c : Chain) : Option (Nat × Channel) :=
  a.numbered.find? fun x =>
    match x.2 with
    | .playing _ m _ _ => c.hasMessage m
    | .stopping _ m _ _ _ => c.hasMessage m
    | .idle => false

/-- A chain is withdrawn (R193); the caller runs the arbiter if the mask lifted. Where the chain's channel is PLAYING, the message-dropped
report of the discard (R180) is queued before the STOP report: the order is the model's choice (log entry 55). -/
def withdrawOne (e : Env) (b : Blocks) (z : Zone) (c : Chain) : Blocks :=
  let on := b.announce.channelOf c
  let b := discardChain e b z c .withdrawn
  match c.place, on with
  | .onChannel, some (i, .playing _ _ _ _) => stopChannel e b i .withdraw
  | .onChannel, some (i, .stopping cz m _ count began) => b.setChannel i (.stopping cz m .withdraw count began)
  | _, _ => b

/-- Every chain that meets a condition is withdrawn (R193), in zone order and queue order, which is the model's choice (log entry 54). -/
def withdrawWhere (e : Env) (b : Blocks) (p : Chain → Bool) : Blocks :=
  let after := allZones.foldl (fun b z => ((b.announce.queues.get z).filter p).foldl (fun b c => withdrawOne e b z c) b) b
  arbiterIfLifted e b after

/-- Chains linked to an incident that has left the table (R163, R193). -/
def withdrawIncident (e : Env) (b : Blocks) (id : IncidentId) : Blocks :=
  withdrawWhere e b fun c => decide (c.link = some (.incident id))

/-- Chains linked to a section that has left DEAD (R128, R193). -/
def withdrawSection (e : Env) (b : Blocks) (sec : TractionSection) : Blocks :=
  withdrawWhere e b fun c => decide (c.link = some (.traction sec))

/-! ### Automatic messages (R197 to R201) -/

/-- The row of R197 for one kind: priority, repeats, interval and origin. -/
def AutoKind.row : AutoKind → Nat × Nat × Nat × Origin
  | .approach => (2, 0, 50, .timetable)
  | .delay => (4, 2, 1200, .incident)
  | .suspend => (5, 3, 1800, .power)
  | .evacuate => (7, 15, 300, .incident)
  | .stalled => (4, 1, 900, .incident)
  | .held => (3, 0, 50, .timetable)

def Templates.get (t : Templates) : AutoKind → List Nat
  | .approach => t.approach
  | .delay => t.delay
  | .suspend => t.suspend
  | .evacuate => t.evacuate
  | .stalled => t.stalled
  | .held => t.held

/-- An automatic message for one zone (R197). -/
def offerAuto (e : Env) (b : Blocks) (kind : AutoKind) (z : Zone) (added : List Nat) (expiry : Option Nat) (link : Option Link) :
    Blocks :=
  admitOrDrop e b
    { zone := z, priority := kind.row.1, repeats := kind.row.2.1, interval := kind.row.2.2.1, notBefore := none
      expiry := expiry, link := link, origin := kind.row.2.2.2, kind := some kind
      members := [e.templates.get kind ++ added] }

/-- The ceiling of a quotient, brought into a range. -/
def minutes (ds hi : Nat) : Nat := min (max ((ds + 599) / 600) 1) hi

/-- APPROACH (R198). -/
def offerApproach (e : Env) (b : Blocks) (t : Track) (upstream : Nat) (phrase : Option Nat) : Blocks :=
  let expiry := saturate (upstream + (e.platformConfig t).rup)
  offerAuto e b .approach (.ofTrack t) (phrase.toList ++ [e.numberBase + minutes (expiry - e.now) 30]) (some expiry) none

/-- DELAY for a record that has entered the table, UP before DOWN (R199); CONCOURSE last is the model's choice (log entry 54). -/
def offerDelay (e : Env) (b : Blocks) (r : Incident) (lateness : Option Nat) : Blocks :=
  let d := (lateness.map fun l => minutes l 60).getD 1
  let covered := allTracks.filter fun t =>
    ((e.sectionAhead t).map r.span.covers).getD false || ((e.sectionBehind t).map r.span.covers).getD false
  let targets := covered.map Zone.ofTrack ++ if covered.isEmpty then [] else [.concourse]
  targets.foldl (fun b z => offerAuto e b .delay z [e.numberBase + d] none (some (.incident r.id))) b

/-- EVACUATE for a local EMERGENCY_STOP, to its platform's zone and to CONCOURSE (R200), in this order, which is the model's choice (log
entry 54). -/
def offerEvacuate (e : Env) (b : Blocks) (r : Incident) : Blocks :=
  match r.platform with
  | some p =>
    [Zone.ofTrack p.track, .concourse].foldl (fun b z => offerAuto e b .evacuate z [] none (some (.incident r.id))) b
  | none => b

/-- STALLED for a local TRAIN_STALLED (R200). -/
def offerStalled (e : Env) (b : Blocks) (r : Incident) : Blocks :=
  match r.platform with
  | some p => offerAuto e b .stalled (.ofTrack p.track) [] none (some (.incident r.id))
  | none => b

/-- SUSPEND for a platform whose section ahead is DEAD, to its zone and to CONCOURSE (R201), in this order, which is the model's choice
(log entry 54). -/
def offerSuspend (e : Env) (b : Blocks) (t : Track) (sec : TractionSection) : Blocks :=
  [Zone.ofTrack t, .concourse].foldl (fun b z => offerAuto e b .suspend z [] none (some (.traction sec))) b

/-- HELD for a platform (R201). -/
def offerHeld (e : Env) (b : Blocks) (t : Track) : Blocks := offerAuto e b .held (.ofTrack t) [] none none

/-- What a record's entry into the table offers (R199, R200). -/
def offerForIncident (e : Env) (b : Blocks) (r : Incident) (lateness : Option Nat) : Blocks :=
  match r.kind with
  | .delay => offerDelay e b r (if r.isLocal then lateness else none)
  | .emergencyStop => if r.isLocal then offerEvacuate e b r else b
  | .trainStalled => if r.isLocal then offerStalled e b r else b
  | .sectionTrip => b
  | .breakerFail => b
  | .uncommandedClose => b
  | .departedUnreleased => b
  | .nodeLost => b
  | .descriptionError => b
  | .operator => b

/-! ### Peer announcements (R202) -/

/-- An ANNOUNCE frame for a range of nodes. -/
def takeAnnounce (e : Env) (b : Blocks) (c : AnnounceContents) : Blocks :=
  if e.nodeState ≠ .configuring ∧ c.first ≤ e.nodeNumber ∧ e.nodeNumber ≤ c.last then
    c.zones.zones.foldl
      (fun b z =>
        admitOrDrop e b
          { zone := z, priority := c.priority, repeats := c.repeats, interval := c.interval, notBefore := none
            expiry := none, link := none, origin := .peer, kind := none, members := [c.phrases] }) b
  else b

/-! ### Time-driven steps -/

/-- A not-before that has been reached lets the arbiter run once (R181). -/
def notBeforeStep (e : Env) (b : Blocks) (message : Nat) : Blocks :=
  match b.announce.findMessage message with
  | some (z, c) => if c.notBeforeDue then arbiter e (placeChain b z { c with notBeforeDue := false }) else b
  | none => b

/-- A WAITING chain whose expiry is reached is discarded (R181). -/
def expiryStep (e : Env) (b : Blocks) (message : Nat) : Blocks :=
  match b.announce.findMessage message with
  | some (z, c) =>
    if c.place = .waiting ∧ e.expired c then arbiterIfLifted e b (discardChain e b z c .expired) else b
  | none => b

/-- A play whose count has reached its deadline fails (R189). -/
def deadlineStep (e : Env) (b : Blocks) (channel : Nat) : Blocks :=
  match b.announce.channel channel with
  | some (.playing z m count _) => if b.announce.deadline z m ≤ count then deadlinePlay e b channel z m else b
  | _ => b

/-- A stop whose count has reached 20 completes (R191). -/
def stopStep (e : Env) (b : Blocks) (channel : Nat) : Blocks :=
  match b.announce.channel channel with
  | some (.stopping z m cause count _) => if Config.stopLimit ≤ count then completeStop e b channel z m cause false else b
  | _ => b

/-! ### Resets (R203, R204) -/

/-- The channel records that CONFIGURE creates (R203). -/
def createChannels (b : Blocks) (count : Nat) : Blocks :=
  b.setAnnounce
    { b.announce with channels := List.replicate count .idle, faults := ⟨⟨false, 0⟩, ⟨false, 0⟩, ⟨false, 0⟩⟩ }

/-- The STOP report of a channel that was playing when SERVICE RESET was taken (R204). -/
def resetStop (e : Env) (b : Blocks) (x : Nat × Channel) : Blocks :=
  match x.2 with
  | .playing z m _ _ => queueReport e b (.stop x.1 z m none)
  | .idle => b
  | .stopping _ _ _ _ _ => b

/-- SERVICE RESET at the Announcement Controller (R204); within a step the channels go by number and the zones UP, DOWN, CONCOURSE,
which is the model's choice (log entry 54). -/
def resetAnnouncer (e : Env) (b : Blocks) : Blocks :=
  let b := b.announce.numbered.foldl (resetStop e) b
  let b := b.setAnnounce { b.announce with channels := b.announce.channels.map fun _ => .idle }
  let b := allZones.foldl (fun b z => (b.announce.queues.get z).foldl (fun b c => dropChain b z c) b) b
  let ended := allZones.filter fun z => (b.announce.faults.get z).fault
  let b := b.setAnnounce { b.announce with faults := ⟨⟨false, 0⟩, ⟨false, 0⟩, ⟨false, 0⟩⟩ }
  ended.foldl (fun b z => queueReport e b (.zoneFaultEnded z)) b

end Sys2Proof.Machine
end

