-- ==== Sys2Proof/Machine/Regulator.lean ====
section
/-! DEFINITION. The Platform Regulators: release, hold, withdrawal, recomputation, and what the other blocks tell them
(sections 6.3 to 6.6). Arrival and departure stand in Trains.lean. -/

namespace Sys2Proof.Machine

/-! ### Writing the record -/

/-- The dwell of an occupied platform written, in a state. -/
def writeDwell (b : Blocks) (t : Track) (phase : Phase) (d : Dwell) : Blocks :=
  b.setPlatform t { b.platforms.get t with standing := .occupied phase d }

/-- The report of a platform's state and set (R99, R101, R102). -/
def reportSet (e : Env) (b : Blocks) (t : Track) (phase : Phase) (d : Dwell) : Blocks :=
  queueReport e b (.stateAndSet t phase d.reasons)

/-- The instant A + Wmax (R106). -/
def heldLongInstant (e : Env) (t : Track) (d : Dwell) : Nat := saturate (d.arrival + (e.platformConfig t).wmax)

/-- Whether a HELD announcement is due for a train that stands HELD (R106). -/
def heldLongDue (e : Env) (t : Track) (d : Dwell) : Bool :=
  decide (d.mode = .regulated) && !d.heldLong && e.reached (heldLongInstant e t d)

/-- The HELD announcement of a train that stands HELD past A + Wmax (R106). -/
def watchHeld (e : Env) (b : Blocks) (t : Track) : Blocks :=
  match (b.platforms.get t).standing with
  | .occupied .held d =>
    if heldLongDue e t d then offerHeld e (writeDwell b t .held { d with heldLong := true }) t else b
  | _ => b

/-- Entry to HELD with a set: starter off, report, and the HELD announcement when it is due (R99, R102, R106). The report before the
announcement is the model's choice (log entry 55). -/
def enterHeld (e : Env) (b : Blocks) (t : Track) (d : Dwell) : Blocks :=
  watchHeld e (reportSet e ((writeDwell b t .held d).setStarter t false) t .held d) t

/-- Entry to RELEASED: the mark settled, the grace cleared, the starter on, report (R89, R99). -/
def enterReleased (e : Env) (b : Blocks) (t : Track) (d : Dwell) : Blocks :=
  let d := { d with reasons := .empty, staggerOpen := false, grace := none }
  reportSet e ((writeDwell b t .released d).setStarter t true) t .released d

/-! ### The release check (R98 to R100) -/

/-- The set the release check finds, with P as it computes it (R99, R100). -/
def checkedDwell (e : Env) (b : Blocks) (t : Track) (d : Dwell) : Dwell :=
  let p := if d.staggerOpen then staggerTime e b t else d.staggerTime
  { d with
    staggerTime := p
    reasons :=
      { power := reasonPower e b t, incident := reasonIncident e b t, estop := reasonEstop b t
        stagger := reasonStagger e d.staggerOpen p, operator := d.reasons.operator } }

/-- The release check (R99). -/
def releaseCheck (e : Env) (b : Blocks) (t : Track) (d : Dwell) : Blocks :=
  let d := checkedDwell e b t d
  if d.reasons.isEmpty then enterReleased e b t d else enterHeld e b t d

/-- Whether a dwell waits for a target that is reached (R98). -/
def targetDue (e : Env) (d : Dwell) : Bool := decide (d.mode = .regulated) && e.passed d.target

/-- The dwell target is reached (R98). -/
def targetStep (e : Env) (b : Blocks) (t : Track) : Blocks :=
  match (b.platforms.get t).standing with
  | .occupied .dwell d => if targetDue e d then releaseCheck e b t { d with targetOver := true } else b
  | _ => b

/-! ### Re-evaluation in HELD and withdrawal in RELEASED (R101, R102) -/

/-- A HELD dwell written with its new set: released when it is empty, reported when it changed. -/
def settleHeld (e : Env) (b : Blocks) (t : Track) (old new : Dwell) : Blocks :=
  if new.reasons.isEmpty then enterReleased e b t new
  else if new.reasons = old.reasons then writeDwell b t .held new
  else reportSet e (writeDwell b t .held new) t .held new

/-- A release withdrawn with the reasons that caused it; the grace starts (R102). -/
def withdrawRelease (e : Env) (b : Blocks) (t : Track) (d : Dwell) (reasons : Reasons) : Blocks :=
  enterHeld e b t { d with reasons := reasons, grace := some 0 }

/-- The Power Controller tells of a change of the section ahead (R101, R102, R128). -/
def toldPower (e : Env) (b : Blocks) (t : Track) : Blocks :=
  match (b.platforms.get t).standing with
  | .occupied .held d => settleHeld e b t d { d with reasons := { d.reasons with power := reasonPower e b t } }
  | .occupied .released d => if reasonPower e b t then withdrawRelease e b t d { Reasons.empty with power := true } else b
  | .occupied .dwell _ => b
  | .vacant => b

/-- The Incident Table tells one regulator of an entry, a departure or a change (R101, R102, R163). -/
def toldIncidentAt (e : Env) (b : Blocks) (t : Track) : Blocks :=
  match (b.platforms.get t).standing with
  | .occupied .held d => settleHeld e b t d { d with reasons := { d.reasons with incident := reasonIncident e b t } }
  | .occupied .released d =>
    if reasonIncident e b t then withdrawRelease e b t d { Reasons.empty with incident := true } else b
  | .occupied .dwell _ => b
  | .vacant => b

/-- The Incident Table tells both regulators (R101, R163). UP is told before DOWN: the order is the model's choice (log entry 54). -/
def toldIncident (e : Env) (b : Blocks) : Blocks := toldIncidentAt e (toldIncidentAt e b .up) .down

/-- The Power Controller tells of a change of the platform's latch (R101, R102, R139, R141). -/
def toldLatch (e : Env) (b : Blocks) (t : Track) : Blocks :=
  match (b.platforms.get t).standing with
  | .occupied .held d => settleHeld e b t d { d with reasons := { d.reasons with estop := reasonEstop b t } }
  | .occupied .released d => if reasonEstop b t then withdrawRelease e b t d { Reasons.empty with estop := true } else b
  | .occupied .dwell _ => b
  | .vacant => b

/-- The Peer View tells one regulator of a change of the recent-starts table (R60, R100, R101). -/
def toldStartsAt (e : Env) (b : Blocks) (t : Track) : Blocks :=
  match (b.platforms.get t).standing with
  | .occupied .held d =>
    if d.staggerOpen then
      let p := staggerTime e b t
      settleHeld e b t d { d with staggerTime := p, reasons := { d.reasons with stagger := reasonStagger e true p } }
    else b
  | .occupied .released _ => b
  | .occupied .dwell _ => b
  | .vacant => b

/-- The Peer View tells both regulators (R60); UP first is the model's choice (log entry 31). -/
def toldStarts (e : Env) (b : Blocks) : Blocks := toldStartsAt e (toldStartsAt e b .up) .down

/-- Whether a HELD dwell waits for a stagger time that is reached (R101). -/
def staggerDue (e : Env) (d : Dwell) : Bool := d.reasons.stagger && !reasonStagger e d.staggerOpen d.staggerTime

/-- P is reached (R101). -/
def staggerStep (e : Env) (b : Blocks) (t : Track) : Blocks :=
  match (b.platforms.get t).standing with
  | .occupied .held d =>
    if staggerDue e d then settleHeld e b t d { d with reasons := { d.reasons with stagger := false } } else b
  | _ => b

/-- Whether a withdrawal grace has run its length (R102). -/
def graceDue (d : Dwell) : Bool := (d.grace.map fun n => decide (Config.graceLength ≤ n)).getD false

/-- The withdrawal grace expires (R102). -/
def graceStep (b : Blocks) (t : Track) : Blocks :=
  match (b.platforms.get t).standing with
  | .occupied phase d => if graceDue d then writeDwell b t phase { d with grace := none } else b
  | .vacant => b

/-- A + Wmax is reached while the platform is HELD (R106). -/
def wmaxStep (e : Env) (b : Blocks) (t : Track) : Blocks := watchHeld e b t

/-! ### Operator requests (R103 to R105) -/

/-- HOLD at a platform. -/
def holdPlatform (e : Env) (b : Blocks) (t : Track) : Blocks × Status :=
  match (b.platforms.get t).standing with
  | .vacant => (b, .state)
  | .occupied .released d => (withdrawRelease e b t d { Reasons.empty with operator := true }, .ok)
  | .occupied phase d =>
    if d.reasons.operator then (b, .ok)
    else
      let d := { d with reasons := { d.reasons with operator := true } }
      (reportSet e (writeDwell b t phase d) t phase d, .ok)

/-- UNHOLD at a platform. -/
def unholdPlatform (e : Env) (b : Blocks) (t : Track) : Blocks × Status :=
  match (b.platforms.get t).standing with
  | .vacant => (b, .state)
  | .occupied phase d =>
    if !d.reasons.operator then (b, .state)
    else
      let new := { d with reasons := { d.reasons with operator := false } }
      match phase with
      | .held => (settleHeld e b t d new, .ok)
      | .dwell => (reportSet e (writeDwell b t .dwell new) t .dwell new, .ok)
      | .released => (reportSet e (writeDwell b t .released new) t .released new, .ok)

/-- RELEASE at a platform. -/
def releasePlatform (e : Env) (b : Blocks) (t : Track) : Blocks × Status :=
  match (b.platforms.get t).standing with
  | .vacant => (b, .state)
  | .occupied .released _ => (b, .state)
  | .occupied phase d =>
    let new := { d with targetOver := true, staggerOpen := false, reasons := { d.reasons with operator := false, stagger := false } }
    match phase with
    | .dwell => (releaseCheck e b t new, .ok)
    | .held => (settleHeld e b t d new, .ok)
    | .released => (b, .state)

/-! ### The dwell target in the record (R93, R97) -/

/-- What the computation reads for a dwell (R93). -/
def dwellInput (e : Env) (b : Blocks) (t : Track) (d : Dwell) (gain : Nat) : DwellInput :=
  let cfg := e.platformConfig t
  { arrival := d.arrival, scheduled := d.scheduled, wmin := cfg.wmin, wmax := cfg.wmax, rup := cfg.rup
    previous := (b.platforms.get t).lastDeparture.map (·.dact), headway := d.headway
    follower := ((b.describer.get t).head?).map (·.upstream), gain := gain }

/-- A dwell with the target and deviation of a computation (R95, R96). -/
def Dwell.aim (d : Dwell) (i : DwellInput) : Dwell := { d with target := some i.target, deviation := i.deviation }

/-- The Train Describer tells the regulator of an addition (R79, R97). -/
def toldAddition (e : Env) (b : Blocks) (t : Track) (wasEmpty : Bool) : Blocks :=
  match (b.platforms.get t).standing with
  | .occupied .dwell d =>
    if wasEmpty && decide (d.mode = .regulated) && d.followerAvailable then
      let gain := effectiveGain e b t d.entry.isNone
      let d := { d with followerAvailable := false }.aim (dwellInput e b t d gain)
      let b := queueReport e (writeDwell b t .dwell d) (.recomputation t (d.target.getD 0) d.deviation gain)
      if e.passed d.target then releaseCheck e b t { d with targetOver := true } else b
    else b
  | _ => b

end Sys2Proof.Machine
end

