-- ==== Sys2Proof/Machine/Power.lean ====
section
/-! DEFINITION. The Power Controller's own operations: breaker states and commands, lockout sets, sections, isolation items and
the RESTORE protocol (chapter 7). What raises incidents stands in PowerEvents.lean. -/

namespace Sys2Proof.Machine

/-- A breaker's record changed where it stands. -/
def modifyBreaker (b : Blocks) (br : Breaker) (f : BreakerRecord → BreakerRecord) : Blocks :=
  match b.power.breakers.get br with
  | some r => b.setBreaker br (f r)
  | none => b

/-- A breaker's condition; `none` while its input has not settled or it is absent. -/
def Blocks.condition (b : Blocks) (br : Breaker) : Option Condition :=
  match b.power.breakers.get br with
  | some r => r.condition
  | none => none

/-! ### Sections (R127, R128) -/

/-- What a change of a section's state makes known beside the report (R128). -/
def tellSection (e : Env) (b : Blocks) (sec : TractionSection) (before after : SectionState) : Blocks :=
  let b := match e.platformAhead sec with
    | some t =>
      let b := toldPower e b t
      if after = .dead ∧ e.inService then offerSuspend e b t sec else b
    | none => b
  if before = .dead then withdrawSection e b sec else b

/-- The section of a breaker is derived afresh and its change made known (R127, R128). A record that did not exist yet is created, and
its regulator told, without a report: the model's reading (log entry 25). A record created DEAD in SERVICE does not count as having
become DEAD, and offers no SUSPEND (R128, R201): the model's choice (log entry 25). -/
def sectionUpdate (e : Env) (b : Blocks) (br : Breaker) : Blocks :=
  match b.power.breakers.get br with
  | some r =>
    if r.condition = none then b
    else
      let after := sectionStateOf e b br
      let sec := e.fed br
      let written := b.setBreaker br { r with sectionState := some after }
      match r.sectionState with
      | none =>
        match e.platformAhead sec with
        | some t => toldPower e written t
        | none => written
      | some before =>
        if before = after then b
        else tellSection e (queueReport e written (.sectionChange sec before after)) sec before after
  | none => b

/-! ### Isolation items (R132) -/

/-- Whether one end of a section is known OPEN (R132). -/
def endOpen (e : Env) (b : Blocks) (node : Nat) (sec : TractionSection) : Bool :=
  match sec.breakerAt node with
  | some br =>
    if node = e.nodeNumber then b.breakerState br = some .opened
    else (b.peers.reported node br).map (·.1) = some .opened
  | none => false

/-- Whether both ends are known OPEN. -/
def bothOpen (e : Env) (b : Blocks) (sec : TractionSection) : Bool := endOpen e b sec.gap sec && endOpen e b (sec.gap + 1) sec

/-- The isolation list of a record; a copy has none (R145). -/
def Incident.items (r : Incident) : List IsolationItem :=
  match r.holding with
  | .owned o => o.isolation
  | .copy _ => []

def Incident.setItems (r : Incident) (l : List IsolationItem) : Incident :=
  match r.holding with
  | .owned o => { r with holding := .owned { o with isolation := l } }
  | .copy _ => r

/-- One item of a record changed. -/
def setItem (b : Blocks) (id : IncidentId) (sec : TractionSection) (f : IsolationItem → IsolationItem) : Blocks :=
  b.modifyRecord id fun r => r.setItems (r.items.map fun i => if i.sec = sec then f i else i)

/-- An item becomes CONFIRMED when both ends are known OPEN; the change is reported (R132). -/
def confirmItem (e : Env) (b : Blocks) (id : IncidentId) (sec : TractionSection) : Blocks :=
  if bothOpen e b sec then
    queueReport e (setItem b id sec fun i => { i with state := .confirmed }) (.itemChange id sec .confirmed)
  else b

/-- The PENDING items that meet a condition, with their incidents, in table order. -/
def pendingItems (b : Blocks) (p : TractionSection → Bool) : List (IncidentId × TractionSection) :=
  b.incidents.records.flatMap fun r =>
    (r.items.filter fun i => decide (i.state = .pending) && p i.sec).map fun i => (r.id, i.sec)

/-- The check of R132 for the items of one section, or of every section, in table order, which is the model's choice (log entry 54). -/
def confirmItems (e : Env) (b : Blocks) (p : TractionSection → Bool) : Blocks :=
  (pendingItems b p).foldl (fun b x => confirmItem e b x.1 x.2) b

/-! ### Changes of state, commands and waits (R118 to R122, R138) -/

/-- A change of a breaker's state: POWER frame, POWER report, the section, and the isolations of its section when it is OPEN
(R120, R127, R129, R130, R132); the report of the breaker before what its section and items bring is the model's choice (log
entry 55). -/
def setCondition (e : Env) (b : Blocks) (br : Breaker) (c : Condition) (cause : Option ChangeCause) : Blocks :=
  let b := modifyBreaker b br fun r => { r with condition := some c }
  let b := queueReport e (queuePowerFrame e b br none) (.breakerChange br c.state cause)
  let b := sectionUpdate e b br
  if c = .opened then confirmItems e b fun sec => decide (sec = e.fed br) else b

/-- A refusal or abandonment at this end: POWER frame and POWER report with the reason (R129, R130). -/
def refuseRestore (e : Env) (b : Blocks) (br : Breaker) (requester : Nat) (reason : RefusalReason) : Blocks :=
  queueReport e (queuePowerFrame e b br (some reason)) (.restoreRefused (e.fed br) requester reason.code)

/-- A restore wait on a breaker, if it has one. -/
def Blocks.waitOf (b : Blocks) (br : Breaker) : Option RestoreWait :=
  match b.power.breakers.get br with
  | some r => r.wait
  | none => none

def clearWait (b : Blocks) (br : Breaker) : Blocks := modifyBreaker b br fun r => { r with wait := none }

/-- A restore wait ended with a reason (R138). -/
def endWait (e : Env) (b : Blocks) (br : Breaker) (reason : RefusalReason) : Blocks :=
  match b.waitOf br with
  | some w => refuseRestore e (clearWait b br) br w.requester reason
  | none => b

/-- A command issued now, with the limit in force (R116). -/
def Env.newCommand (e : Env) (overtook : Bool) : Command :=
  { count := 0, limit := e.timeLimit, overtook := overtook, passing := false }

/-- An open command (R118). -/
def openCommand (e : Env) (b : Blocks) (br : Breaker) : Blocks :=
  let opened := match b.power.breakers.get br with
    | some r =>
      match r.condition with
      | some .closed => setCondition e (openCoil b br) br (.opening (e.newCommand false)) none
      | some (.closing _) => setCondition e (openCoil b br) br (.opening (e.newCommand true)) none
      | some (.opening _) => b
      | some .opened => b
      | some .failed =>
        if r.inputClosed = some true then setCondition e (openCoil b br) br (.opening (e.newCommand false)) none
        else setCondition e b br .opened none
      | none => b
    | none => b
  endWait e opened br .abandoned

/-- An open command where a lockout stands on a breaker that has become CLOSED (R117, R122, R124). -/
def openIfLocked (e : Env) (b : Blocks) (br : Breaker) : Blocks :=
  match b.power.breakers.get br with
  | some r => if r.lockedOut ∧ r.condition = some .closed then openCommand e b br else b
  | none => b

/-- A close command (R119); the caller has checked the close conditions. -/
def closeCommand (e : Env) (b : Blocks) (br : Breaker) : Blocks :=
  setCondition e (closeCoil b br) br (.closing (e.newCommand false)) none

/-- A FAILED breaker follows its input level (R122, R144). -/
def followInput (e : Env) (b : Blocks) (br : Breaker) : Blocks :=
  match b.power.breakers.get br with
  | some r =>
    if r.condition = some .failed then
      let c : Condition := if r.inputClosed = some true then .closed else .opened
      openIfLocked e (setCondition e b br c (some .followInput)) br
    else b
  | none => b

/-! ### Lockout sets (R125, R126) -/

/-- The report of a lockout set that has changed in count or OVERLOCK (R125). -/
def reportLockout (e : Env) (b : Blocks) (br : Breaker) (before : BreakerRecord) : Blocks :=
  match b.power.breakers.get br with
  | some r =>
    if r.lockout.length = before.lockout.length ∧ r.overlock = before.overlock then b
    else queueReport e b (.lockoutChange br r.lockout.length r.overlock)
  | none => b

/-- A record with an id added (R125); `latch` for the id of an emergency stop whose latch is being set. -/
def BreakerRecord.addLockout (r : BreakerRecord) (id : IncidentId) (latch : Bool) : BreakerRecord :=
  if r.lockout.length < Config.lockoutMax then { r with lockout := r.lockout ++ [id] }
  else if latch then { r with lockout := r.lockout.dropLast ++ [id], overlock := true }
  else { r with overlock := true }

/-- What follows an addition at the breaker: the open command with the effect R118 gives each state, so also FAILED with input OPEN
becoming OPEN (R122), then the end of a close pulse and of a restore wait (R125; log entry 43). -/
def examineBreaker (e : Env) (b : Blocks) (br : Breaker) : Blocks := endWait e (endCloseCoil (openCommand e b br) br) br .abandoned

/-- An id joins a breaker's lockout set (R125). The report of the set (R130, event 2) is queued before that of the breaker's change
(event 1): the order is the model's choice (log entry 55). -/
def lockoutAdd (e : Env) (b : Blocks) (br : Breaker) (id : IncidentId) (latch : Bool) : Blocks :=
  match b.power.breakers.get br with
  | some r =>
    if id ∈ r.lockout then b
    else examineBreaker e (reportLockout e (b.setBreaker br (r.addLockout id latch)) br r) br
  | none => b

/-- An id leaves a breaker's lockout set (R126). -/
def lockoutRemove (e : Env) (b : Blocks) (br : Breaker) (id : IncidentId) : Blocks :=
  match b.power.breakers.get br with
  | some r =>
    if id ∈ r.lockout then
      reportLockout e (b.setBreaker br { r with lockout := r.lockout.filter fun i => decide (i ≠ id) }) br r
    else b
  | none => b

/-- FORCE empties a set and clears OVERLOCK; the id of a set latch stays (R126). -/
def forceLockout (e : Env) (b : Blocks) (br : Breaker) : Blocks :=
  match b.power.breakers.get br with
  | some r =>
    reportLockout e (b.setBreaker br { r with lockout := r.lockout.filter fun i => b.power.isLatched i, overlock := false }) br r
  | none => b

/-- A fail id that has left the table (R122). -/
def failIdLeft (e : Env) (b : Blocks) (br : Breaker) (id : IncidentId) : Blocks :=
  match b.power.breakers.get br with
  | some r => if r.failId = some id then followInput e (b.setBreaker br { r with failId := none }) br else b
  | none => b

/-- The latch of a track whose incident has left the table (R141). -/
def latchIdLeft (b : Blocks) (t : Track) (id : IncidentId) : Blocks :=
  let l := b.power.latches.get t
  if l.isSet ∧ l.id = some id then b.setLatch t { l with isSet := false, id := none } else b

/-- The regulator's and the station computer's notice of a latch that has cleared (R141). -/
def tellLatchCleared (e : Env) (b : Blocks) (t : Track) (id : IncidentId) (before : Blocks) : Blocks :=
  if (before.power.latches.get t).isSet ∧ ¬(b.power.latches.get t).isSet then
    queueReport e (toldLatch e b t) (.latchCleared t (some id))
  else b

/-- The Incident Table tells of an id that has left the table or was named by a CLOSE frame (R122, R126, R141). The lockout sets and
latches lose it before a breaker whose fail id it is takes its input level, so no open command follows for that id: the order is
the model's choice (log entry 52), and so is UL, UH, DL, DH among the sets that lose it (log entry 54). -/
def powerIdLeft (e : Env) (b : Blocks) (id : IncidentId) : Blocks :=
  let cleared := allTracks.foldl (fun b t => latchIdLeft b t id) b
  let freed := allBreakers.foldl (fun b br => lockoutRemove e b br id) cleared
  let told := allTracks.foldl (fun x t => tellLatchCleared e x t id b) freed
  allBreakers.foldl (fun b br => failIdLeft e b br id) told

/-! ### The RESTORE protocol (R134 to R138) -/

/-- The named-id cleanup (R135). -/
def namedCleanup (e : Env) (b : Blocks) (br : Breaker) (id : Option IncidentId) : Blocks :=
  match id with
  | some i => if (b.incidents.find i).isNone then lockoutRemove e b br i else b
  | none => b

/-- The close conditions in their order; the first that fails gives its reason (R135). -/
def closeRefusal (e : Env) (b : Blocks) (br : Breaker) (fromPort : Bool) : Option RefusalReason :=
  match b.power.breakers.get br with
  | some r =>
    if b.power.keyLocal && !fromPort then some .keyLocal
    else if !r.lockout.isEmpty then some .lockout
    else if r.overlock then some .overlock
    else if r.condition ≠ some .opened then some .notOpen
    else if b.incidents.coverage (e.fed br) then some .incident
    else if (b.power.latches.get br.track).isSet then some .estop
    else none
  | none => some .notOpen

/-- The low end of a section meets a RESTORE (R136). -/
def meetLow (e : Env) (b : Blocks) (br : Breaker) (fromPort : Bool) (requester : Nat) : Blocks :=
  match closeRefusal e b br fromPort with
  | none => closeCommand e b br
  | some reason => refuseRestore e b br requester reason

/-- The high end of a section meets a RESTORE (R137). -/
def meetHigh (e : Env) (b : Blocks) (br : Breaker) (fromPort : Bool) (requester : Nat) (id : Option IncidentId) : Blocks :=
  match closeRefusal e b br fromPort with
  | some reason => refuseRestore e (clearWait b br) br requester reason
  | none =>
    if !(b.peers.entry (e.farNode br)).liveness.heard || decide ((farReport e b br).map (·.1) = some .closed) then
      closeCommand e (clearWait b br) br
    else
      let b := modifyBreaker b br fun r =>
        { r with wait := some { fromPort := fromPort, requester := requester, id := id, count := 0 } }
      if fromPort then b else queuePowerFrame e b br none

/-- An end node meets a RESTORE for its breaker (R135 to R137). -/
def meetRestore (e : Env) (b : Blocks) (br : Breaker) (fromPort : Bool) (requester : Nat) (id : Option IncidentId) : Blocks :=
  let b := namedCleanup e b br id
  match b.condition br with
  | some .closed => queuePowerFrame e b br none
  | some (.closing _) => queuePowerFrame e b br none
  | _ => if br.atHighEnd then meetHigh e b br fromPort requester id else meetLow e b br fromPort requester

/-- The low end has become CLOSED or LOST while a wait stands (R137). -/
def tryWait (e : Env) (b : Blocks) (br : Breaker) : Blocks :=
  match b.waitOf br with
  | some w =>
    match closeRefusal e b br w.fromPort with
    | none => closeCommand e (clearWait b br) br
    | some reason => refuseRestore e (clearWait b br) br w.requester reason
  | none => b

/-- The Peer View tells of a changed far-end report (R55, R127, R132, R137). The section is derived first, then its items are checked,
then a restore wait ends: the order is the model's choice (log entry 55). -/
def toldFarEnd (e : Env) (b : Blocks) (br : Breaker) : Blocks :=
  let b := sectionUpdate e b br
  let b := confirmItems e b fun sec => decide (sec = e.fed br)
  if br.atHighEnd && decide ((farReport e b br).map (·.1) = some .closed) then tryWait e b br else b

/-- The Peer View tells of a neighbour that has become LOST (R56, R137); UL before DL is the model's choice (log entry 54). -/
def toldLost (e : Env) (b : Blocks) (p : Nat) : Blocks :=
  allBreakers.foldl (fun b br => if br.atHighEnd && decide (e.farNode br = p) && e.present br then tryWait e b br else b) b

/-! ### Settlement, the passing mark and the wait's end by time (R117, R120, R138) -/

/-- The initial level of a breaker (R117); the state must be absent. -/
def settleBreaker (e : Env) (b : Blocks) (br : Breaker) (isClosed : Bool) : Blocks :=
  let b := modifyBreaker b br fun r => { r with inputClosed := some isClosed }
  openIfLocked e (setCondition e b br (if isClosed then .closed else .opened) (some .settlement)) br

/-- Whether an OPENING that overtook a CLOSING has come to its third advance without a rise (R120). -/
def thirdDue (r : BreakerRecord) : Bool :=
  match r.condition with
  | some (.opening c) => c.overtook && !c.passing && decide (3 ≤ c.count) && decide (r.inputClosed = some false)
  | _ => false

/-- The third advance: the breaker is taken never to have closed (R120). R130 names no cause for this change; the report gives command
arrival, which is the model's choice (log entry 14). -/
def thirdStep (e : Env) (b : Blocks) (br : Breaker) : Blocks :=
  match b.power.breakers.get br with
  | some r => if thirdDue r then setCondition e b br .opened (some .arrival) else b
  | none => b

/-- Whether a restore wait has run its time (R138). -/
def waitDue (r : BreakerRecord) : Bool := (r.wait.map fun w => decide (Config.restoreWait ≤ w.count)).getD false

/-- The wait's time runs out (R138). -/
def waitStep (e : Env) (b : Blocks) (br : Breaker) : Blocks :=
  match b.power.breakers.get br with
  | some r => if waitDue r then endWait e b br .restoreIncomplete else b
  | none => b

end Sys2Proof.Machine
end

