-- ==== Sys2Proof/Machine/Incidents.lean ====
section
/-! DEFINITION. The Incident Table: raises, closes, copies, claims, adoption and what it makes known (chapter 8). -/

namespace Sys2Proof.Machine

/-! ### Making known (R163, R164) -/

/-- The alarm sounds for a severity of 3 or more (R164). -/
def soundAlarm (b : Blocks) (severity : Nat) : Blocks := if 3 ≤ severity then setAlarm b true else b

/-- A record's entry (R163). -/
def tellEntry (e : Env) (b : Blocks) (r : Incident) (lateness : Option Nat) : Blocks :=
  offerForIncident e (soundAlarm (toldIncident e b) r.severity) r lateness

/-- A change of severity or span (R163); only a rise of severity can sound the alarm (R164). -/
def tellChange (e : Env) (b : Blocks) (before after : Nat) : Blocks :=
  let b := toldIncident e b
  if before < after then soundAlarm b after else b

/-- A record's departure (R163). -/
def tellDeparture (e : Env) (b : Blocks) (id : IncidentId) : Blocks :=
  toldIncident e (withdrawIncident e (powerIdLeft e b id) id)

/-! ### Entering and leaving the table -/

/-- A record stands at the end of the table with the next admission number and its block (R145, R169). -/
def enterRecord (b : Blocks) (r : Incident) : Blocks :=
  let b := b.setIncidents
    { b.incidents with
      records := b.incidents.records ++ [{ r with admission := b.incidents.nextAdmission }]
      nextAdmission := b.incidents.nextAdmission + 1 }
  b.setStore (b.store.grantIncident r.id)

/-- A record leaves the table and its block is freed (R171). -/
def leaveTable (b : Blocks) (id : IncidentId) : Blocks :=
  releaseIncident (b.setRecords (b.incidents.records.filter fun r => decide (r.id ≠ id))) id

/-- The close of a local record (R154); a close at a CONFIGURE sends no CLOSE frame. Where one is queued the record's refresh count is 0
from then on (R156), and so it stands in the report (R165). -/
def closeRecord (e : Env) (b : Blocks) (r : Incident) (reason : CloseReason) : Blocks :=
  let b := if reason = .configure then b else queueFrame e b (.incident (r.contents .close (some reason)))
  let b := tellDeparture e (leaveTable b r.id) r.id
  queueReport e b (.incident (.closed reason.code) (if reason = .configure then r else r.refreshed))

/-- The automatic close of a record its raiser found by lookup (R154). -/
def closeOwned (e : Env) (b : Blocks) (id : Option IncidentId) (kind : IncidentKind) : Blocks :=
  match id.bind fun i => b.incidents.findOwned i kind with
  | some r => closeRecord e b r .auto
  | none => b

/-- A copy leaves the table, as at a CLOSE frame (R159). -/
def removeCopy (e : Env) (b : Blocks) (id : IncidentId) : Blocks := tellDeparture e (leaveTable b id) id

/-- Every local record that meets a condition is closed (R155, R167). They are closed in the table's order, which is that of admission:
the model's choice (log entry 54). -/
def closeWhere (e : Env) (b : Blocks) (p : Incident → Bool) (reason : CloseReason) : Blocks :=
  ((b.incidents.records.filter fun r => r.isLocal && p r).map (·.id)).foldl
    (fun b id => match b.incidents.find id with
      | some r => closeRecord e b r reason
      | none => b) b

/-! ### Capacity (R148) -/

/-- The record of lowest severity, and among those the oldest; the table stands in admission order. -/
def lightest : List Incident → Option Incident
  | [] => none
  | r :: rest =>
    match lightest rest with
    | none => some r
    | some s => some (if s.severity < r.severity then s else r)

/-- An evicted copy (R148, R159). Its report (R165, event 11) is queued after what its departure makes known: the order is the model's
choice (log entry 55). -/
def evictCopy (e : Env) (b : Blocks) (r : Incident) : Blocks := queueReport e (removeCopy e b r.id) (.incident .evicted r)

/-- The copies that step 1 may evict for a newcomer (R148). -/
def Blocks.evictable (b : Blocks) (severity : Nat) : Option Incident :=
  lightest (b.incidents.records.filter fun r =>
    !r.isLocal && decide (r.severity < severity) && !b.power.holdsLockout r.id)

/-- Room for a newcomer (R148); `none` when there is none. -/
def makeRoom (e : Env) (b : Blocks) (severity : Nat) (isLocal : Bool) : Option Blocks :=
  if b.incidents.records.length < Config.incidentMax then some b
  else
    match b.evictable severity with
    | some r => some (evictCopy e b r)
    | none =>
      if isLocal && decide (severity = 4) then
        match lightest (b.incidents.records.filter fun r => r.isLocal && decide (r.severity < 4)) with
        | some r => some (closeRecord e b r .evicted)
        | none =>
          match b.incidents.records.find? fun r =>
              !r.isLocal && decide (r.severity = 4) && !b.power.holdsLockout r.id with
          | some r => some (evictCopy e b r)
          | none =>
            match b.incidents.records.find? fun r => r.isLocal && decide (r.severity = 4) && !b.power.isLatched r.id with
            | some r => some (closeRecord e b r .evicted)
            | none => none
      else none

/-! ### Raising (R147, R149) -/

/-- What a raiser gives (R149). -/
structure Raise where
  kind : IncidentKind
  severity : Nat
  span : Span
  platform : Option PlatformRef
  trip : Option Nat
deriving DecidableEq, Repr

/-- The next serial: one more than the last, wrapping from 255 to 1, past every serial of this origin in the table (R147). -/
def nextSerial (held : List Nat) (last : Nat) : Nat :=
  (((List.range (held.length + 1)).map fun i => (last + i) % 255 + 1).find? fun n => decide (n ∉ held)).getD (last % 255 + 1)

/-- The serials of this node's origin in the table. -/
def IncidentTable.serials (i : IncidentTable) (node : Nat) : List Nat :=
  (i.records.filter fun r => decide (r.id.origin = node)).map fun r => r.id.serial

/-- The severity floor of a local record at its raise (R149). -/
def Raise.floor (x : Raise) : Nat := if x.kind = .operator then 1 else x.severity

/-- The record of a local raise (R149, step 1). -/
def Raise.record (x : Raise) (e : Env) (serial : Nat) : Incident :=
  { id := ⟨e.nodeNumber, serial⟩, kind := x.kind, severity := x.severity, span := x.span, platform := x.platform
    trip := x.trip, owner := e.nodeNumber, adoptedFrom := none, raised := e.now, acked := none, isolationFailed := false
    holding := .owned { acknowledged := false, floor := x.floor, isolation := [], refresh := 0, age := 0 }, admission := 0 }

/-- A local raise (R148, R149): the new id, or none when the raise is lost. A lost automatic raise is reported. -/
def raiseIncident (e : Env) (b : Blocks) (x : Raise) (lateness : Option Nat) : Blocks × Option IncidentId :=
  match makeRoom e b x.severity true with
  | none => (if x.kind = .operator then b else queueReport e b (.raiseLost x.kind x.span x.platform x.trip), none)
  | some b =>
    let serial := nextSerial (b.incidents.serials e.nodeNumber) b.incidents.lastSerial
    let r := x.record e serial
    let b := enterRecord (b.setIncidents { b.incidents with lastSerial := serial }) r
    let b := queueIncidentFrame e b r.id .raise none
    let b := reportIncident e b .raised r.id
    (tellEntry e b r lateness, some r.id)

/-! ### Acknowledge, change, escalation, close (R151 to R155) -/

/-- The local fields of a record changed. -/
def Incident.mapOwned (r : Incident) (f : Owned → Owned) : Incident :=
  match r.holding with
  | .owned o => { r with holding := .owned (f o) }
  | .copy _ => r

def Incident.owned? (r : Incident) : Option Owned :=
  match r.holding with
  | .owned o => some o
  | .copy _ => none

/-- ACKNOWLEDGE (R151). -/
def acknowledgeIncident (e : Env) (b : Blocks) (id : IncidentId) : Blocks × Status :=
  match b.incidents.find id with
  | none => (b, .unknownId)
  | some r =>
    match r.owned? with
    | none => (b, .state)
    | some o =>
      if o.acknowledged then (b, .state)
      else
        let b := b.modifyRecord id fun r => { r.mapOwned (fun o => { o with acknowledged := true }) with acked := some e.now }
        (reportIncident e (queueIncidentFrame e b id .change none) .acknowledged id, .ok)

/-- CHANGE (R152); a copy is answered STATE before its severity is looked at (log entry 56). -/
def changeIncident (e : Env) (b : Blocks) (id : IncidentId) (severity : Nat) : Blocks × Status :=
  match b.incidents.find id with
  | none => (b, .unknownId)
  | some r =>
    match r.owned? with
    | none => (b, .state)
    | some o =>
      if severity < 1 ∨ 3 < severity ∨ severity < o.floor then (b, .range)
      else if severity = r.severity then (b, .ok)
      else
        let b := b.modifyRecord id fun r => { r with severity := severity }
        let b := reportIncident e (queueIncidentFrame e b id .change none) .changed id
        (tellChange e b r.severity severity, .ok)

/-- The escalation of a local record by a FAILED isolation item; a record already at severity 4 takes the flag alone, with its CHANGE
frame (R153). -/
def escalate (e : Env) (b : Blocks) (id : IncidentId) : Blocks :=
  match b.incidents.find id with
  | some r =>
    if r.isLocal ∧ ¬r.isolationFailed then
      if r.severity = 4 then
        queueIncidentFrame e (b.modifyRecord id fun r => { r with isolationFailed := true }) id .change none
      else
        let b := b.modifyRecord id fun r =>
          { r.mapOwned (fun o => { o with floor := 4 }) with severity := 4, isolationFailed := true }
        tellChange e (reportIncident e (queueIncidentFrame e b id .change none) .escalated id) r.severity 4
    else b
  | none => b

/-- Whether an adopted EMERGENCY_STOP's origin shows the latch of its platform clear (R155). -/
def originLatchClear (b : Blocks) (r : Incident) : Bool :=
  match r.platform, (b.peers.entry r.id.origin).lastStatus with
  | some p, some s => decide ((b.peers.entry r.id.origin).liveness = .current) && !s.contents.latches.get p.track
  | _, _ => false

/-- Whether the plunger of a record's platform is pressed (R141). -/
def plungerActive (b : Blocks) (r : Incident) : Bool :=
  match r.platform with
  | some p => decide ((b.field.filters.plunger.get p.track).level = some true)
  | none => false

/-- What stands against an operator's CLOSE of a local record (R155). A NODE_LOST that this node raised, yielded and adopted back counts
as adopted: the model's choice (log entry 63). -/
def closeBar (e : Env) (b : Blocks) (r : Incident) : Option Status :=
  match r.kind with
  | .emergencyStop =>
    if r.id.origin = e.nodeNumber then
      if b.power.isLatched r.id && plungerActive b r then some .plungerActive else none
    else if originLatchClear b r then none
    else some .state
  | .nodeLost => if r.adoptedFrom.isNone then some .state else none
  | .sectionTrip => none
  | .breakerFail => none
  | .uncommandedClose => none
  | .trainStalled => none
  | .departedUnreleased => none
  | .delay => none
  | .descriptionError => none
  | .operator => none

/-- CLOSE (R155). -/
def closeIncident (e : Env) (b : Blocks) (id : IncidentId) : Blocks × Status :=
  match b.incidents.find id with
  | none => (b, .unknownId)
  | some r =>
    if !r.isLocal then (b, .state)
    else
      match closeBar e b r with
      | some st => (b, st)
      | none => (closeRecord e b r .operator, .ok)

/-- The node at the other end of a NODE_LOST's gap from its origin (R155). -/
def Incident.lostNode (r : Incident) : Nat := if r.id.origin = r.span.first then r.span.first + 1 else r.span.first

/-- The adopted NODE_LOST records whose node is CURRENT close (R155), one that this node raised, yielded and adopted back among them:
the model's choice (log entry 63). -/
def checkAdoptedLost (e : Env) (b : Blocks) : Blocks :=
  closeWhere e b
    (fun r => decide (r.kind = .nodeLost) && r.adoptedFrom.isSome && decide ((b.peers.entry r.lostNode).liveness = .current))
    .auto

/-! ### Copies and claims (R157 to R161) -/

/-- A claim: the owner and the owner it adopted from (R160). -/
structure Claim where
  owner : Nat
  adoptedFrom : Option Nat
deriving DecidableEq, Repr

def Incident.claim (r : Incident) : Claim := { owner := r.owner, adoptedFrom := r.adoptedFrom }
def IncidentContents.claim (c : IncidentContents) : Claim := { owner := c.owner, adoptedFrom := c.adoptedFrom }

/-- Whether claim `a` prevails over claim `h`, which is held: the first row of R160 that applies; where none does the held
claim stands (log entry 20). -/
def Claim.prevails (a h : Claim) (kind : IncidentKind) (origin : Nat) : Bool :=
  if kind = .emergencyStop ∧ a.owner = origin ∧ h.owner ≠ origin then true
  else if kind = .emergencyStop ∧ h.owner = origin ∧ a.owner ≠ origin then false
  else if a.adoptedFrom = some h.owner ∧ h.adoptedFrom ≠ some a.owner then true
  else if h.adoptedFrom = some a.owner ∧ a.adoptedFrom ≠ some h.owner then false
  else if a.adoptedFrom.isSome ∧ h.adoptedFrom.isNone then true
  else if h.adoptedFrom.isSome ∧ a.adoptedFrom.isNone then false
  else if a.adoptedFrom.isSome ∧ h.adoptedFrom.isSome then decide (a.owner < h.owner)
  else false

/-- The fields a copy takes from a frame (R158). -/
def Incident.take (r : Incident) (c : IncidentContents) : Incident :=
  { r with
    severity := c.severity, span := c.span, platform := c.platform, trip := c.trip, owner := c.owner
    adoptedFrom := c.adoptedFrom, acked := c.acked, isolationFailed := c.isolationFailed }

/-- A new copy of a frame's record (R157). -/
def IncidentContents.copy (c : IncidentContents) : Incident :=
  { id := c.id, kind := c.kind, severity := c.severity, span := c.span, platform := c.platform, trip := c.trip
    owner := c.owner, adoptedFrom := c.adoptedFrom, raised := c.raised, acked := c.acked
    isolationFailed := c.isolationFailed, holding := .copy { orphan := false, silence := 0 }, admission := 0 }

/-- Whether a span covers any section of gaps k−2 to k+1 within the line (R157). -/
def Env.interested (e : Env) (s : Span) : Bool :=
  decide (s.first ≤ min (e.nodeNumber + 1) (e.lineCount - 2)) && decide (e.nodeNumber - 2 ≤ s.last)

/-- A frame for an id not held (R157). The copy-stored report comes before what its entry makes known, the model's choice (log entry
55), and a copy that is refused is reported with admission number 0, since it has none (log entry 59). -/
def storeCopy (e : Env) (b : Blocks) (c : IncidentContents) : Blocks :=
  if c.owner = e.nodeNumber then b
  else if e.interested c.span ∨ c.id.origin = e.nodeNumber then
    match makeRoom e b c.severity false with
    | none => queueReport e b (.incident .copyRefused c.copy)
    | some b =>
      let b := reportIncident e (enterRecord b c.copy) .copyStored c.id
      tellEntry e b c.copy none
  else b

/-- A frame for an id held as a copy (R158). One report stands for all the changes that one frame brings: the model's reading (log entry
66). -/
def updateCopy (e : Env) (b : Blocks) (r : Incident) (p : CopyPart) (c : IncidentContents) : Blocks :=
  if c.owner = e.nodeNumber then b
  else if c.owner = r.owner ∨ c.claim.prevails r.claim r.kind r.id.origin then
    let new := { r.take c with holding := .copy { orphan := false, silence := 0 } }
    let b := b.modifyRecord r.id fun _ => new
    let b := if new.severity = r.severity ∧ new.span = r.span then b else tellChange e b r.severity new.severity
    if new.severity = r.severity ∧ new.span = r.span ∧ new.owner = r.owner ∧ ¬p.orphan then b
    else reportIncident e b .copyUpdated r.id
  else b

/-- A frame for an id held locally (R161). At a yield the report of the yielding stands for the changes too: the model's reading (log
entry 66). -/
def meetLocal (e : Env) (b : Blocks) (r : Incident) (c : IncidentContents) : Blocks :=
  if c.owner ≠ e.nodeNumber ∧ c.claim.prevails r.claim r.kind r.id.origin then
    if c.action = .close then removeCopy e b r.id
    else
      let new := { r.take c with holding := .copy { orphan := false, silence := 0 } }
      let b := b.modifyRecord r.id fun _ => new
      let b := if new.severity = r.severity ∧ new.span = r.span then b else tellChange e b r.severity new.severity
      reportIncident e b .yielded r.id
  else if c.action = .close then b
  else queueIncidentFrame e b r.id .refresh none

/-- An INCIDENT frame delivered to the Incident Table (R157 to R161). A CLOSE acts on an id not held locally whoever its owner field
names (R159); R157's last sentence would ignore one that names this node: the model's choice (log entry 30). -/
def takeIncident (e : Env) (b : Blocks) (c : IncidentContents) : Blocks :=
  match b.incidents.find c.id with
  | none => if c.action = .close then powerIdLeft e b c.id else storeCopy e b c
  | some r =>
    match r.holding with
    | .owned _ => meetLocal e b r c
    | .copy p => if c.action = .close then removeCopy e b r.id else updateCopy e b r p c

/-! ### Liveness, adoption and the counts (R155, R156, R159, R162) -/

/-- The copies of a peer that has become LOST become ORPHAN, each with its report (R159), in table order, which is the model's choice
(log entry 54). -/
def orphanCopies (e : Env) (b : Blocks) (peer : Nat) : Blocks :=
  let ids := (b.incidents.records.filter fun r =>
    match r.holding with
    | .copy p => decide (r.owner = peer) && !p.orphan
    | .owned _ => false).map (·.id)
  ids.foldl
    (fun b id =>
      reportIncident e
        (b.modifyRecord id fun r =>
          match r.holding with
          | .copy p => { r with holding := .copy { p with orphan := true } }
          | .owned _ => r) .orphaned id) b

/-- The ORPHAN copies of a peer that has become CURRENT count their silence from 0 (R159), from whatever liveness it came: that a
return from STALE counts too is the model's reading (log entry 53). -/
def restartOrphans (b : Blocks) (peer : Nat) : Blocks :=
  b.setRecords (b.incidents.records.map fun r =>
    match r.holding with
    | .copy p => if r.owner = peer ∧ p.orphan then { r with holding := .copy { p with silence := 0 } } else r
    | .owned _ => r)

/-- The Peer View makes a change of liveness known to the Incident Table (R56, R155, R159). -/
def toldLiveness (e : Env) (b : Blocks) (peer : Nat) (after : Liveness) : Blocks :=
  let b := match after with
    | .lost => orphanCopies e b peer
    | .current => restartOrphans b peer
    | .stale => b
    | .unheard => b
  checkAdoptedLost e b

/-- The severity floor of an adopted record (R162); an OPERATOR incident with ISOLATION_FAILED set has floor 4, the model's choice (log
entry 60). -/
def Incident.adoptedFloor (r : Incident) : Nat :=
  if r.isolationFailed then 4 else if r.kind = .operator then 1 else r.kind.raiseSeverity

/-- ADOPT (R162). -/
def adoptIncident (e : Env) (b : Blocks) (id : IncidentId) : Blocks × Status :=
  match b.incidents.find id with
  | none => (b, .unknownId)
  | some r =>
    match r.holding with
    | .owned _ => (b, .state)
    | .copy p =>
      if !p.orphan then (b, .state)
      else
        let b := b.modifyRecord id fun r =>
          { r with
            acked := none, owner := e.nodeNumber, adoptedFrom := some r.owner
            holding := .owned { acknowledged := false, floor := r.adoptedFloor, isolation := [], refresh := 0, age := 0 } }
        let b := reportIncident e (queueIncidentFrame e b id .adopt none) .adopted id
        (checkAdoptedLost e b, .ok)

/-- Whether a record's REFRESH is due (R156). -/
def refreshDue (e : Env) (r : Incident) : Bool :=
  e.configured && ((r.owned?.map fun o => decide (Config.refreshPeriod ≤ o.refresh)).getD false)

/-- REFRESH (R156). -/
def refreshStep (e : Env) (b : Blocks) (id : IncidentId) : Blocks :=
  match b.incidents.find id with
  | some r => if refreshDue e r then queueIncidentFrame e b id .refresh none else b
  | none => b

/-- Whether a local DESCRIPTION_ERROR has reached its age (R155). -/
def localAgeDue (r : Incident) : Bool :=
  decide (r.kind = .descriptionError) && ((r.owned?.map fun o => decide (Config.localAgeMax ≤ o.age)).getD false)

/-- The close by local age (R155). -/
def localAgeStep (e : Env) (b : Blocks) (id : IncidentId) : Blocks :=
  match b.incidents.find id with
  | some r => if localAgeDue r then closeRecord e b r .auto else b
  | none => b

/-- Whether a copy's silence has reached its limit (R159). -/
def copyDropDue (r : Incident) : Bool :=
  match r.holding with
  | .copy p => Config.silenceAgeMax ≤ p.silence
  | .owned _ => false

/-- The drop of a copy (R159). -/
def copyDropStep (e : Env) (b : Blocks) (id : IncidentId) : Blocks :=
  match b.incidents.find id with
  | some r => if copyDropDue r then queueReport e (removeCopy e b id) (.incident .dropped r) else b
  | none => b

end Sys2Proof.Machine
end

