-- ==== Sys2Proof/Machine/PowerEvents.lean ====
section
/-! DEFINITION. The Power Controller's events that raise or drive incidents: breaker movements, expiry, isolations, emergency
stops, the power frames and requests (chapter 7). -/

namespace Sys2Proof.Machine

/-! ### Isolations (R131, R132) -/

/-- One send of an ISOLATE frame for an item (R131, R132). -/
def sendIsolate (e : Env) (b : Blocks) (id : IncidentId) (sec : TractionSection) : Blocks :=
  setItem (queueFrame e b (.isolate sec id)) id sec fun i => { i with sends := i.sends + 1, repeats := 0 }

/-- A new item, or the section's item restarted, in the incident's list (R131). -/
def placeItem (l : List IsolationItem) (sec : TractionSection) : List IsolationItem :=
  if l.any fun i => decide (i.sec = sec) then
    l.map fun i => if i.sec = sec then { i with sends := 0, repeats := 0, state := .pending } else i
  else l ++ [{ sec := sec, sends := 0, repeats := 0, state := .pending }]

/-- Whether a restart changes the state of an item of a section (R130, event 4). -/
def restarts (l : List IsolationItem) (sec : TractionSection) : Bool :=
  l.any fun i => decide (i.sec = sec) && decide (i.state ≠ .pending)

/-- An isolation begins under a local incident (R131); in CONFIGURING its first send is deferred (R143). Where the addition to the lockout
set makes a FAILED breaker with input OPEN OPEN, and so confirms the new item, the first send is made all the same: the model's choice
(log entry 62). -/
def beginIsolation (e : Env) (b : Blocks) (id : IncidentId) (sec : TractionSection) : Blocks :=
  match b.incidents.find id with
  | some r =>
    let b := b.modifyRecord id fun r => r.setItems (placeItem r.items sec)
    let b := if restarts r.items sec then queueReport e b (.itemChange id sec .pending) else b
    let b := match e.ownBreaker sec with
      | some br => lockoutAdd e b br id false
      | none => b
    if e.configured then sendIsolate e b id sec else b
  | none => b

/-- An item becomes FAILED, with the escalation of its incident (R132, R153). The report of the item (R130, event 4) before those of the
escalation is the model's choice (log entry 55). -/
def failItem (e : Env) (b : Blocks) (id : IncidentId) (sec : TractionSection) : Blocks :=
  escalate e (queueReport e (setItem b id sec fun i => { i with state := .failed }) (.itemChange id sec .failed)) id

/-- An item of a record. -/
def Blocks.item (b : Blocks) (id : IncidentId) (sec : TractionSection) : Option IsolationItem :=
  (b.incidents.find id).bind fun r => r.items.find? fun i => decide (i.sec = sec)

/-- Whether an item stands at a repeat point (R132). -/
def repeatDue (i : IsolationItem) : Bool := decide (i.state = .pending) && decide (Config.isolationRepeat ≤ i.repeats)

/-- A repeat point (R132). -/
def repeatStep (e : Env) (b : Blocks) (id : IncidentId) (sec : TractionSection) : Blocks :=
  match b.item id sec with
  | some i =>
    if repeatDue i then
      let b := setItem b id sec fun i => { i with repeats := 0 }
      if bothOpen e b sec then confirmItem e b id sec
      else if i.sends < Config.isolationSends then sendIsolate e b id sec
      else failItem e b id sec
    else b
  | none => b

/-! ### Breaker movements (R120 to R124) -/

/-- The raise of an incident of one section, with no platform and no trip. -/
def sectionRaise (kind : IncidentKind) (sec : TractionSection) : Raise :=
  { kind := kind, severity := kind.raiseSeverity, span := .one sec, platform := none, trip := none }

/-- A protection trip (R123). -/
def protectionTrip (e : Env) (b : Blocks) (br : Breaker) : Blocks :=
  let b := setCondition e b br .opened (some .trip)
  match raiseIncident e b (sectionRaise .sectionTrip (e.fed br)) none with
  | (b, some id) => beginIsolation e (lockoutAdd e b br id false) id (e.fed br)
  | (b, none) => b

/-- An uncommanded close (R124). -/
def uncommandedClose (e : Env) (b : Blocks) (br : Breaker) : Blocks :=
  let b := setCondition e b br .closed (some .uncommandedClose)
  openIfLocked e (raiseIncident e b (sectionRaise .uncommandedClose (e.fed br)) none).1 br

/-- An accepted change of a breaker's status input (R120, R122 to R124). -/
def breakerChange (e : Env) (b : Blocks) (br : Breaker) (isClosed : Bool) : Blocks :=
  let before := b.condition br
  let b := modifyBreaker b br fun r => { r with inputClosed := some isClosed }
  match before with
  | some (.closing _) => if isClosed then setCondition e b br .closed (some .arrival) else b
  | some (.opening c) =>
    if !isClosed then setCondition e b br .opened (some .arrival)
    else if c.overtook then modifyBreaker b br fun r => { r with condition := some (.opening { c with passing := true }) }
    else b
  | some .closed => if isClosed then b else protectionTrip e b br
  | some .opened => if isClosed then uncommandedClose e b br else b
  | some .failed => followInput e b br
  | none => b

/-- Whether a command in flight has reached its time limit (R121). -/
def limitDue (r : BreakerRecord) : Bool :=
  match r.condition with
  | some (.opening c) => decide (c.limit ≤ c.count)
  | some (.closing c) => decide (c.limit ≤ c.count)
  | _ => false

/-- The time limit's expiry (R121). -/
def limitStep (e : Env) (b : Blocks) (br : Breaker) : Blocks :=
  match b.power.breakers.get br with
  | some r =>
    if limitDue r then
      let b := modifyBreaker b br fun r => { r with condition := some .failed }
      let raised := raiseIncident e b (sectionRaise .breakerFail (e.fed br)) none
      let b := modifyBreaker raised.1 br fun r => { r with failId := raised.2 }
      endWait e (setCondition e b br .failed (some .expiry)) br .abandoned
    else b
  | none => b

/-! ### Emergency stop and the local key (R139, R140, R142) -/

/-- The raise of an emergency stop: the gaps of the platform's adjacent sections (R139). -/
def estopRaise (e : Env) (t : Track) : Raise :=
  { kind := .emergencyStop, severity := 4
    span :=
      { tracks := .one t
        first := if 1 ≤ e.nodeNumber then e.nodeNumber - 1 else e.nodeNumber
        last := if e.nodeNumber + 2 ≤ e.lineCount then e.nodeNumber else e.nodeNumber - 1 }
    platform := some (e.platformRef t), trip := none }

/-- A press at a CLEAR latch (R139). Within step 3 the low-end breaker comes first and within step 4 the lower gap: the orders are the
model's choice (log entry 54). -/
def emergencyStop (e : Env) (b : Blocks) (t : Track) : Blocks :=
  let b := b.setLatch t { isSet := true, id := none, ignored := 0 }
  let raised := raiseIncident e b (estopRaise e t) none
  let b := raised.1.setLatch t { isSet := true, id := raised.2, ignored := 0 }
  let b := match raised.2 with
    | some id =>
      let b := [t.lowBreaker, t.highBreaker].foldl (fun b br => lockoutAdd e b br id true) b
      (e.adjacent t).foldl (fun b sec => beginIsolation e b id sec) b
    | none => b
  let b := toldLatch e b t
  queueReport e (queueReport e b (.plungerPressed t 0)) (.latchSet t raised.2)

/-- An accepted press (R139, R140). -/
def plungerPress (e : Env) (b : Blocks) (t : Track) : Blocks :=
  let l := b.power.latches.get t
  if l.isSet then
    let n := countUp 255 l.ignored
    queueReport e (b.setLatch t { l with ignored := n }) (.plungerPressed t n)
  else emergencyStop e b t

/-- An accepted release (R140). -/
def plungerRelease (e : Env) (b : Blocks) (t : Track) : Blocks := queueReport e b (.plungerReleased t)

/-- The LOCAL key's level delivered (R142). -/
def keyLevel (e : Env) (b : Blocks) (isSet : Bool) : Blocks :=
  if b.power.keyLocal = isSet then b
  else queueReport e (b.setPower { b.power with keyLocal := isSet }) (.keyChange isSet)

/-! ### Frames (R132, R133, R136 to R138, R143) -/

/-- An ISOLATE frame (R133). -/
def takeIsolate (e : Env) (b : Blocks) (sec : TractionSection) (id : IncidentId) : Blocks :=
  match e.ownBreaker sec with
  | some br =>
    if b.power.keyLocal then queuePowerFrame e b br (some .keyLocal)
    else queuePowerFrame e (lockoutAdd e b br id false) br none
  | none => b

/-- A RESTORE frame (R136, R137, R143). -/
def takeRestore (e : Env) (b : Blocks) (sec : TractionSection) (requester : Nat) (id : Option IncidentId) : Blocks :=
  if e.configured then
    match e.ownBreaker sec with
    | some br => meetRestore e b br false requester id
    | none => b
  else b

/-- A POWER frame read for isolation progress and restore waits (R132, R138). Items fail, then items are confirmed, then a wait ends:
the order is the model's choice (log entry 55), and so is the table's order among items (log entry 54). -/
def takePower (e : Env) (b : Blocks) (source : Nat) (c : PowerContents) : Blocks :=
  let sec := c.breaker.fed source
  let b :=
    if c.reason = some RefusalReason.keyLocal.code then
      (pendingItems b fun s => decide (s = sec)).foldl (fun b x => failItem e b x.1 x.2) b
    else b
  let b := confirmItems e b fun _ => true
  match e.ownBreaker sec with
  | some br => if br.atHighEnd ∧ c.reason.isSome then endWait e b br .restoreIncomplete else b
  | none => b

/-! ### Requests (R131, R134) -/

/-- A station-port ISOLATE (R131); where several refusals apply, the first that R131 names answers: the model's choice (log entry 56). -/
def isolateRequest (e : Env) (b : Blocks) (sec : Option TractionSection) (id : IncidentId) : Blocks × Status :=
  match sec.filter e.sectionInLine with
  | none => (b, .range)
  | some sec =>
    match (b.incidents.find id).filter Incident.isLocal with
    | none => (b, .unknownId)
    | some r =>
      if 2 ≤ r.items.length ∧ ¬r.items.any fun i => decide (i.sec = sec) then (b, .full)
      else (beginIsolation e b id sec, .ok)

/-- An id a RESTORE may carry: its origin within the line and a serial of 1 to 255 (R2, R30; log entry 39). -/
def Env.idInLine (e : Env) (id : IncidentId) : Bool := decide (id.origin < e.lineCount) && decide (1 ≤ id.serial)

/-- A station-port RESTORE (R134); where several refusals apply, the first that R134 names answers: the model's choice (log entry 56). -/
def restoreRequest (e : Env) (b : Blocks) (sec : Option TractionSection) (id : Option IncidentId) (force : Bool) :
    Blocks × Status :=
  match sec.filter e.sectionInLine with
  | none => (b, .range)
  | some sec =>
    if !(id.map e.idInLine).getD true then (b, .range)
    else
      match e.ownBreaker sec with
      | none => if force then (b, .state) else (queueFrame e b (.restore sec e.nodeNumber id), .ok)
      | some br =>
        match b.condition br with
        | some (.opening _) => (b, .busy)
        | _ =>
          let b := if force then forceLockout e b br else b
          let b := meetRestore e b br true e.nodeNumber id
          (queueFrame e b (.restore sec e.nodeNumber id), .ok)

end Sys2Proof.Machine
end

