-- ==== Sys2Proof/Machine/Peers.lean ====
section
/-! DEFINITION. The Peer View: hearing, liveness, breaker reports, the recent-starts table and NODE_LOST (chapter 4). -/

namespace Sys2Proof.Machine

/-- One entry of the peer table changed. -/
def modifyPeer (b : Blocks) (n : Nat) (f : PeerEntry → PeerEntry) : Blocks :=
  b.setPeers { b.peers with table := modifyAt b.peers.table n f }

/-! ### Recent starts (R58 to R60) -/

/-- An entry that counts as absent or is earlier takes the start; its age is counted from the departure (R59). -/
def takesStart (s : StartEntry) (d : Nat) : Bool :=
  decide (Config.startAgeMax < s.age) || (s.start.map fun held => decide (held < d)).getD true

/-- The entry after the offer of a start at `d`, with service time `now` (R59). -/
def StartEntry.offer (now d : Nat) (s : StartEntry) : StartEntry :=
  if takesStart s d then
    { start := some d, age := min (now - d) (Config.startAgeMax + 1), lapsed := decide (Config.startAgeMax < now - d) }
  else s

/-- A start offered to both feeding substations; the regulators are told once when either entry took it (R59, R60). -/
def offerStart (e : Env) (b : Blocks) (sec : TractionSection) (d : Nat) : Blocks :=
  let old := b.peers.starts
  let new := modifyAt (modifyAt old sec.gap (StartEntry.offer e.now d)) (sec.gap + 1) (StartEntry.offer e.now d)
  if new = old then b else toldStarts e (b.setPeers { b.peers with starts := new })

/-- Whether an entry's lapse has not been made known (R58). -/
def lapseDue (s : StartEntry) : Bool := s.start.isSome && decide (Config.startAgeMax < s.age) && !s.lapsed

/-- A lapse is made known (R58, R60). -/
def lapseStep (e : Env) (b : Blocks) (node : Nat) : Blocks :=
  match b.peers.starts[node]? with
  | some s =>
    if lapseDue s then
      toldStarts e (b.setPeers { b.peers with starts := modifyAt b.peers.starts node fun s => { s with lapsed := true } })
    else b
  | none => b

/-- Every entry becomes absent, and the regulators are told (R58, R60). -/
def emptyStarts (e : Env) (b : Blocks) : Blocks :=
  toldStarts e (b.setPeers { b.peers with starts := b.peers.starts.map fun _ => .absent })

/-! ### NODE_LOST (R61, R62) -/

/-- The NODE_LOST id held for a neighbour. -/
def PeerView.lostId (p : PeerView) (e : Env) (peer : Nat) : Option IncidentId :=
  if peer < e.nodeNumber then p.lostLow else p.lostHigh

def PeerView.setLostId (p : PeerView) (e : Env) (peer : Nat) (id : Option IncidentId) : PeerView :=
  if peer < e.nodeNumber then { p with lostLow := id } else { p with lostHigh := id }

/-- NODE_LOST raised for a lost neighbour (R61). -/
def raiseLost (e : Env) (b : Blocks) (peer : Nat) : Blocks :=
  if e.configured && e.isNeighbour peer && (b.peers.lostId e peer).isNone then
    let gap := e.gapTo peer
    let raised := raiseIncident e b
      { kind := .nodeLost, severity := 2, span := { tracks := .both, first := gap, last := gap }, platform := none, trip := none }
      none
    raised.1.setPeers (raised.1.peers.setLostId e peer raised.2)
  else b

/-- The NODE_LOST held for a neighbour is closed, when it is still its own, and no id is held any more (R62). -/
def closeLost (e : Env) (b : Blocks) (peer : Nat) : Blocks :=
  if e.isNeighbour peer then
    let b' := match (b.peers.lostId e peer).bind fun i => b.incidents.findOwned i .nodeLost with
      | some r => if r.span.first ≤ e.gapTo peer ∧ e.gapTo peer ≤ r.span.last then closeRecord e b r .auto else b
      | none => b
    b'.setPeers (b'.peers.setLostId e peer none)
  else b

/-! ### Liveness (R51, R52, R56) -/

/-- A change of liveness made known: the NODE report, the Incident Table, and for a lost neighbour the Power Controller (R56). That the
three come one after the other as R56 numbers them is the model's reading (log entry 41). -/
def tellLiveness (e : Env) (b : Blocks) (peer : Nat) (before after : Liveness) : Blocks :=
  let b := toldLiveness e (queueReport e b (.peerLiveness peer before after)) peer after
  if after = .lost ∧ e.isNeighbour peer then toldLost e b peer else b

/-- A source is heard (R51). The change of liveness is made known before the NODE_LOST held is closed: the model's reading (log entry
41). -/
def hear (e : Env) (b : Blocks) (source : Nat) : Blocks :=
  let before := (b.peers.entry source).liveness
  let b := modifyPeer b source fun p => { p with liveness := .current, silence := 0, lastHeard := some e.now }
  if before = .current then b
  else
    let b := tellLiveness e b source before .current
    if before = .lost then closeLost e b source else b

/-- What is done to a peer's entry, and then the Power Controller told of each far-end report it changed (R55, R137). Where it changes
several, they are told UL, UH, DL, DH: the order is the model's choice (log entry 54). -/
def withFarEnds (e : Env) (b : Blocks) (f : Blocks → Blocks) : Blocks :=
  let after := f b
  let changed := allBreakers.filter fun br => e.present br && decide (farReport e b br ≠ farReport e after br)
  changed.foldl (fun b br => toldFarEnd e b br) after

/-- CURRENT becomes STALE (R52). -/
def staleStep (e : Env) (b : Blocks) (node : Nat) : Blocks :=
  let p := b.peers.entry node
  if p.liveness = .current ∧ Config.staleAt ≤ p.silence then
    tellLiveness e (modifyPeer b node fun p => { p with liveness := .stale }) node .current .stale
  else b

/-- STALE becomes LOST: the reports go, the change is made known, a neighbour's NODE_LOST is raised, and the far ends are told
(R52, R55, R61). The rules give these consequences and not their whole order, which is the model's reading (log entry 41). -/
def lostStep (e : Env) (b : Blocks) (node : Nat) : Blocks :=
  let p := b.peers.entry node
  if p.liveness = .stale ∧ Config.lostAt ≤ p.silence then
    withFarEnds e b fun b =>
      let b := modifyPeer b node fun p => { p with liveness := .lost, reports := ⟨none, none, none, none⟩ }
      raiseLost e (tellLiveness e b node .stale .lost) node
  else b

/-- A frame's source is heard. A silence count that an advance has brought to its limit comes first, with all its effects
(R51, R52). -/
def hearFrom (e : Env) (b : Blocks) (source : Nat) : Blocks := hear e (lostStep e (staleStep e b source) source) source

/-! ### What frames bring (R53, R54, R59) -/

/-- A breaker report after a STATUS frame (R53). -/
def statusReport (old : Option BreakerReport) (now : ReportedBreaker) (keyLocal : Bool) : Option BreakerReport :=
  match now with
  | .known st =>
    match old with
    | some r => some { r with state := st, keyLocal := keyLocal, byPower := false }
    | none => some { state := st, keyLocal := keyLocal, lockout := none, reason := none, byPower := false }
  | .unknown => none
  | .absent => none

/-- The four reports after a STATUS frame (R53). -/
def statusReports (old : PerBreaker (Option BreakerReport)) (c : StatusContents) : PerBreaker (Option BreakerReport) :=
  { ul := statusReport old.ul c.breakers.ul c.keyLocal, uh := statusReport old.uh c.breakers.uh c.keyLocal
    dl := statusReport old.dl c.breakers.dl c.keyLocal, dh := statusReport old.dh c.breakers.dh c.keyLocal }

/-- The starts a STATUS frame offers (R59). -/
def statusStart (e : Env) (source : Nat) (c : StatusContents) (b : Blocks) (t : Track) : Blocks :=
  match c.departures.get t, sectionAheadAt e.lineCount source t with
  | some d, some sec => offerStart e b sec d.dact
  | _, _ => b

/-- A STATUS frame at the Peer View (R53, R59). Of its two starts the UP platform's is offered before the DOWN one's, so where both are
over 600 ds old the shared entry keeps the DOWN one: the order is the model's choice (log entry 54). -/
def peerStatus (e : Env) (b : Blocks) (source : Nat) (c : StatusContents) : Blocks :=
  withFarEnds e b fun b =>
    let b := modifyPeer b source fun p =>
      { p with lastStatus := some { contents := c, takenAt := e.now }, reports := statusReports p.reports c }
    allTracks.foldl (statusStart e source c) b

/-- A POWER frame at the Peer View (R54). -/
def peerPower (e : Env) (b : Blocks) (source : Nat) (c : PowerContents) : Blocks :=
  withFarEnds e b fun b =>
    modifyPeer b source fun p =>
      { p with
        reports := p.reports.set c.breaker (some
          { state := c.state, keyLocal := c.keyLocal, lockout := some { count := c.lockoutCount, overlock := c.overlock }
            reason := c.reason, byPower := true }) }

/-- A DEPART frame at the Peer View (R59). -/
def peerDepart (e : Env) (b : Blocks) (c : DepartContents) : Blocks :=
  match c.entered with
  | some sec => offerStart e b sec c.dact
  | none => b

/-! ### CONFIGURE and SERVICE RESET (R57, R62) -/

/-- Entries of nodes outside the line return to their reset values (R57). -/
def trimPeers (b : Blocks) (n : Nat) : Blocks :=
  b.setPeers
    { b.peers with
      table := b.peers.table.take n ++ List.replicate (b.peers.table.length - n) .unheard
      starts := b.peers.starts.take n ++ List.replicate (b.peers.starts.length - n) .absent }

/-- NODE_LOST for every neighbour that stands LOST, the lower neighbour first, which is the model's choice (R57, R62; log
entry 47). -/
def raiseStandingLost (e : Env) (b : Blocks) : Blocks :=
  e.neighbours.foldl (fun b p => if (b.peers.entry p).liveness = .lost then raiseLost e b p else b) b

end Sys2Proof.Machine
end

