-- ==== Sys2Proof/Machine/Timetables.lean ====
section
/-! DEFINITION. The Timetable Store: loading, amendments, the match, and the final state of an entry (chapter 5). -/

namespace Sys2Proof.Machine

/-! ### Loading (R65 to R68) -/

/-- The checks of R67, step 1; a good entry is given back as it will stand, PENDING, with its platform. -/
def EntryRequest.entry (x : EntryRequest) : Option (Track × Entry) :=
  match Track.ofCode x.platform with
  | some t =>
    keep (decide (1 ≤ x.trip ∧ x.trip ≤ 9999) && ((x.arrival.map fun a => decide (a ≤ Config.serviceTimeMax ∧ a ≤ x.departure)).getD true)
        && decide (x.departure ≤ Config.serviceTimeMax) && decide (x.phrase ≤ 4095) && !(x.terminates && x.isFirst))
      (t, { trip := x.trip, arrival := x.arrival, departure := x.departure, phrase := x.phrase, terminates := x.terminates
            isFirst := x.isFirst, state := .pending })
  | none => none

/-- Whether a trip stands in a sequence (R63). -/
def holdsTrip (l : List Entry) (trip : Nat) : Bool := l.any fun x => decide (x.trip = trip)

/-- One entry against the store with the entries that passed before it (R67). -/
def checkEntry (s : PerTrack (List Entry)) (x : EntryRequest) : Except Status (PerTrack (List Entry)) :=
  match x.entry with
  | none => .error .range
  | some (t, new) =>
    if ((s.get t).getLast?.map fun last => decide (new.departure < last.departure)).getD false then .error .order
    else if holdsTrip (s.get t) new.trip then .error .duplicate
    else .ok (s.set t (s.get t ++ [new]))

/-- The entries of a part, one at a time; a failure names its status and its position, counted from `at_` (R67). -/
def checkEntries (s : PerTrack (List Entry)) (at_ : Nat) : List EntryRequest → Except (Status × Nat) (PerTrack (List Entry))
  | [] => .ok s
  | x :: rest =>
    match checkEntry s x with
    | .ok s => checkEntries s (at_ + 1) rest
    | .error st => .error (st, at_)

/-- The store emptied, in a load state. -/
def emptyTimetable (b : Blocks) (load : LoadState) : Blocks :=
  b.setTimetable { sequences := ⟨[], []⟩, load := load, lastPart := none }

/-- A part of a load of `total` parts whose index has been accepted (R66 to R68). -/
def storePart (b : Blocks) (start : PerTrack (List Entry)) (p : PartRequest) : Blocks × Status × List Byte :=
  match checkEntries start 1 p.entries with
  | .ok s =>
    (b.setTimetable
      { sequences := s, load := if p.index = p.total then .loaded else .loading p.total (p.index + 1)
        lastPart := some p.index }, .ok, [])
  | .error (st, at_) => (emptyTimetable b .failed, st, chars1 at_)

/-- TIMETABLE PART in READY (R65), with R65's step 1 whole; the status and, where an entry failed, its position. A frame of another
entry count never comes here: its shape is refused before the owner is handed it (R211 steps 2 to 4; log entry 49). -/
def takePart (b : Blocks) (p : PartRequest) : Blocks × Status × List Byte :=
  if p.total < 1 ∨ 192 < p.total ∨ p.entries.length < 1 ∨ 8 < p.entries.length then (emptyTimetable b .failed, .range, [])
  else if p.index = 1 then storePart b ⟨[], []⟩ p
  else
    match b.timetable.load with
    | .loading total next =>
      if p.total = total ∧ p.index = next then storePart b b.timetable.sequences p
      else (emptyTimetable b .failed, .sequence, [])
    | .empty => (emptyTimetable b .failed, .sequence, [])
    | .loaded => (emptyTimetable b .failed, .sequence, [])
    | .failed => (emptyTimetable b .failed, .sequence, [])

/-! ### Amendments (R69 to R73) -/

/-- The checks of R69, steps 1 and 2. -/
def amendCheck (b : Blocks) (platform trip : Nat) (times : List Nat) : Except Status Track :=
  match b.timetable.load with
  | .loaded =>
    match Track.ofCode platform with
    | some t =>
      if 1 ≤ trip ∧ trip ≤ 9999 ∧ times.all fun x => decide (x ≤ Config.serviceTimeMax) then .ok t else .error .range
    | none => .error .range
  | .empty => .error .noTimetable
  | .loading _ _ => .error .noTimetable
  | .failed => .error .noTimetable

/-- The place of a trip in a sequence. -/
def tripIndex (l : List Entry) (trip : Nat) : Option Nat := indexOf l fun x => decide (x.trip = trip)

/-- The conditions of R70 for a new departure of the entry at a place. Where a neighbour condition and the arrival condition both
fail, ORDER answers: the model's choice (log entry 48). -/
def changeRefusal (l : List Entry) (i departure : Nat) : Option Status :=
  let before := if i = 0 then none else l[i - 1]?
  if (before.map fun x => decide (departure < x.departure)).getD false then some .order
  else if ((l[i + 1]?).map fun x => decide (x.departure < departure)).getD false then some .order
  else if ((l[i]?.bind (·.arrival)).map fun a => decide (departure < a)).getD false then some .range
  else none

/-- A platform's pending amendment, held in place of the one before (R73). -/
def holdAmendment (b : Blocks) (t : Track) (a : Amendment) : Blocks :=
  b.setPlatform t { b.platforms.get t with amendment := some a }

/-- AMEND CHANGE (R69, R70, R73). -/
def amendChange (b : Blocks) (platform trip departure : Nat) : Blocks × Status :=
  match amendCheck b platform trip [departure] with
  | .error st => (b, st)
  | .ok t =>
    let l := b.timetable.sequences.get t
    match tripIndex l trip with
    | none => (b, .unknownId)
    | some i =>
      match l[i]?.map Entry.state with
      | some .pending =>
        match changeRefusal l i departure with
        | some st => (b, st)
        | none => (b.setSequence t (modifyAt l i fun x => { x with departure := departure }), .ok)
      | some .inUse =>
        match changeRefusal l i departure with
        | some st => (b, st)
        | none => (holdAmendment b t (.change departure), .ok)
      | some .consumed => (b, .consumed)
      | some .cancelled => (b, .consumed)
      | none => (b, .unknownId)

/-- AMEND CANCEL (R69, R71, R73). -/
def amendCancel (b : Blocks) (platform trip : Nat) : Blocks × Status :=
  match amendCheck b platform trip [] with
  | .error st => (b, st)
  | .ok t =>
    let l := b.timetable.sequences.get t
    match tripIndex l trip with
    | none => (b, .unknownId)
    | some i =>
      match l[i]?.map Entry.state with
      | some .pending => (b.setSequence t (modifyAt l i fun x => { x with state := .cancelled }), .ok)
      | some .inUse => (holdAmendment b t .cancel, .ok)
      | some .consumed => (b, .consumed)
      | some .cancelled => (b, .consumed)
      | none => (b, .unknownId)

/-- An entry placed behind every entry whose departure is not above its own (R72). -/
def insertEntry (new : Entry) : List Entry → List Entry
  | [] => [new]
  | x :: rest => if new.departure < x.departure then new :: x :: rest else x :: insertEntry new rest

/-- AMEND INSERT (R69, R72). -/
def amendInsert (b : Blocks) (x : EntryRequest) : Blocks × Status :=
  match amendCheck b x.platform x.trip (x.departure :: x.arrival.toList) with
  | .error st => (b, st)
  | .ok t =>
    match x.entry with
    | none => (b, .range)
    | some (_, new) =>
      let l := b.timetable.sequences.get t
      if holdsTrip l new.trip then (b, .duplicate)
      else if l.any fun y => (decide (y.state = .inUse) || decide (y.state = .consumed)) && decide (new.departure < y.departure) then
        (b, .order)
      else if Config.timetableMax ≤ b.timetable.total then (b, .full)
      else (b.setSequence t (insertEntry new l), .ok)

/-! ### The match and the final state (R74, R83, R84) -/

/-- The look-ahead: the first 8 PENDING entries (R83). -/
def lookAhead (l : List Entry) : List Entry := (l.filter fun x => decide (x.state = .pending)).take Config.lookAhead

/-- A found trip: the entries before it in the look-ahead are CANCELLED and it is IN_USE; with the count cancelled (R83). -/
def useTrip (l : List Entry) (trip : Nat) : List Entry × Nat :=
  let skipped := ((lookAhead l).takeWhile fun x => decide (x.trip ≠ trip)).map (·.trip)
  (l.map fun x =>
    if x.state = .pending then
      if x.trip = trip then { x with state := .inUse }
      else if x.trip ∈ skipped then { x with state := .cancelled }
      else x
    else x, skipped.length)

/-- The entry that works a trip, if it stands in the look-ahead (R83). -/
def findAhead (l : List Entry) (trip : Nat) : Option Entry := (lookAhead l).find? fun x => decide (x.trip = trip)

/-- The departure of the entry standing immediately before a trip's entry (R63). -/
def departureBefore (l : List Entry) (trip : Nat) : Option Nat :=
  match tripIndex l trip with
  | some (i + 1) => (l[i]?).map (·.departure)
  | some 0 => none
  | none => none

/-- The departing train's entry comes to its final state and the pending amendment is applied or dropped (R74). -/
def finishEntry (e : Env) (b : Blocks) (t : Track) (trip : Nat) : Blocks :=
  let l := b.timetable.sequences.get t
  let p := b.platforms.get t
  let b := b.setPlatform t { p with amendment := none }
  match tripIndex l trip with
  | none => b
  | some i =>
    match p.amendment with
    | none => b.setSequence t (modifyAt l i fun x => { x with state := .consumed })
    | some .cancel => b.setSequence t (modifyAt l i fun x => { x with state := .cancelled })
    | some (.change departure) =>
      match changeRefusal l i departure with
      | none => b.setSequence t (modifyAt l i fun x => { x with state := .consumed, departure := departure })
      | some _ =>
        queueReport e (b.setSequence t (modifyAt l i fun x => { x with state := .consumed })) (.amendmentDropped t trip departure)

end Sys2Proof.Machine
end

