-- ==== Sys2Proof/Machine/Trains.lean ====
section
/-! DEFINITION. The Train Describer, and the arrivals and departures of the Platform Regulators (chapters 5 and 6). -/

namespace Sys2Proof.Machine

/-! ### The approaching queues (R75 to R82) -/

/-- The raise of an incident that names a platform of this node and a section of its track. -/
def Env.platformRaise (e : Env) (kind : IncidentKind) (t : Track) (sec : TractionSection) (trip : Nat) : Raise :=
  { kind := kind, severity := kind.raiseSeverity, span := .one sec, platform := some (e.platformRef t), trip := tripField trip }

/-- Whether the head of a queue is overdue and not marked (R80). -/
def overdueDue (e : Env) (b : Blocks) (t : Track) : Bool :=
  e.configured && (e.sectionBehind t).isSome
    && (((b.describer.get t).head?).map fun a => !a.stallRaised && e.reached (overdueInstant e t a)).getD false

/-- The stall check (R80). -/
def stallCheck (e : Env) (b : Blocks) (t : Track) : Blocks :=
  match b.describer.get t, e.sectionBehind t with
  | a :: rest, some sec =>
    if overdueDue e b t then
      let raised := raiseIncident e b (e.platformRaise .trainStalled t sec a.trip) none
      raised.1.setApproach t ({ a with stallRaised := true, stallId := raised.2 } :: rest)
    else b
  | _, _ => b

/-- An entry takes its place by U (R76). -/
def insertApproach (a : Approach) : List Approach → List Approach
  | [] => [a]
  | x :: rest => if a.upstream < x.upstream then a :: x :: rest else x :: insertApproach a rest

/-- The destination phrase of a trip's PENDING entry (R79). -/
def phraseOf (l : List Entry) (trip : Nat) : Option Nat :=
  (l.find? fun x => decide (x.trip = trip) && decide (x.state = .pending)).map (·.phrase)

/-- An entry is added to a queue (R76, R79). -/
def addApproach (e : Env) (b : Blocks) (t : Track) (trip upstream : Nat) (source : ApproachSource) : Blocks :=
  let q := b.describer.get t
  let new : Approach := { trip := trip, upstream := upstream, source := source, stallRaised := false, stallId := none }
  let q' := insertApproach new q
  let b := queueReport e (b.setApproach t q') (.queueAddition t trip upstream source q'.length)
  let b := toldAddition e b t q.isEmpty
  let b := if e.inService then offerApproach e b t upstream (phraseOf (b.timetable.sequences.get t) trip) else b
  if q'.head? = some new then stallCheck e b t else b

/-- Whether a trip stands in a queue. -/
def queueHolds (q : List Approach) (trip : Nat) : Bool := q.any fun a => decide (a.trip = trip)

/-- DESCRIPTION_ERROR, unless a local one names the platform (R77, R84). -/
def describeError (e : Env) (b : Blocks) (t : Track) (trip : Nat) : Blocks :=
  if b.incidents.describedInError (e.platformRef t) then b
  else (raiseIncident e b (e.platformRaise .descriptionError t (e.behindOrAhead t) trip) none).1

/-- A DEPART frame at the Train Describer (R76, R77). An offer that is both a duplicate and one too many is reported as a duplicate:
the model's choice (log entry 50). -/
def takeDepart (e : Env) (b : Blocks) (source : Nat) (c : DepartContents) : Blocks :=
  if e.configured ∧ e.upstream c.track = some source ∧ ¬c.terminates then
    let q := b.describer.get c.track
    let duplicate := queueHolds q c.trip
    if duplicate ∨ Config.approachMax ≤ q.length then
      queueReport e (describeError e b c.track c.trip) (.offerRefused c.track duplicate c.trip c.dact)
    else addApproach e b c.track c.trip c.dact .heard
  else b

/-- INJECT (R78). Where several of its refusals apply, RANGE answers before DUPLICATE and DUPLICATE before FULL: the order is the
model's choice (log entry 56). -/
def injectTrain (e : Env) (b : Blocks) (platform trip : Nat) (upstream : Option Nat) : Blocks × Status :=
  match Track.ofCode platform with
  | none => (b, .range)
  | some t =>
    let u := upstream.getD e.now
    if trip < 1 ∨ 9999 < trip ∨ e.now < u then (b, .range)
    else if queueHolds (b.describer.get t) trip then (b, .duplicate)
    else if Config.approachMax ≤ (b.describer.get t).length then (b, .full)
    else (addApproach e b t trip u .injected, .ok)

/-- FLUSH (R81, R82); a trip outside its range is answered RANGE before it is sought (log entry 56). -/
def flushTrain (e : Env) (b : Blocks) (platform trip : Nat) : Blocks × Status :=
  match Track.ofCode platform with
  | none => (b, .range)
  | some t =>
    if 9999 < trip then (b, .range)
    else
      let q := b.describer.get t
      match q.find? fun a => decide (a.trip = trip) with
      | none => (b, .unknownId)
      | some a =>
        let b := b.setApproach t (q.filter fun a => decide (a.trip ≠ trip))
        let b := queueReport e (closeOwned e b a.stallId .trainStalled) (.flushed t trip)
        (if (q.head?.map (·.trip)) = some trip then stallCheck e b t else b, .ok)

/-- The head is removed at an arrival: its stall incident closes and the new head is checked (R80, R81, R83, R85). -/
def takeHead (e : Env) (b : Blocks) (t : Track) (a : Approach) (rest : List Approach) : Blocks :=
  stallCheck e (closeOwned e (b.setApproach t rest) a.stallId .trainStalled) t

/-! ### Arrival (R83 to R85, R90, R91, R96) -/

/-- What the match hands the regulator (R83, R84). -/
structure Match where
  trip : Nat
  entry : Option Entry
  outcome : MatchOutcome
  skipped : Nat
deriving DecidableEq, Repr

/-- The match of an arrival in SERVICE (R83, R84). -/
def matchArrival (e : Env) (b : Blocks) (t : Track) : Blocks × Match :=
  match b.describer.get t with
  | a :: rest =>
    let b := takeHead e b t a rest
    let l := b.timetable.sequences.get t
    match findAhead l a.trip with
    | some x =>
      (b.setSequence t (useTrip l a.trip).1, { trip := a.trip, entry := some x, outcome := .identified, skipped := (useTrip l a.trip).2 })
    | none => (b, { trip := a.trip, entry := none, outcome := .identified, skipped := 0 })
  | [] =>
    let l := b.timetable.sequences.get t
    let taken : Option Entry := cursor l
    let trip := (taken.map Entry.trip).getD 0
    let b := match taken with
      | some x => b.setSequence t (useTrip l x.trip).1
      | none => b
    let expected := (e.upstream t).isNone || (taken.map Entry.isFirst).getD false
    let b := if expected then b else describeError e b t trip
    (b, { trip := trip, entry := taken, outcome := .unidentified, skipped := 0 })

/-- The report of an arrival (R96). -/
def arrivalReport (t : Track) (d : Dwell) (gain : Option Nat) : ReportBody :=
  .arrival
    { track := t, trip := d.trip, arrival := d.arrival, outcome := d.outcome, skipped := d.skipped, entry := d.entry
      scheduled := d.scheduled, target := d.target, deviation := d.deviation, gain := gain }

/-- A dwell as both arrivals begin it (R90, R91). -/
def Dwell.begun (mode : DwellMode) (trip stamp : Nat) : Dwell :=
  { mode := mode, trip := trip, entry := none, outcome := none, skipped := 0, arrival := stamp, scheduled := none
    target := none, deviation := none, targetOver := false, reasons := .empty, staggerOpen := decide (mode = .regulated)
    staggerTime := none, followerAvailable := false, grace := none, heldLong := false, headway := 0 }

/-- An arrival in SERVICE (R90). -/
def regulatedArrival (e : Env) (b : Blocks) (t : Track) (stamp : Nat) : Blocks :=
  let m := matchArrival e b t
  let b := m.1
  let m := m.2
  let scheduled := m.entry.map (·.departure)
  let d :=
    { Dwell.begun .regulated m.trip stamp with
      entry := m.entry.map Entry.trip, outcome := some m.outcome, skipped := m.skipped, scheduled := scheduled
      followerAvailable := (b.describer.get t).isEmpty
      headway := headway (e.platformConfig t) scheduled (departureBefore (b.timetable.sequences.get t) m.trip) }
  let gain := effectiveGain e b t m.entry.isNone
  let d := d.aim (dwellInput e b t d gain)
  let b := queueReport e (writeDwell b t .dwell d) (arrivalReport t d (some gain))
  if e.passed d.target then releaseCheck e b t { d with targetOver := true } else b

/-- An arrival in READY (R85, R91). -/
def manualArrival (e : Env) (b : Blocks) (t : Track) (stamp : Nat) : Blocks :=
  let x := match b.describer.get t with
    | a :: rest => (takeHead e b t a rest, a.trip)
    | [] => (b, 0)
  let d := Dwell.begun .manual x.2 stamp
  queueReport e (writeDwell x.1 t .dwell d) (arrivalReport t d none)

/-- An accepted occupancy rise at a regulator (R90, R91); none reaches it in CONFIGURING (R20). -/
def arrive (e : Env) (b : Blocks) (t : Track) (stamp : Nat) : Blocks :=
  match (b.platforms.get t).standing with
  | .occupied _ _ => queueReport e b (.outOfStep t true stamp)
  | .vacant =>
    match e.nodeState with
    | .configuring => b
    | .ready => manualArrival e b t stamp
    | .service => regulatedArrival e b t stamp

/-! ### Departure (R107 to R112) -/

/-- The classification of a departure (R107). -/
def classify (phase : Phase) (d : Dwell) : DepartureClass :=
  match phase with
  | .released => .normal
  | .held => if d.grace.isSome then .lateWithdraw else .unreleased
  | .dwell => .unreleased

/-- The DEPART frame of a departure (R109). -/
def departFrame (e : Env) (t : Track) (trip dact : Nat) (terminates : Bool) : Frame :=
  .depart
    { track := t, trip := trip, dact := dact, entered := e.sectionAhead t
      terminates := terminates || (e.sectionAhead t).isNone }

/-- Whether a trip's entry has TERMINATES (R109). -/
def entryTerminates (l : List Entry) (trip : Nat) : Bool := l.any fun x => decide (x.trip = trip) && x.terminates

/-- Lateness and DELAY (R110, R111). An id whose record is gone, or stands as a copy only, is cleared at every evaluation of the
lateness, whatever it comes to: the model's reading of "at this check" (log entry 51). -/
def judgeLateness (e : Env) (b : Blocks) (t : Track) (trip : Nat) (lateness : Int) : Blocks :=
  let limit := (e.platformConfig t).ldelay
  let held := ((b.platforms.get t).delayId).filter fun i => (b.incidents.findOwned i .delay).isSome
  let b := b.setPlatform t { b.platforms.get t with delayId := held }
  if (limit : Int) < lateness then
    match held with
    | some _ => b
    | none =>
      let raised := raiseIncident e b
        { kind := .delay, severity := 1, span := .one (e.aheadOrBehind t), platform := some (e.platformRef t), trip := some trip }
        (some lateness.toNat)
      raised.1.setPlatform t { raised.1.platforms.get t with delayId := raised.2 }
  else if lateness ≤ ((limit / 2 : Nat) : Int) then
    match held with
    | some _ =>
      let b := closeOwned e b held .delay
      b.setPlatform t { b.platforms.get t with delayId := none }
    | none => b
  else b

/-- The steps of a departure (R108). -/
def departTrain (e : Env) (b : Blocks) (t : Track) (phase : Phase) (d : Dwell) (dact : Nat) : Blocks :=
  let cls := classify phase d
  let terminates := (d.entry.map (entryTerminates (b.timetable.sequences.get t))).getD false
  let lateness : Option Int := if d.entry.isSome then d.scheduled.map fun s : Nat => (dact : Int) - (s : Int) else none
  let b := (b.setPlatform t
    { b.platforms.get t with standing := .vacant, lastDeparture := some { trip := d.trip, dact := dact } }).setStarter t false
  let b := match d.entry with
    | some trip => finishEntry e b t trip
    | none => b
  let b := match e.sectionAhead t with
    | some sec => offerStart e b sec dact
    | none => b
  let b := queueFrame e b (departFrame e t d.trip dact terminates)
  let b := match lateness with
    | some l => judgeLateness e b t d.trip l
    | none => b
  let b := if cls = .unreleased then
      (raiseIncident e b (e.platformRaise .departedUnreleased t (e.aheadOrBehind t) d.trip) none).1
    else b
  let b := queueReport e b (.departed t d.trip dact cls lateness)
  if cls = .lateWithdraw then queueReport e b (.lateWithdraw t d.trip dact) else b

/-- An accepted occupancy fall at a regulator (R91, R107). -/
def depart (e : Env) (b : Blocks) (t : Track) (stamp : Nat) : Blocks :=
  match (b.platforms.get t).standing with
  | .vacant => queueReport e b (.outOfStep t false stamp)
  | .occupied phase d => departTrain e b t phase d stamp

end Sys2Proof.Machine
end

