-- ==== Sys2Proof/Machine/Bus.lean ====
section
/-! DEFINITION. The Linebus Controller's events: the receive assembly, the checks and delivery of a frame, the transmitter's
attempts, SILENT, and the frame-error report (chapter 3). -/

namespace Sys2Proof.Machine

/-! ### Receive errors (R45) -/

/-- The five counters as a report carries them. -/
def Linebus.errorCounters (l : Linebus) : ErrorCounters :=
  { check := l.checkErrors, cls := l.classErrors, content := l.contentErrors, truncated := l.truncatedErrors
    length := l.lengthErrors }

/-- The frame-error report is queued (R45). -/
def reportErrors (e : Env) (b : Blocks) : Blocks :=
  queueReport e (b.setBus { b.bus with errorPending := false, errorAge := 0 }) (.frameErrors b.bus.errorCounters)

/-- After a discard or an early end: the report at once, or later by its mark (R45). -/
def noteError (e : Env) (b : Blocks) : Blocks :=
  if Config.errorReportPeriod ≤ b.bus.errorAge then reportErrors e b else b.setBus { b.bus with errorPending := true }

def countCheckError (e : Env) (b : Blocks) : Blocks :=
  noteError e (b.setBus { b.bus with checkErrors := countUp Config.counterMax b.bus.checkErrors })
def countClassError (e : Env) (b : Blocks) : Blocks :=
  noteError e (b.setBus { b.bus with classErrors := countUp Config.counterMax b.bus.classErrors })
def countContentError (e : Env) (b : Blocks) : Blocks :=
  noteError e (b.setBus { b.bus with contentErrors := countUp Config.counterMax b.bus.contentErrors })
def countTruncated (e : Env) (b : Blocks) : Blocks :=
  noteError e (b.setBus { b.bus with truncatedErrors := countUp Config.counterMax b.bus.truncatedErrors })
def countLengthError (e : Env) (b : Blocks) : Blocks :=
  noteError e (b.setBus { b.bus with lengthErrors := countUp Config.counterMax b.bus.lengthErrors })

/-- The pending frame-error report falls due (R45). -/
def errorReportStep (e : Env) (b : Blocks) : Blocks :=
  if b.bus.errorPending && decide (Config.errorReportPeriod ≤ b.bus.errorAge) then reportErrors e b else b

/-! ### The receive assembly (R44) -/

/-- Whether an assembly can be the one that took a frame's characters: it stands ready, or holds the first of them. -/
def Assembly.accepts (a : Assembly) (characters : List Byte) : Bool :=
  match a with
  | .skip => false
  | .seek => true
  | .frame taken => taken.isPrefixOf characters

def setRx (b : Blocks) (a : Assembly) : Blocks := b.setBus { b.bus with rx := a }
def setIdle (b : Blocks) (n : Nat) : Blocks := b.setBus { b.bus with idleCount := n }

/-- The line has been idle for 20 bit times: SKIP ends, and a frame in assembly is truncated (R44; log entry 7). -/
def noteIdle (e : Env) (b : Blocks) : Blocks :=
  match b.bus.rx with
  | .skip => setRx b .seek
  | .seek => b
  | .frame _ => countTruncated e (setRx b .seek)

/-- A character error at the assembly (R44). -/
def rxError (e : Env) (b : Blocks) : Blocks :=
  match b.bus.rx with
  | .skip => b
  | .seek => setRx b .skip
  | .frame _ => countTruncated e (setRx b .skip)

/-! ### SILENT (R47) -/

def enterSilent (e : Env) (b : Blocks) : Blocks :=
  if b.bus.silent then b
  else queueReport e (b.setBus { b.bus with silent := true, tx := .off, waiting := [] }) (.silent e.nodeNumber)

/-! ### Delivery (R46) -/

/-- A foreign valid frame at the Peer View and then at its class owner (R46, R51). -/
def deliver (e : Env) (b : Blocks) (source : Nat) (f : Frame) : Blocks :=
  let b := hearFrom e b source
  match f with
  | .status c => peerStatus e b source c
  | .power c => takePower e (peerPower e b source c) source c
  | .depart c => takeDepart e (peerDepart e b c) source c
  | .isolate sec id => takeIsolate e b sec id
  | .restore sec requester id => takeRestore e b sec requester id
  | .incident c => takeIncident e b c
  | .announce c => takeAnnounce e b c

/-- A complete foreign frame of a known class whose check is right: the content check, and delivery (R45 to R47). -/
def judgeContent (e : Env) (b : Blocks) (source : Byte) (cls : FrameClass) (payload : List Byte) : Blocks :=
  match parseFrame e.lineCount source.toNat cls payload with
  | none => countContentError e b
  | some f =>
    let b := b.setBus { b.bus with validFrames := countUp Config.counterMax b.bus.validFrames }
    if source.toNat = e.nodeNumber then enterSilent e b else deliver e b source.toNat f

/-- A complete frame that is not own, judged by its checks in their order (R45). -/
def judgeFrame (e : Env) (b : Blocks) (source cls : Byte) (payload : List Byte) (check : Check) : Blocks :=
  if check ≠ crc (busBody source cls payload) then countCheckError e b
  else
    match FrameClass.ofCode cls with
    | none => countClassError e b
    | some c => judgeContent e b source c payload

/-- A foreign frame of a class completes on the line; one that the assembly is not taking is lost to it (R44, R45). -/
def receiveFrame (e : Env) (b : Blocks) (source : Byte) (cls : FrameClass) (payload : List Byte) : Blocks :=
  if b.bus.rx.accepts (busChars source cls.code payload (crc (busBody source cls.code payload))) then
    let b := setIdle (setRx b .skip) 0
    if Config.busPayloadMax < payload.length then countLengthError e b else judgeContent e b source cls payload
  else b

/-- Whether a complete frame passes all three checks (R45). -/
def frameValid (e : Env) (source cls : Byte) (payload : List Byte) (check : Check) : Bool :=
  decide (check = crc (busBody source cls payload))
    && ((FrameClass.ofCode cls).bind fun c => parseFrame e.lineCount source.toNat c payload).isSome

/-- A complete frame that fails a check (R45); a frame that fails none is no occasion of this step. -/
def discardFrame (e : Env) (b : Blocks) (source cls : Byte) (payload : List Byte) (check : Check) : Blocks :=
  if b.bus.rx.accepts (busChars source cls payload check) ∧ payload.length ≤ Config.busPayloadMax
      ∧ frameValid e source cls payload check = false then
    judgeFrame e (setIdle (setRx b .skip) 0) source cls payload check
  else b

/-- A length character above 48 (R44). -/
def lengthError (e : Env) (b : Blocks) (source cls len : Byte) : Blocks :=
  if b.bus.rx.accepts [Config.busSync, source, cls, len] && decide (Config.busPayloadMax < len.toNat) then
    countLengthError e (setIdle (setRx b .skip) 0)
  else b

/-! ### Characters heard (R44) -/

/-- The characters of a frame in assembly, with the one just taken: its length character met, its second check character met,
or more to come (R28, R44). -/
def takeInFrame (e : Env) (b : Blocks) (taken : List Byte) : Blocks :=
  match taken with
  | _sync :: source :: cls :: len :: rest =>
    if Config.busPayloadMax < len.toNat then countLengthError e (setRx b .skip)
    else if len.toNat + 2 ≤ rest.length then
      judgeFrame e (setRx b .skip) source cls (rest.take len.toNat) (BitVec.ofNat 16 (num (rest.drop len.toNat)))
    else setRx b (.frame taken)
  | _ => setRx b (.frame taken)

/-- One character at the assembly (R44). -/
def takeChar (e : Env) (b : Blocks) (c : Byte) : Blocks :=
  let b := setIdle b 0
  match b.bus.rx with
  | .skip => b
  | .seek => if c = Config.busSync then setRx b (.frame [c]) else setRx b .skip
  | .frame taken => takeInFrame e b (taken ++ [c])

/-- The characters taken since the command before, one by one; what they complete is judged and delivered at its place. -/
def takeChars (e : Env) (b : Blocks) (heard : List Byte) : Blocks := heard.foldl (takeChar e) b

/-- A character error on the line outside this node's own attempt (R44). -/
def characterError (e : Env) (b : Blocks) (heard : List Byte) : Blocks := rxError e (setIdle (takeChars e b heard) 0)

/-- The idle count when the line has been quiet for `idle` bit times after the characters heard; with none heard it only rises
(R27). -/
def idleAfter (held : Nat) (heard : List Byte) (idle : Nat) : Nat := if heard.isEmpty then max held idle else idle

/-- The line falls idle (R27, R44). -/
def lineIdle (e : Env) (b : Blocks) (heard : List Byte) (idle : Nat) : Blocks :=
  let count := idleAfter b.bus.idleCount heard idle
  let b := setIdle (takeChars e b heard) count
  if Config.idleBits ≤ count then noteIdle e b else b

/-- A character that begins no frame, met in SEEK (R44); `none` is a character error. -/
def otherCharacter (b : Blocks) (c : Option Byte) : Blocks :=
  match b.bus.rx with
  | .seek => if c = some Config.busSync then b else setIdle (setRx b .skip) 0
  | .skip => b
  | .frame _ => b

/-! ### The transmitter (R35 to R38) -/

/-- The frame in hand has left the queue (R35). -/
def releaseHand (b : Blocks) : Blocks := b.setBus { b.bus with tx := b.bus.next }

/-- The LBDE output: ACTIVE through an attempt, INACTIVE at all other times, so also from a collision on (R27, R36). -/
def Linebus.driveEnable (l : Linebus) : Bool :=
  match l.tx with
  | .sending _ => true
  | .off => false
  | .idle => false
  | .waiting => false
  | .backoff _ => false

/-- The line stays idle for `more` bit times: the idle count held rises by them, and at 20 it acts on the assembly (R27, R44; log
entry 7). -/
def stayIdle (e : Env) (b : Blocks) (more : Nat) : Blocks :=
  let b := setIdle b (b.bus.idleCount + more)
  if Config.idleBits ≤ b.bus.idleCount then noteIdle e b else b

/-- A first attempt, once the line has been idle for 20 bit times: the head of the queue becomes the frame in hand (R35). -/
def attemptBegin (e : Env) (b : Blocks) (idle : Nat) : Blocks :=
  match b.bus.tx, b.bus.waiting with
  | .waiting, f :: rest =>
    let b := stayIdle e b idle
    if Config.idleBits ≤ b.bus.idleCount then
      b.setBus { b.bus with tx := .sending { frame := f, attempts := 0, doomed := false }, waiting := rest, idleCount := 0 }
    else b
  | _, _ => b

/-- The wait of BACKOFF in bit times (R37). -/
def backoffWait (node rank : Nat) : Nat := Config.idleBits + 10 * rank + 2 * node

/-- A new attempt with the same frame (R37). -/
def backoffRetry (e : Env) (b : Blocks) (idle : Nat) : Blocks :=
  match b.bus.tx with
  | .backoff h =>
    let b := stayIdle e b idle
    if backoffWait e.nodeNumber h.frame.cls.rank ≤ b.bus.idleCount then b.setBus { b.bus with tx := .sending h, idleCount := 0 }
    else b
  | _ => b

/-- What becomes of the frame in hand at a collision (R36, R38, R49). A DEPART or ANNOUNCE frame that SERVICE RESET met in SENDING is
removed, uncounted and unreported, also where the collision is its sixteenth, at which R38 drops a frame with its count and its
TX_DROP: that R49 goes before R38 there is the model's choice (log entry 67). -/
def collideHand (e : Env) (b : Blocks) (h : Hand) : Blocks :=
  if h.doomed then releaseHand b
  else if Config.attemptLimit ≤ h.attempts + 1 then dropFrame e (releaseHand b) .attempts h.frame
  else b.setBus { b.bus with tx := .backoff { h with attempts := h.attempts + 1 } }

/-- A collision: the transmitter first, then the characters of the attempt at the assembly, and the character error that made it one
(R36, R44). That the transmitter's part, and so its report, comes first is the model's choice (log entry 55). -/
def collide (e : Env) (b : Blocks) (cause : CollisionCause) (heard : List Byte) : Blocks :=
  match b.bus.tx with
  | .sending h =>
    let b := b.setBus { b.bus with collisions := countUp Config.counterMax b.bus.collisions, idleCount := 0 }
    let b := takeChars e (collideHand e b h) heard
    if cause = .characterError then rxError e b else b
  | _ => b

/-- This node's own frame as its own assembly judges it: it is not delivered (R44 to R46). -/
def judgeOwn (e : Env) (b : Blocks) (f : Frame) : Blocks :=
  match b.bus.rx with
  | .skip => b
  | _ =>
    match parseFrame e.lineCount e.nodeNumber f.cls f.payload with
    | some _ => b.setBus { b.bus with rx := .skip, validFrames := countUp Config.counterMax b.bus.validFrames }
    | none => countContentError e (setRx b .skip)

/-- The last check character read back: the frame has been sent (R36). -/
def frameSent (e : Env) (b : Blocks) : Blocks :=
  match b.bus.tx with
  | .sending h =>
    let b := releaseHand (b.setBus { b.bus with sent := countUp Config.counterMax b.bus.sent, idleCount := 0 })
    judgeOwn e b h.frame
  | _ => b

/-- A STATUS point (R42). -/
def statusStep (e : Env) (b : Blocks) : Blocks :=
  if b.bus.statusDue then queueStatus e (b.setBus { b.bus with statusDue := false }) else b

/-! ### CONFIGURE and SERVICE RESET (R49) -/

/-- The transmitter leaves OFF (R49). -/
def enableBus (b : Blocks) : Blocks :=
  if b.bus.silent then b
  else
    match b.bus.tx with
    | .off => b.setBus { b.bus with tx := .idle }
    | _ => b

/-- The classes SERVICE RESET removes (R49). -/
def FrameClass.removable : FrameClass → Bool
  | .depart => true
  | .announce => true
  | .isolate => false
  | .restore => false
  | .power => false
  | .incident => false
  | .status => false

/-- The transmitter after the removal (R49): a removed frame in BACKOFF frees it, one in SENDING is marked. -/
def removeHand (tx : Transmitter) (kept : List Frame) : Transmitter :=
  match tx with
  | .off => .off
  | .idle => .idle
  | .waiting => if kept.isEmpty then .idle else .waiting
  | .sending h => if h.frame.cls.removable then .sending { h with doomed := true } else .sending h
  | .backoff h => if h.frame.cls.removable then (if kept.isEmpty then .idle else .waiting) else .backoff h

/-- Queued DEPART and ANNOUNCE frames are removed (R49). -/
def removeFrames (b : Blocks) : Blocks :=
  let kept := b.bus.waiting.filter fun f => !f.cls.removable
  b.setBus { b.bus with waiting := kept, tx := removeHand b.bus.tx kept }

end Sys2Proof.Machine
end

