-- ==== Sys2Proof/Machine/Field.lean ====
section
/-! DEFINITION. The Field Interface: the filters, the sampling point and the deliveries of accepted changes (chapter 2). -/

namespace Sys2Proof.Machine

/-! ### Filter records (R15 to R17) -/

/-- A record whose change, or settlement, at a level has been accepted (R16, R17). -/
def FilterRecord.at_ (level : Bool) : FilterRecord := { level := some level, candidate := none, run := 0 }

/-- The run that one sample leaves at a filter, before the comparison with F (R16, R17). -/
def FilterRecord.follow (r : FilterRecord) (level : Bool) : FilterRecord :=
  match r.level with
  | some held =>
    if level = held then { level := some held, candidate := none, run := 0 }
    else { level := some held, candidate := some level, run := r.run + 1 }
  | none =>
    if r.candidate = some level then { level := none, candidate := some level, run := r.run + 1 }
    else { level := none, candidate := some level, run := 1 }

/-- One sample at a filter of length `f`, with the level it accepts or settles at: at run count `f` the filtered level becomes
the candidate, the candidate is cleared and the run count returns to 0 (R16, R17). -/
def FilterRecord.sample (f : Nat) (r : FilterRecord) (level : Bool) : FilterRecord × Option Bool :=
  let followed := r.follow level
  match followed.candidate with
  | some c => if f ≤ followed.run then (.at_ c, some c) else (followed, none)
  | none => (followed, none)

/-- What an occupancy or plunger input delivers of an accepted level: a settlement INACTIVE delivers nothing (R17). -/
def FilterRecord.delivers (r : FilterRecord) (accepted : Option Bool) : Option Bool :=
  accepted.filter fun level => level || r.level.isSome

/-- An accepted level with the service time now held as its stamp (R18). -/
def Env.stamped (e : Env) (accepted : Option Bool) : Option Accepted := accepted.map fun level => { level := level, stamp := e.now }

/-- An input's filter record after a sampling point, and what it has accepted there (R15 to R18). -/
def setOccupancy (b : Blocks) (t : Track) (r : FilterRecord) (w : Option Accepted) : Blocks :=
  b.setField
    { b.field with
      filters := { b.field.filters with occupancy := b.field.filters.occupancy.set t r }
      waiting := { b.field.waiting with occupancy := b.field.waiting.occupancy.set t w } }
def setPlunger (b : Blocks) (t : Track) (r : FilterRecord) (w : Option Accepted) : Blocks :=
  b.setField
    { b.field with
      filters := { b.field.filters with plunger := b.field.filters.plunger.set t r }
      waiting := { b.field.waiting with plunger := b.field.waiting.plunger.set t w } }
def setStatusFilter (b : Blocks) (br : Breaker) (r : FilterRecord) (w : Option Accepted) : Blocks :=
  b.setField
    { b.field with
      filters := { b.field.filters with status := b.field.filters.status.set br r }
      waiting := { b.field.waiting with status := b.field.waiting.status.set br w } }
def setKeyFilter (b : Blocks) (r : FilterRecord) (w : Option Bool) : Blocks :=
  b.setField { b.field with filters := { b.field.filters with key := r }, waiting := { b.field.waiting with key := w } }

/-- An accepted change has gone to its block (R19). -/
def setWaiting (b : Blocks) (w : Deliveries) : Blocks := b.setField { b.field with waiting := w }
def sentOccupancy (b : Blocks) (t : Track) : Blocks :=
  setWaiting b { b.field.waiting with occupancy := b.field.waiting.occupancy.set t none }
def sentPlunger (b : Blocks) (t : Track) : Blocks :=
  setWaiting b { b.field.waiting with plunger := b.field.waiting.plunger.set t none }
def sentStatus (b : Blocks) (br : Breaker) : Blocks :=
  setWaiting b { b.field.waiting with status := b.field.waiting.status.set br none }
def sentKey (b : Blocks) : Blocks := setWaiting b { b.field.waiting with key := none }

/-- The occupancy filter length in force (R15). -/
def Env.occupancyFilter (e : Env) : Nat := (e.config.map (·.occupancyFilter)).getD 0

/-! ### Deliveries (R16 to R20): each acts where the input has accepted that change (log entry 2) -/

/-- An accepted occupancy rise, or settlement ACTIVE; occupancy is not sampled in CONFIGURING (R20). -/
def occupancyRise (e : Env) (b : Blocks) (t : Track) : Blocks :=
  match b.field.waiting.occupancy.get t with
  | some a => if e.configured ∧ a.level = true then arrive e (sentOccupancy b t) t a.stamp else b
  | none => b

/-- An accepted occupancy fall (R20). -/
def occupancyFall (e : Env) (b : Blocks) (t : Track) : Blocks :=
  match b.field.waiting.occupancy.get t with
  | some a => if e.configured ∧ a.level = false then depart e (sentOccupancy b t) t a.stamp else b
  | none => b

/-- An accepted press, or settlement ACTIVE. -/
def plungerRise (e : Env) (b : Blocks) (t : Track) : Blocks :=
  match b.field.waiting.plunger.get t with
  | some a => if a.level = true then plungerPress e (sentPlunger b t) t else b
  | none => b

/-- An accepted release. -/
def plungerFall (e : Env) (b : Blocks) (t : Track) : Blocks :=
  match b.field.waiting.plunger.get t with
  | some a => if a.level = false then plungerRelease e (sentPlunger b t) t else b
  | none => b

/-- A breaker input's settlement; it is delivered once, at a present breaker whose state is absent (R17, R117). -/
def breakerSettles (e : Env) (b : Blocks) (br : Breaker) (isClosed : Bool) : Blocks :=
  match b.field.waiting.status.get br, b.power.breakers.get br with
  | some a, some r =>
    if a.level = isClosed ∧ r.condition.isNone then settleBreaker e (sentStatus b br) br isClosed else b
  | _, _ => b

/-- An accepted change of a settled breaker input, at a present breaker (R16). -/
def breakerMoves (e : Env) (b : Blocks) (br : Breaker) (isClosed : Bool) : Blocks :=
  match b.field.waiting.status.get br, b.power.breakers.get br with
  | some a, some r =>
    if a.level = isClosed ∧ r.condition.isSome then breakerChange e (sentStatus b br) br isClosed else b
  | _, _ => b

/-- The LOCAL key settles or changes (R17, R142). -/
def keyMoves (e : Env) (b : Blocks) (isSet : Bool) : Blocks :=
  if b.field.waiting.key = some isSet then keyLevel e (sentKey b) isSet else b

/-- The running pulse of a present breaker ends (R24, R25). -/
def endPulse (b : Blocks) (br : Breaker) : Blocks :=
  match b.power.breakers.get br with
  | some _ => b.setCoils br (b.field.coils.get br).pulseEnd
  | none => b

/-! ### The sampling point (R15) -/

/-- What one input of a track, a breaker or the key has accepted is delivered, whichever change it is. -/
def deliverOccupancy (e : Env) (b : Blocks) (t : Track) : Blocks := occupancyFall e (occupancyRise e b t) t
def deliverPlunger (e : Env) (b : Blocks) (t : Track) : Blocks := plungerFall e (plungerRise e b t) t
def deliverStatus (e : Env) (b : Blocks) (br : Breaker) : Blocks :=
  match b.field.waiting.status.get br with
  | some a => if (b.condition br).isNone then breakerSettles e b br a.level else breakerMoves e b br a.level
  | none => b
def deliverKey (e : Env) (b : Blocks) : Blocks :=
  match b.field.waiting.key with
  | some level => keyMoves e b level
  | none => b

/-- Every accepted change still to be delivered, each as its own event, in the manual's order of inputs, which is the model's choice
(R19; log entry 6): at a sampling point, at an advance, and where CONFIGURE, DAY END or SERVICE RESET follows the acceptance
(R11, R13, R14). -/
def deliverAll (e : Env) (b : Blocks) : Blocks :=
  let b := allTracks.foldl (deliverOccupancy e) b
  let b := allTracks.foldl (deliverPlunger e) b
  let b := allBreakers.foldl (deliverStatus e) b
  deliverKey e b

def InputLevels.occupancy (l : InputLevels) : Track → Bool
  | .up => l.occupancyUp
  | .down => l.occupancyDown

def InputLevels.plunger (l : InputLevels) : Track → Bool
  | .up => l.plungerUp
  | .down => l.plungerDown

def InputLevels.status (l : InputLevels) : Breaker → Bool
  | .ul => l.statusUl
  | .uh => l.statusUh
  | .dl => l.statusDl
  | .dh => l.statusDh

/-- One input of each kind sampled; occupancy outside CONFIGURING alone, a status input while its breaker is present
(R15, R20, R21). -/
def sampleOccupancy (e : Env) (l : InputLevels) (b : Blocks) (t : Track) : Blocks :=
  if e.configured then
    let r := b.field.filters.occupancy.get t
    let x := r.sample e.occupancyFilter (InputLevels.occupancy l t)
    setOccupancy b t x.1 (e.stamped (r.delivers x.2))
  else b

def samplePlunger (e : Env) (l : InputLevels) (b : Blocks) (t : Track) : Blocks :=
  let r := b.field.filters.plunger.get t
  let x := r.sample Config.plungerFilter (InputLevels.plunger l t)
  setPlunger b t x.1 (e.stamped (r.delivers x.2))

def sampleStatus (e : Env) (l : InputLevels) (b : Blocks) (br : Breaker) : Blocks :=
  match b.power.breakers.get br with
  | some _ =>
    let x := (b.field.filters.status.get br).sample Config.statusFilter (InputLevels.status l br)
    setStatusFilter b br x.1 (e.stamped x.2)
  | none => b

def sampleKey (l : InputLevels) (b : Blocks) : Blocks :=
  let x := b.field.filters.key.sample Config.keyFilter l.key
  setKeyFilter b x.1 x.2

/-- A sampling point: what is still to be delivered of the one before, then all inputs together (R15 to R17). -/
def samplingPoint (e : Env) (b : Blocks) (l : InputLevels) : Blocks :=
  let b := deliverAll e b
  let b := allTracks.foldl (sampleOccupancy e l) b
  let b := allTracks.foldl (samplePlunger e l) b
  let b := allBreakers.foldl (sampleStatus e l) b
  sampleKey l b

/-- Both occupancy filters start to settle; a change part-way through its filter is abandoned (R20). A change accepted before has been
delivered by the request that restarts the filters (log entry 6). -/
def restartOccupancy (b : Blocks) : Blocks :=
  b.setField { b.field with filters := { b.field.filters with occupancy := ⟨.unsettled, .unsettled⟩ } }

end Sys2Proof.Machine
end

