-- ==== Sys2Proof/Machine/TimeBase.lean ====
section
/-! DEFINITION. The Time Base and the advance: every count that rises at it, and the events that fall due between two advances
(R5 to R9). -/

namespace Sys2Proof.Machine

/-! ### What falls due between two advances (log entry 1) -/

/-- The numbers a peer, a start entry, a channel can have. -/
def nodeNumbers : List Nat := List.range 32
def channelNumbers (b : Blocks) : List Nat := (List.range b.announce.channels.length).map (· + 1)

def incidentIds (b : Blocks) : List IncidentId := b.incidents.records.map (·.id)

/-- Every isolation item of the table. -/
def allItems (b : Blocks) : List (IncidentId × TractionSection) :=
  b.incidents.records.flatMap fun r => r.items.map fun i => (r.id, i.sec)

def headIds (b : Blocks) : List Nat := allZones.flatMap fun z => (b.announce.queues.get z).map Chain.headId

/-- Every event whose count or instant has been reached and that no command has brought yet, in the order of the table. -/
def settle (e : Env) (b : Blocks) : Blocks :=
  let b := deliverAll e b
  let b := allBreakers.foldl (thirdStep e) b
  let b := allBreakers.foldl (limitStep e) b
  let b := (allItems b).foldl (fun b x => repeatStep e b x.1 x.2) b
  let b := allBreakers.foldl (waitStep e) b
  let b := statusStep e b
  let b := errorReportStep e b
  let b := nodeNumbers.foldl (staleStep e) b
  let b := nodeNumbers.foldl (lostStep e) b
  let b := nodeNumbers.foldl (lapseStep e) b
  let b := allTracks.foldl (stallCheck e) b
  let b := allTracks.foldl (targetStep e) b
  let b := allTracks.foldl (staggerStep e) b
  let b := allTracks.foldl graceStep b
  let b := allTracks.foldl (wmaxStep e) b
  let b := (incidentIds b).foldl (refreshStep e) b
  let b := (incidentIds b).foldl (localAgeStep e) b
  let b := (incidentIds b).foldl (copyDropStep e) b
  let b := (headIds b).foldl (notBeforeStep e) b
  let b := (headIds b).foldl (expiryStep e) b
  let b := (channelNumbers b).foldl (deadlineStep e) b
  (channelNumbers b).foldl (stopStep e) b

/-! ### The counts of an advance (R5, R8) -/

/-- The command in flight of a breaker (R120) and its restore wait (R137). -/
def Condition.tick : Condition → Condition
  | .opening c => .opening { c with count := countUp c.limit c.count }
  | .closing c => .closing { c with count := countUp c.limit c.count }
  | .closed => .closed
  | .opened => .opened
  | .failed => .failed

def BreakerRecord.tick (r : BreakerRecord) : BreakerRecord :=
  { r with
    condition := r.condition.map Condition.tick
    wait := r.wait.map fun w => { w with count := countUp Config.restoreWait w.count } }

def Power.tick (p : Power) : Power :=
  { p with
    breakers :=
      { ul := p.breakers.ul.map .tick, uh := p.breakers.uh.map .tick, dl := p.breakers.dl.map .tick
        dh := p.breakers.dh.map .tick } }

/-- The STATUS point counter, the STATUS point it comes to outside CONFIGURING, and the age of the frame-error report (R11, R42,
R45, R49). -/
def Linebus.tick (configured : Bool) (l : Linebus) : Linebus :=
  { l with
    advances := (l.advances + 1) % Config.statusPeriod
    statusDue := l.statusDue || (configured && decide ((l.advances + 1) % Config.statusPeriod = 0))
    errorAge := countUp Config.errorReportPeriod l.errorAge }

/-- Silence of a peer that is CURRENT or STALE (R52). -/
def PeerEntry.tick (p : PeerEntry) : PeerEntry :=
  if p.liveness.heard then { p with silence := countUp Config.lostAt p.silence } else p

/-- The age of an entry with a start time (R58). -/
def StartEntry.tick (s : StartEntry) : StartEntry :=
  match s.start with
  | some _ => { s with age := countUp (Config.startAgeMax + 1) s.age }
  | none => s

def PeerView.tick (p : PeerView) : PeerView :=
  { p with table := p.table.map PeerEntry.tick, starts := p.starts.map StartEntry.tick }

/-- The withdrawal grace (R102). -/
def Standing.tick : Standing → Standing
  | .vacant => .vacant
  | .occupied p d => .occupied p { d with grace := d.grace.map (countUp Config.graceLength) }

def Platform.tick (p : Platform) : Platform := { p with standing := p.standing.tick }

/-- An isolation item's repeat count, which stands before its first send (R132, R143). -/
def IsolationItem.tick (i : IsolationItem) : IsolationItem :=
  if i.state = .pending ∧ 1 ≤ i.sends then { i with repeats := countUp Config.isolationRepeat i.repeats } else i

/-- The counts of a record: refresh outside CONFIGURING, local age, repeat counts; silence while the owner is CURRENT
(R132, R155, R156, R159). -/
def Incident.tick (configured : Bool) (peers : PeerView) (r : Incident) : Incident :=
  match r.holding with
  | .owned o =>
    { r with
      holding := .owned
        { o with
          refresh := if configured then countUp Config.refreshPeriod o.refresh else o.refresh
          age := if r.kind = .descriptionError then countUp Config.localAgeMax o.age else o.age
          isolation := o.isolation.map IsolationItem.tick } }
  | .copy p =>
    if (peers.entry r.owner).liveness = .current then
      { r with holding := .copy { p with silence := countUp Config.silenceAgeMax p.silence } }
    else r

/-- Play and stop counts (R186, R191). -/
def Channel.tick : Channel → Channel
  | .idle => .idle
  | .playing z m n began => .playing z m (n + 1) began
  | .stopping z m cause n began => .stopping z m cause (countUp Config.stopLimit n) began

/-- A chain whose not-before lies between the old and the new service time comes due (R181). -/
def Chain.tick (before after : Nat) (c : Chain) : Chain :=
  { c with notBeforeDue := c.notBeforeDue || (c.notBefore.map fun n => decide (before < n ∧ n ≤ after)).getD false }

/-- The not-befores that a move of service time brings due, in every queue. -/
def Announcer.markDue (before after : Nat) (a : Announcer) : Announcer :=
  { a with
    queues :=
      { up := a.queues.up.map (Chain.tick before after), down := a.queues.down.map (Chain.tick before after)
        concourse := a.queues.concourse.map (Chain.tick before after) } }

def Announcer.tick (before after : Nat) (a : Announcer) : Announcer :=
  { a.markDue before after with channels := a.channels.map Channel.tick }

/-- Every block's counts at one advance from `before` to `after`. -/
def Blocks.tick (b : Blocks) (configured : Bool) (before after : Nat) : Blocks :=
  { b with
    power := b.power.tick, bus := b.bus.tick configured, peers := b.peers.tick
    platforms := { up := b.platforms.up.tick, down := b.platforms.down.tick }
    incidents := { b.incidents with records := b.incidents.records.map (Incident.tick configured b.peers) }
    announce := b.announce.tick before after }

/-! ### Service time (R5, R9) -/

/-- One advance of service time; the overrun flag is set the first time the limit is reached (R9). -/
def TimeBase.advance (t : TimeBase) : TimeBase :=
  { t with
    service := countUp Config.serviceTimeMax t.service
    overrun := t.overrun || decide (Config.serviceTimeMax ≤ countUp Config.serviceTimeMax t.service) }

/-- One advance, delivered to every block (R5, R9): what is still due comes about first. -/
def advance (n : Node) : Node :=
  let b := settle n.env n.blk
  let time := n.env.time.advance
  let e := { n.env with time := time }
  let b := b.tick e.configured n.env.now e.now
  { env := e, blk := if time.overrun && !n.env.time.overrun then queueReport e b .dayOverrun else b }

/-- A clock pulse, `since` milliseconds after the one before it (R6). -/
def clockPulse (n : Node) (since : Nat) : Node :=
  match n.env.time.mode with
  | .pulsed => advance n
  | .holdover =>
    let run := if since < Config.pulseRunMs then n.env.time.run + 1 else 1
    if Config.runLength ≤ run then
      let e := { n.env with time := { n.env.time with mode := .pulsed, run := 0 } }
      { env := e, blk := queueReport e n.blk .holdoverEnded }
    else { n with env := { n.env with time := { n.env.time with run := run } } }

/-- The pulse timeout: two advances, HOLDOVER, its report (R7). -/
def pulseTimeout (n : Node) : Node :=
  match n.env.time.mode with
  | .pulsed =>
    let n := advance (advance { n with env := { n.env with time := { n.env.time with mode := .holdover, run := 0 } } })
    { n with blk := queueReport n.env n.blk .holdoverBegun }
  | .holdover => n

/-- An advance of the holdover oscillator (R7). -/
def oscillatorAdvance (n : Node) : Node :=
  match n.env.time.mode with
  | .holdover => advance n
  | .pulsed => n

end Sys2Proof.Machine
end

