-- ==== Sys2Proof/Machine/Reads.lean ====
section
/-! DEFINITION. The items and pages of the READ requests (R213). The places of the fields within an item follow the order of
their owner's list; what the manual leaves open of the layout is log entry 12. -/

namespace Sys2Proof.Machine

/-! ### Pages -/

/-- Characters a page has for items: 96 less status, group, first item, count and next item. -/
def pageRoom : Nat := Config.portPayloadMax - 5

/-- How many of the items fit in `room` characters. -/
def fitting (room : Nat) : List (List Byte) → Nat
  | [] => 0
  | x :: rest => if x.length ≤ room then fitting (room - x.length) rest + 1 else 0

/-- The result fields of a READ: group, first item, count, next item, items; at least one item when the first exists. -/
def page (group first : Nat) (items : List (List Byte)) : List Byte :=
  let from_ := items.drop first
  let n := if from_.isEmpty then 0 else max 1 (fitting pageRoom from_)
  let next := if first + n < items.length then some (first + n) else none
  [char group, char first, char n] ++ opt1 next ++ (from_.take n).flatten

/-! ### Small fields -/

/-- UNSETTLED, ACTIVE, INACTIVE (R15). -/
def levelCode : Option Bool → Nat
  | none => 0
  | some true => 1
  | some false => 2

/-- ACTIVE, INACTIVE, or absent. -/
def candidateChars (c : Option Bool) : List Byte := opt1 (c.map fun x => if x then 0 else 1)

/-- A filter record in the order of R15. R213 lists "filter record and filtered level"; the record holds the filtered level, and the model
sends it once, as the record's first field: the model's choice (log entry 12). -/
def filterChars (r : FilterRecord) : List Byte := chars1 (levelCode r.level) ++ candidateChars r.candidate ++ chars1 r.run

/-- The level of an output line: ACTIVE is 0 and INACTIVE is 1 (R208). -/
def lineChar (active : Bool) : Byte := char (if active then 0 else 1)

/-- ON is 0 and OFF is 1 (R164, R208). -/
def alarmCode (on : Bool) : Nat := if on then 0 else 1

def platformConfigChars (c : PlatformConfig) : List Byte :=
  chars2 c.wmin ++ chars2 c.wmax ++ chars2 c.rup ++ chars1 c.gain ++ chars2 c.stagger ++ chars2 c.ldelay
    ++ chars2 c.stallMargin ++ chars2 c.hdefault

/-- A template as its phrase count and its phrases, each unpacked in 2 characters: the model's choice (log entry 12). -/
def templateChars (l : List Nat) : List Byte := chars1 l.length ++ l.flatMap chars2

/-! ### READ STATUS -/

def itemsNode (e : Env) (b : Blocks) : List (List Byte) :=
  [chars1 e.nodeState.code ++ chars1 e.nodeNumber ++ opt1 (e.config.map (·.nodeCount))
    ++ [char (alarmCode b.incidents.alarm), char (flag b.bus.silent)]]

def itemsConfig (e : Env) : List (List Byte) :=
  match e.config with
  | none => []
  | some c =>
    [[char c.nodeCount, char c.timeLimit, char c.occupancyFilter, char c.channelCount] ++ chars2 c.numberBase,
      platformConfigChars c.platforms.up, platformConfigChars c.platforms.down, templateChars c.templates.approach,
      templateChars c.templates.delay, templateChars c.templates.suspend, templateChars c.templates.evacuate,
      templateChars c.templates.stalled, templateChars c.templates.held]

def itemsTime (e : Env) : List (List Byte) :=
  [chars3 e.time.service ++ chars2 e.time.day ++ [char e.time.mode.code, char e.time.run, char (flag e.time.overrun)]]

/-- An input's own number: the places of the nine inputs in R15's order (log entry 12). -/
def inputItem (n : Nat) (r : FilterRecord) : List Byte := chars1 n ++ filterChars r

/-- The sampled inputs, and one item with the level of every output line in the order of the pin table, then the pending close pulse of
each breaker (R213; the places are log entry 12). -/
def itemsField (b : Blocks) : List (List Byte) :=
  let f := b.field
  (allTracks.map fun t => inputItem t.code (f.filters.occupancy.get t))
    ++ (allTracks.map fun t => inputItem (2 + t.code) (f.filters.plunger.get t))
    ++ ((allBreakers.filter fun br => (b.power.breakers.get br).isSome).map fun br =>
        inputItem (4 + br.code) (f.filters.status.get br))
    ++ [inputItem 8 f.filters.key]
    ++ [(allBreakers.map fun br => lineChar (f.coils.get br).openLine)
        ++ (allBreakers.map fun br => lineChar (f.coils.get br).closeLine)
        ++ (allTracks.map fun t => lineChar (f.starters.get t)) ++ [lineChar f.alarmLine]
        ++ (allBreakers.map fun br => char (flag (f.coils.get br).pendingClose))]

/-- OFF, IDLE, WAITING, SENDING, BACKOFF (R35). -/
def Transmitter.code : Transmitter → Nat
  | .off => 0
  | .idle => 1
  | .waiting => 2
  | .sending _ => 3
  | .backoff _ => 4

/-- Queued frames of a class, the frame in hand counted (R35, R39). -/
def Linebus.countOf (l : Linebus) (c : FrameClass) : Nat :=
  ((l.waiting ++ l.tx.hand?.toList.map (·.frame)).filter fun f => decide (f.cls = c)).length

def frameClasses : List FrameClass := [.isolate, .restore, .power, .incident, .depart, .announce, .status]

def itemsLinebus (b : Blocks) : List (List Byte) :=
  let l := b.bus
  [chars1 l.tx.code ++ opt1 (l.tx.hand?.map (·.attempts)) ++ (frameClasses.map fun c => char (l.countOf c)),
    chars2 l.sent ++ chars2 l.collisions ++ chars2 l.dropped ++ chars2 l.checkErrors ++ chars2 l.classErrors
      ++ chars2 l.contentErrors ++ chars2 l.truncatedErrors ++ chars2 l.lengthErrors ++ chars2 l.validFrames]

def lastStatusChars : Option LastStatus → List Byte
  | some s => s.contents.payload ++ chars3 s.takenAt
  | none => List.replicate 25 0xFF

def itemsPeers (b : Blocks) : List (List Byte) :=
  (List.range 32).map fun n =>
    let p := b.peers.entry n
    chars1 n ++ chars1 p.liveness.code ++ opt3 p.lastHeard ++ lastStatusChars p.lastStatus

/-- An entry of the recent-starts table; a lapsed one, which counts as absent for every reader, is sent as absent though R58 says
that its start is kept for reading (the model's choice, log entry 46). -/
def startChars (b : Blocks) (n : Nat) : List Byte :=
  match b.peers.starts[n]?, b.peers.start n with
  | some s, some d => chars3 d ++ chars2 s.age
  | _, _ => List.replicate 5 0xFF

def itemsStarts (b : Blocks) : List (List Byte) := (List.range 32).map fun n => chars1 n ++ startChars b n

/-- EMPTY, LOADING, LOADED, FAILED (R65). -/
def LoadState.code : LoadState → Nat
  | .empty => 0
  | .loading _ _ => 1
  | .loaded => 2
  | .failed => 3

def LoadState.total : LoadState → Option Nat
  | .loading t _ => some t
  | .empty => none
  | .loaded => none
  | .failed => none

def itemsTimetable (b : Blocks) : List (List Byte) :=
  let t := b.timetable
  [chars1 t.load.code ++ opt1 t.load.total ++ opt1 t.lastPart ++ chars2 t.sequences.up.length
    ++ chars2 t.sequences.down.length ++ chars2 t.total]

/-- A block's holder (R174): a character with the kind of holder and then its id and part, the model's choice (log entry 12). -/
def holderChars : Option Holder → List Byte
  | none => [0, 0xFF, 0xFF, 0xFF]
  | some (.incident id) => chars1 1 ++ idChars id ++ [0xFF]
  | some (.message id part) => chars1 2 ++ chars2 id ++ chars1 part

def itemsStore (b : Blocks) : List (List Byte) :=
  let s := b.store
  ([char s.free, char s.incidents, char s.messages, char s.reserve,
      char (Config.storeBlocks - Config.storeReserve - s.messages)] ++ chars2 s.refusals)
    :: (List.range s.blocks.length).map fun n => chars1 n ++ holderChars (s.blocks[n]?.getD none)

/-- A channel record: its state, zone, message, play count, stop cause, stop count and the start of its chain (R182). -/
def channelChars : Channel → List Byte
  | .idle => [char 0] ++ List.replicate 9 0xFF
  | .playing z m n began => [char 1, char z.code] ++ chars2 m ++ [char n, 0xFF, 0xFF] ++ chars3 began
  | .stopping z m cause n began => [char 2, char z.code] ++ chars2 m ++ [0xFF, char cause.code, char n] ++ chars3 began

/-- A withdraw-on link in R211's form: an absent one is code 0 and then FF FF, the model's choice (log entry 64). -/
def linkChars : Option Link → List Byte
  | none => [0, 0xFF, 0xFF]
  | some (.incident id) => chars1 1 ++ idChars id
  | some (.traction sec) => chars1 2 ++ sectionChars sec

/-- A message of a zone queue (R176, R177). The phrase count before the phrases and the 3 signed characters of the order number are the
model's choice (log entry 12). -/
def memberChars (z : Zone) (c : Chain) (m : Member) : List Byte :=
  chars2 m.id ++ [char z.code, char c.priority, char m.phrases.length] ++ m.phrases.flatMap chars2 ++ chars1 m.blocks
    ++ opt2 ((c.nextMember m.id).map (·.id)) ++ chars1 c.repeats ++ chars2 c.interval ++ opt3 c.notBefore ++ opt3 c.expiry
    ++ linkChars c.link ++ chars1 c.origin.code ++ opt1 (c.kind.map AutoKind.code) ++ chars1 m.attempts ++ signed3 c.order
    ++ chars1 (if c.place = .waiting then 0 else 1)

/-- The items of group ANNOUNCE (R205, R213); the next order number takes 3 signed characters, the model's choice (log entry 12). -/
def itemsAnnounce (b : Blocks) : List (List Byte) :=
  let a := b.announce
  [chars1 (flag a.mask) ++ chars2 a.lastMessageId ++ signed3 a.nextOrder] 
    ++ (a.numbered.map fun x => chars1 x.1 ++ channelChars x.2)
    ++ (allZones.map fun z => [char z.code, char (flag (a.faults.get z).fault), char (a.faults.get z).run])
    ++ allZones.flatMap fun z => (a.queues.get z).flatMap fun c => c.members.map (memberChars z c)

/-- SKIP, SEEK, FRAME (R44, R209). -/
def Assembly.code : Assembly → Nat
  | .skip => 0
  | .seek => 1
  | .frame _ => 2

def itemsPort (b : Blocks) : List (List Byte) :=
  let p := b.port
  [chars2 p.requestFrames ++ chars2 p.nakLength ++ chars2 p.nakCheck ++ chars2 p.nakChannel ++ chars2 p.nakKind
    ++ chars2 p.truncated ++ chars2 p.overrun ++ chars2 p.reportsDiscarded ++ chars2 p.answersSent ++ chars2 p.reportsSent
    ++ [char p.framer.code, char (if p.tx.isSome then 1 else 0), char p.answers.length, char p.reports.length, char p.discard]]

/-- The items of a group; `none` when the number names no group. -/
def statusItems (e : Env) (b : Blocks) : Nat → Option (List (List Byte))
  | 0 => some (itemsNode e b)
  | 1 => some (itemsConfig e)
  | 2 => some (itemsTime e)
  | 3 => some (itemsField b)
  | 4 => some (itemsLinebus b)
  | 5 => some (itemsPeers b)
  | 6 => some (itemsStarts b)
  | 7 => some (itemsTimetable b)
  | 8 => some (itemsStore b)
  | 9 => some (itemsAnnounce b)
  | 10 => some (itemsPort b)
  | _ => none

/-! ### READ PLATFORM (R88, R115) -/

/-- The dwell fields of R88; all ones while the platform is VACANT. Match outcome and skip count, which a REGULATED dwell alone has, are
all ones in a MANUAL one (log entry 57). -/
def dwellChars : Standing → List Byte
  | .vacant => List.replicate 28 0xFF
  | .occupied _ d =>
    chars1 (if d.mode = .regulated then 0 else 1) ++ chars2 d.trip ++ opt2 d.entry ++ opt1 (d.outcome.map fun o => outcomeCode (some o))
      ++ opt1 (d.outcome.map fun _ => d.skipped) ++ chars3 d.arrival ++ opt3 d.scheduled ++ opt3 d.target ++ optSigned3 d.deviation
      ++ [char (flag d.targetOver), char d.reasons.code, char (if d.staggerOpen then 0 else 1)] ++ opt3 d.staggerTime
      ++ chars1 (if d.followerAvailable then 0 else 1) ++ opt1 d.grace ++ chars1 (flag d.heldLong)

def amendmentChars : Option Amendment → List Byte
  | none => List.replicate 4 0xFF
  | some .cancel => chars1 amendKindCancel ++ [0xFF, 0xFF, 0xFF]
  | some (.change d) => chars1 amendKindChange ++ chars3 d

/-- The cursor entry as its trip and departure (R64); that the IN_USE entry is sent in the same way is the model's choice (log entry 12). -/
def entryChars (x : Option Entry) : List Byte := opt2 (x.map (·.trip)) ++ opt3 (x.map (·.departure))

def approachChars (a : Approach) : List Byte :=
  chars2 a.trip ++ chars3 a.upstream ++ [char a.source.code, char (flag a.stallRaised)] ++ optIdChars a.stallId

def platformItems (b : Blocks) (t : Track) : List (List Byte) :=
  let p := b.platforms.get t
  let l := b.timetable.sequences.get t
  [chars1 p.standing.state.code ++ dwellChars p.standing ++ departureChars p.lastDeparture ++ optIdChars p.delayId
      ++ chars1 (levelCode (b.field.filters.occupancy.get t).level),
    entryChars (cursor l) ++ entryChars (l.find? fun x => decide (x.state = .inUse)) ++ amendmentChars p.amendment]
    ++ (b.describer.get t).map approachChars

/-! ### READ POWER (R116, R130) -/

/-- A breaker's state with UNKNOWN for one whose state is absent (R116). -/
def stateCode (s : Option BreakerState) : Nat := (s.map BreakerState.code).getD 5

def commandChars : Option Condition → List Byte
  | some (.opening c) => [char c.count, char c.limit, char (flag c.passing)]
  | some (.closing c) => [char c.count, char c.limit, char (flag c.passing)]
  | _ => [0xFF, 0xFF, 0]

/-- A breaker record in the order of R116, and its pending close pulse (R116, R213). The character with the number of lockout ids before
the ids, and the flag that stands for the restore wait, whose fields have an item of their own, are the model's choice (log entry 12). -/
def breakerChars (b : Blocks) (br : Breaker) (r : BreakerRecord) : List Byte :=
  [char br.code, char (stateCode (r.condition.map Condition.state))] ++ opt1 (r.inputClosed.map fun c => if c then 0 else 1)
    ++ commandChars r.condition ++ chars1 r.lockout.length ++ r.lockout.flatMap idChars ++ chars1 (flag r.overlock)
    ++ optIdChars r.failId ++ [char (flag r.wait.isSome), char (flag (b.field.coils.get br).pendingClose)]

/-- A section record: the section, its own breaker and the far-end breaker, which stands at the section's other node, its state, and
the two inputs of the state (R127). -/
def sectionRecordChars (e : Env) (b : Blocks) (br : Breaker) (r : BreakerRecord) : List Byte :=
  sectionChars (e.fed br) ++ [char br.code, char br.far.code] ++ opt1 (r.sectionState.map SectionState.code)
    ++ [char (stateCode (b.breakerState br)), char (stateCode ((farReport e b br).map (·.1)))]

def farChars (e : Env) (b : Blocks) (br : Breaker) : List Byte :=
  let r := (b.peers.entry (e.farNode br)).reports.get br.far
  [char br.code, char (stateCode ((farReport e b br).map (·.1)))] ++ opt1 (r.map fun r => flag r.keyLocal)
    ++ opt1 ((r.bind (·.lockout)).map (·.count)) ++ opt1 ((r.bind (·.lockout)).map fun l => flag l.overlock)
    ++ opt1 (r.bind (·.reason)) ++ opt1 (r.map fun r => if r.byPower then 0 else 1)

def latchChars (t : Track) (l : Latch) : List Byte :=
  [char t.code, char (if l.isSet then 0 else 1)] ++ optIdChars l.id ++ chars1 l.ignored

/-- A restore wait: its breaker, source, named id and count (R130, R137). The requester's node number between source and id, which R137
does not list among the wait's fields, is the model's choice (log entry 12). -/
def waitChars (br : Breaker) (w : RestoreWait) : List Byte :=
  [char br.code, char (if w.fromPort then 0 else 1), char w.requester] ++ optIdChars w.id ++ chars1 w.count

def powerItems (e : Env) (b : Blocks) : List (List Byte) :=
  let held := allBreakers.filterMap fun br => (b.power.breakers.get br).map fun r => (br, r)
  held.map (fun x => breakerChars b x.1 x.2)
    ++ (held.filter fun x => x.2.sectionState.isSome).map (fun x => sectionRecordChars e b x.1 x.2)
    ++ held.map (fun x => farChars e b x.1) ++ allTracks.map (fun t => latchChars t (b.power.latches.get t))
    ++ held.filterMap fun x => x.2.wait.map (waitChars x.1)

/-! ### READ INCIDENTS (R165) -/

def incidentItems (b : Blocks) : List (List Byte) :=
  let i := b.incidents
  [char i.lastSerial, char (alarmCode i.alarm), char i.records.length, char i.localCount, char (i.records.length - i.localCount)]
    :: i.records.map Incident.fields

end Sys2Proof.Machine
end

