-- ==== Sys2Proof/Machine/NodeRequests.lean ====
section
/-! DEFINITION. The requests that move the node between its states: CONFIGURE, DAY START, DAY END and SERVICE RESET (R11 to R14),
and what each does to every block. -/

namespace Sys2Proof.Machine

/-- What a request answers: its status and the result fields that follow it (R212). -/
structure Reply where
  status : Status
  fields : List Byte
deriving DecidableEq, Repr

def Reply.plain (s : Status) : Reply := { status := s, fields := [] }

/-- The node once every change its inputs have accepted has reached its block, under the state that stands (R19; log entry 6). -/
def Node.delivered (n : Node) : Node := { env := n.env, blk := deliverAll n.env n.blk }

/-! ### Clamping (R218, R219) -/

/-- A value brought into a range. -/
def clamp (lo hi v : Nat) : Nat := min (max v lo) hi

/-- One platform's fields brought into their ranges; Wmax after its Wmin. -/
def PlatformConfig.clamped (c : PlatformConfig) : PlatformConfig :=
  let wmin := clamp 50 1200 c.wmin
  { wmin := wmin, wmax := clamp wmin 3000 c.wmax, rup := clamp 200 6000 c.rup, gain := clamp 0 8 c.gain
    stagger := clamp 0 300 c.stagger, ldelay := clamp 300 6000 c.ldelay, stallMargin := clamp 100 3000 c.stallMargin
    hdefault := clamp 600 6000 c.hdefault }

/-- The field numbers of a platform's fields that clamping changed, the first field being `first`. -/
def PlatformConfig.changed (c : PlatformConfig) (first : Nat) : List Nat :=
  let d := c.clamped
  ((List.range 8).zip
      [decide (c.wmin ≠ d.wmin), decide (c.wmax ≠ d.wmax), decide (c.rup ≠ d.rup), decide (c.gain ≠ d.gain),
        decide (c.stagger ≠ d.stagger), decide (c.ldelay ≠ d.ldelay), decide (c.stallMargin ≠ d.stallMargin),
        decide (c.hdefault ≠ d.hdefault)]).filterMap fun x => if x.2 then some (first + x.1) else none

/-- A template's phrases after its count has been brought into range (R218). -/
def RawTemplate.phrases (t : RawTemplate) : List Nat := t.slots.take (clamp 1 6 t.count)

/-- The configuration a CONFIGURE gives (R218, R219). -/
def RawConfig.held (r : RawConfig) : NodeConfig :=
  let template (i : Nat) : List Nat := (r.templates[i]?.map RawTemplate.phrases).getD []
  { nodeCount := r.nodeCount, timeLimit := clamp 5 100 r.timeLimit, occupancyFilter := clamp 1 15 r.occupancyFilter
    channelCount := clamp 1 3 r.channelCount, platforms := ⟨r.platforms.up.clamped, r.platforms.down.clamped⟩
    templates :=
      { approach := template 0, delay := template 1, suspend := template 2, evacuate := template 3, stalled := template 4
        held := template 5 }
    numberBase := clamp 0 4000 r.numberBase }

/-- The numbers of the fields that clamping changed, in field order (R219). -/
def RawConfig.changed (r : RawConfig) : List Nat :=
  (if r.timeLimit ≠ clamp 5 100 r.timeLimit then [2] else [])
    ++ (if r.occupancyFilter ≠ clamp 1 15 r.occupancyFilter then [3] else [])
    ++ (if r.channelCount ≠ clamp 1 3 r.channelCount then [4] else [])
    ++ r.platforms.up.changed 5 ++ r.platforms.down.changed 13
    ++ ((List.range 6).filterMap fun i =>
        (r.templates[i]?).bind fun t => if t.count ≠ clamp 1 6 t.count then some (21 + i) else none)
    ++ (if r.numberBase ≠ clamp 0 4000 r.numberBase then [27] else [])

/-! ### CONFIGURE (R4, R11, R20, R21, R49, R57, R117, R143, R166, R203, R220) -/

/-- A breaker that is no longer present: record, lines and filter (R4, R21, R24). -/
def discardBreaker (e : Env) (b : Blocks) (br : Breaker) : Blocks :=
  if e.present br then b
  else
    let b := b.setPower { b.power with breakers := b.power.breakers.set br none }
    setStatusFilter (b.setCoils br .rest) br .unsettled none

/-- A local record that the new line end closes or shortens (R117, R166 step 1). -/
def trimLocal (e : Env) (b : Blocks) (id : IncidentId) : Blocks :=
  match b.incidents.find id with
  | some r =>
    if r.isLocal ∧ e.lineCount < r.span.last + 2 then
      if e.lineCount < r.span.first + 2 then closeRecord e b r .configure
      else
        let b := b.modifyRecord id fun r =>
          { r.setItems (r.items.filter fun i => e.sectionInLine i.sec) with span := { r.span with last := e.lineCount - 2 } }
        reportIncident e (tellChange e b r.severity r.severity) .changed id
    else b
  | none => b

/-- Whether a copy names what the new line does not have (R166 step 2). -/
def outsideLine (e : Env) (r : Incident) : Bool :=
  !r.isLocal && (decide (e.lineCount ≤ r.id.origin) || decide (e.lineCount ≤ r.owner)
    || (r.adoptedFrom.map fun n => decide (e.lineCount ≤ n)).getD false || decide (e.lineCount < r.span.last + 2))

/-- A deferred first send (R143). -/
def deferredSend (e : Env) (b : Blocks) (x : IncidentId × TractionSection) : Blocks :=
  match b.item x.1 x.2 with
  | some i => if i.state = .pending ∧ i.sends = 0 then sendIsolate e b x.1 x.2 else b
  | none => b

/-- The announcements of incidents met before configuration (R203). -/
def offerStanding (e : Env) (b : Blocks) (r : Incident) : Blocks :=
  match r.kind with
  | .emergencyStop => if r.isLocal then offerEvacuate e b r else b
  | .delay => offerDelay e b r none
  | _ => b

/-- A CONFIGURE that is taken, at every block; `e` holds the new configuration in READY. Within each step of R166 the records are taken
in table order, which is the model's choice (log entry 54). -/
def applyConfigure (e : Env) (b : Blocks) : Blocks :=
  let b := [Breaker.uh, Breaker.dh].foldl (discardBreaker e) b
  let b := toldStarts e (trimPeers (restartOccupancy b) e.lineCount)
  let b := enableBus b
  let b := (incidentIds b).foldl (trimLocal e) b
  let b := ((b.incidents.records.filter (outsideLine e)).map (·.id)).foldl (removeCopy e) b
  let b := (allItems b).foldl (deferredSend e) b
  let b := ((b.incidents.records.filter Incident.isLocal).map (·.id)).foldl (fun b id => queueIncidentFrame e b id .raise none) b
  let b := createChannels b ((e.config.map (·.channelCount)).getD 0)
  let b := b.incidents.records.foldl (offerStanding e) b
  raiseStandingLost e b

/-- CONFIGURE in CONFIGURING (R11, R219). A press or breaker change accepted before a CONFIGURE that is taken is handled first, under
the provisional count (R11; log entry 6). -/
def configure (n : Node) (r : RawConfig) : Node × Reply :=
  if r.nodeCount < 2 ∨ 32 < r.nodeCount ∨ r.nodeCount ≤ n.env.nodeNumber then (n, .plain .range)
  else
    let e := { n.env with config := some r.held, nodeState := .ready }
    let changed := r.changed
    ({ env := e, blk := applyConfigure e n.delivered.blk },
      if changed.isEmpty then .plain .ok
      else { status := .clamped, fields := chars1 changed.length ++ changed.map char })

/-! ### DAY START (R12, R58, R113, R128) -/

/-- SUSPEND offered again for a section ahead that stands DEAD (R128). -/
def suspendAgain (e : Env) (b : Blocks) (t : Track) : Blocks :=
  match e.sectionAhead t with
  | some sec => if sectionDead e b sec then offerSuspend e b t sec else b
  | none => b

/-- The last departure of a platform becomes absent (R113). -/
def forgetDeparture (b : Blocks) (t : Track) : Blocks :=
  b.setPlatform t { b.platforms.get t with lastDeparture := none }

/-- DAY START in READY (R12). An overrun at the limit is reported first, and the UP platform's SUSPEND is offered before the DOWN
one's: the order is the model's choice (log entry 44). Those offers ask the store for blocks, as R128 and R201 have them made, though
R173 names no grant at a DAY START: the model's reading (log entry 61). -/
def dayStart (n : Node) (day start : Nat) : Node × Reply :=
  match n.blk.timetable.load with
  | .loaded =>
    if Config.serviceTimeMax < start then (n, .plain .range)
    else
      let atLimit := decide (Config.serviceTimeMax ≤ start)
      let e :=
        { n.env with nodeState := .service, time := { n.env.time with service := start, day := day, overrun := atLimit } }
      let b := if atLimit then queueReport e n.blk .dayOverrun else n.blk
      let b := b.setAnnounce (b.announce.markDue n.env.now start)
      let b := allTracks.foldl forgetDeparture b
      let b := allTracks.foldl (suspendAgain e) (emptyStarts e b)
      ({ env := e, blk := b }, .plain .ok)
  | .empty => (n, .plain .noTimetable)
  | .loading _ _ => (n, .plain .noTimetable)
  | .failed => (n, .plain .noTimetable)

/-! ### DAY END (R13, R86, R113, R167) -/

/-- A queue cleared, each entry's stall incident closing (R81, R86), head first, which is the model's choice (log entry 54). -/
def clearQueue (e : Env) (b : Blocks) (t : Track) : Blocks :=
  let q := b.describer.get t
  q.foldl (fun b a => closeOwned e b a.stallId .trainStalled) (b.setApproach t [])

/-- The kinds DAY END closes (R167). -/
def IncidentKind.endsWithDay : IncidentKind → Bool
  | .delay => true
  | .trainStalled => true
  | .descriptionError => true
  | .emergencyStop => false
  | .sectionTrip => false
  | .breakerFail => false
  | .uncommandedClose => false
  | .departedUnreleased => false
  | .nodeLost => false
  | .operator => false

/-- The DELAY id of a platform is cleared (R113). -/
def forgetDelay (b : Blocks) (t : Track) : Blocks := b.setPlatform t { b.platforms.get t with delayId := none }

/-- DAY END in SERVICE (R13). An occupancy rise or fall accepted first is met first, in SERVICE (log entry 6). The UP queue is cleared
before the DOWN one: the order is the model's choice (log entry 44). -/
def dayEnd (n : Node) : Node × Reply :=
  let n := n.delivered
  if n.blk.platforms.up.standing = .vacant ∧ n.blk.platforms.down.standing = .vacant then
    let e := { n.env with nodeState := .ready }
    let b := emptyTimetable n.blk .empty
    let b := allTracks.foldl (clearQueue e) b
    let b := closeWhere e b (fun r => r.kind.endsWithDay) .dayEnd
    ({ env := e, blk := allTracks.foldl forgetDelay b }, .plain .ok)
  else (n, .plain .platformBusy)

/-! ### SERVICE RESET (R14, R20, R49, R62, R87, R114, R144, R167, R204) -/

/-- A platform at SERVICE RESET (R114). -/
def resetPlatform (b : Blocks) (t : Track) : Blocks := (b.setPlatform t .atReset).setStarter t false

/-- A FAILED breaker at SERVICE RESET, before the local ids leave (R144). -/
def resetFailed (e : Env) (b : Blocks) (br : Breaker) : Blocks :=
  match b.power.breakers.get br with
  | some r =>
    if r.condition = some .failed then
      let b := modifyBreaker b br fun r => { r with failId := none }
      setCondition e b br (if r.inputClosed = some true then .closed else .opened) (some .followInput)
    else b
  | none => b

/-- A SERVICE RESET that is taken, at every block; `e` is already in READY. -/
def applyReset (e : Env) (b : Blocks) : Blocks :=
  let b := emptyTimetable b .empty
  let b := allTracks.foldl (fun b t => b.setApproach t []) b
  let b := resetAnnouncer e b
  let b := restartOccupancy (allTracks.foldl resetPlatform b)
  let b := removeFrames b
  let b := allBreakers.foldl clearWait b
  let failed := allBreakers.filter fun br => decide (b.condition br = some .failed)
  let b := allBreakers.foldl (resetFailed e) b
  let b := b.setPeers { b.peers with lostLow := none, lostHigh := none }
  let b := closeWhere e b (fun _ => true) .reset
  let b := failed.foldl (openIfLocked e) b
  raiseStandingLost e b

/-- SERVICE RESET in READY or SERVICE (R14). A press accepted first has set its latch when the reset is checked, and a breaker change
accepted first has reached its breaker, whose FAILED state then takes the filtered level (R21; log entry 6). -/
def serviceReset (n : Node) : Node × Reply :=
  let n := n.delivered
  if n.blk.power.latches.up.isSet ∨ n.blk.power.latches.down.isSet then (n, .plain .estopActive)
  else
    let e := { n.env with nodeState := .ready }
    ({ env := e, blk := applyReset e n.blk }, .plain .ok)

end Sys2Proof.Machine
end

