-- ==== Sys2Proof/Machine/Port.lean ====
section
/-! DEFINITION. The Station Port's events: the framer, NAKs, the transmitter, and the flow of one request from its frame to its
answer (R209 to R214). -/

namespace Sys2Proof.Machine

/-! ### The framer (R209) -/

/-- The framer after the characters taken since the command before: in SEEK it passes over what is not a start. -/
def Assembly.portFeed (a : Assembly) (heard : List Byte) : Assembly :=
  match a with
  | .skip => .skip
  | .seek =>
    match heard.dropWhile fun c => decide (c ≠ Config.portStart) with
    | [] => .seek
    | c :: rest => .frame (c :: rest)
  | .frame taken => .frame (taken ++ heard)

/-- Whether a frame in assembly still waits for a character: its length is not above 96 and its check is not whole. Characters that
bring more than that have come with the frame's own command, or with its NAK, and are no occasion here (log entry 2). -/
def Assembly.unfinished : Assembly → Bool
  | .skip => true
  | .seek => true
  | .frame (_start :: len :: rest) => decide (len.toNat ≤ Config.portPayloadMax ∧ rest.length < len.toNat + 5)
  | .frame _ => true

def setFramer (b : Blocks) (a : Assembly) (quiet : Nat) : Blocks := b.setPort { b.port with framer := a, quietTime := quiet }

/-- A truncation is counted (R209, R222). -/
def countPortTruncated (b : Blocks) : Blocks := b.setPort { b.port with truncated := countUp Config.counterMax b.port.truncated }

/-- Quiet time on SPRX (R206, R209). -/
def portGap (b : Blocks) (heard : List Byte) (quiet : Nat) : Blocks :=
  let framer := b.port.framer.portFeed heard
  if !framer.unfinished then b
  else if quiet < Config.frameGapUs then setFramer b framer quiet
  else
    match framer with
    | .skip => setFramer b .seek quiet
    | .seek => setFramer b .seek quiet
    | .frame _ => countPortTruncated (setFramer b .seek quiet)

/-- A character error on SPRX (R209). -/
def portError (b : Blocks) (heard : List Byte) : Blocks :=
  let framer := b.port.framer.portFeed heard
  if !framer.unfinished then b
  else
    match framer with
    | .skip => setFramer b .skip 0
    | .seek => setFramer b .seek 0
    | .frame _ => countPortTruncated (setFramer b .skip 0)

/-! ### Answers and NAKs (R210, R212) -/

/-- The four NAK codes (R210). -/
inductive NakCode where
  | length
  | check
  | channel
  | kind
deriving DecidableEq, Repr

def NakCode.code : NakCode → Nat
  | .length => 1
  | .check => 2
  | .channel => 3
  | .kind => 4

/-- A NAK condition raises its counter (R210, R222). -/
def Port.countNak (p : Port) : NakCode → Port
  | .length => { p with nakLength := countUp Config.counterMax p.nakLength }
  | .check => { p with nakCheck := countUp Config.counterMax p.nakCheck }
  | .channel => { p with nakChannel := countUp Config.counterMax p.nakChannel }
  | .kind => { p with nakKind := countUp Config.counterMax p.nakKind }

/-- Whether the answer queue has no room (R211). -/
def Port.answersFull (p : Port) : Bool := Config.answerMax ≤ p.answers.length

def Port.countOverrun (p : Port) : Port := { p with overrun := countUp Config.counterMax p.overrun }

/-- A NAK: counted always, queued where there is room (R210). -/
def Port.nak (p : Port) (code : NakCode) (channel kind tag : Byte) : Port :=
  let p := p.countNak code
  if p.answersFull then p.countOverrun
  else p.pushAnswer { isNak := true, channel := char PortChannel.node.code, tag := tag, payload := [char code.code, channel, kind] }

/-- A length character above 96 (R210). -/
def portLength (b : Blocks) (len : Byte) : Blocks :=
  if b.port.framer.accepts [Config.portStart, len] && decide (Config.portPayloadMax < len.toNat) then
    let b := setFramer b .skip 0
    b.setPort (b.port.nak .length 0 0 0)
  else b

/-- The point a complete frame fails, if it fails one (R210). -/
def nakPoint (channel kind tag : Byte) (payload : List Byte) (check : Check) : Option NakCode :=
  if check ≠ crc (portBody channel kind tag payload) then some .check
  else if channel.toNat < 1 ∨ 6 < channel.toNat then some .channel
  else if kind.toNat < 1 ∨ requestKinds channel.toNat < kind.toNat then some .kind
  else none

/-- A complete frame that fails (R210); a frame that fails no point is no occasion of this step. -/
def portNak (b : Blocks) (channel kind tag : Byte) (payload : List Byte) (check : Check) : Blocks :=
  if b.port.framer.accepts (portChars channel kind tag payload check) && decide (payload.length ≤ Config.portPayloadMax) then
    match nakPoint channel kind tag payload check with
    | some code =>
      let b := setFramer b .seek 0
      b.setPort (b.port.nak code channel kind tag)
    | none => b
  else b

/-! ### The transmitter (R214, R222) -/

/-- The frame on SPTX has been sent whole. -/
def Port.countSent (p : Port) : PortOut → Port
  | .answer _ => { p with answersSent := countUp Config.counterMax p.answersSent }
  | .report _ _ => { p with reportsSent := countUp Config.counterMax p.reportsSent }

/-- The next frame: the oldest answer, else the oldest report, else IDLE (R214). -/
def Port.takeNext (p : Port) : Port :=
  match p.answers with
  | f :: rest => { p with tx := some (.answer f), answers := rest }
  | [] =>
    match p.reports with
    | r :: rest => { p with reports := rest }.takeReport r
    | [] => { p with tx := none }

/-- The last character of a frame leaves SPTX (R214). -/
def portEnd (b : Blocks) : Blocks :=
  match b.port.tx with
  | some out => b.setPort (b.port.countSent out).takeNext
  | none => b

/-! ### A request (R10, R211) -/

/-- The node states in which a request is passed to its owner (R10). -/
inductive Allowed where
  | always
  | configured
  | configuringOnly
  | readyOnly
  | serviceOnly
deriving DecidableEq, Repr

def Allowed.permits (a : Allowed) (s : NodeState) : Bool :=
  match a, s with
  | .always, _ => true
  | .configured, .configuring => false
  | .configured, .ready => true
  | .configured, .service => true
  | .configuringOnly, .configuring => true
  | .configuringOnly, .ready => false
  | .configuringOnly, .service => false
  | .readyOnly, .configuring => false
  | .readyOnly, .ready => true
  | .readyOnly, .service => false
  | .serviceOnly, .configuring => false
  | .serviceOnly, .ready => false
  | .serviceOnly, .service => true

/-- The answer frame of a reply (R212). -/
def answerFrame (channel : PortChannel) (tag : Byte) (r : Reply) : AnswerFrame :=
  { isNak := false, channel := char channel.code, tag := tag, payload := char r.status.code :: r.fields }

/-- The answer is queued (R211, step 5). -/
def queueAnswer (n : Node) (channel : PortChannel) (tag : Byte) (r : Reply) : Node :=
  { n with blk := n.blk.setPort (n.blk.port.pushAnswer (answerFrame channel tag r)) }

/-- Steps 2 to 4: shape, node state, owner (R211). -/
def dispatch (n : Node) (shape : Bool) (a : Allowed) (owner : Node → Node × Reply) : Node × Reply :=
  if !shape then (n, .plain .range)
  else if !a.permits n.env.nodeState then (n, .plain .state)
  else owner n

/-- Whether the framer takes a request frame whole (R209, R210). -/
def takesRequest (p : Port) (channel kind tag : Byte) (payload : List Byte) : Bool :=
  p.framer.accepts (portChars channel kind tag payload (crc (portBody channel kind tag payload)))
    && decide (payload.length ≤ Config.portPayloadMax)

/-- The port when a request frame has completed (R209, R222). -/
def Port.completed (p : Port) : Port :=
  { p with framer := .seek, quietTime := 0, requestFrames := countUp Config.counterMax p.requestFrames }

/-- A request frame at the port (R211). -/
def request (n : Node) (channel : PortChannel) (kind : Nat) (tag : Byte) (payload : List Byte) (shape : Bool) (a : Allowed)
    (owner : Node → Node × Reply) : Node :=
  if takesRequest n.blk.port (char channel.code) (char kind) tag payload then
    let n := { n with blk := n.blk.setPort n.blk.port.completed }
    if n.blk.port.answersFull then
      { n with
        blk := queueReport n.env (n.blk.setPort n.blk.port.countOverrun)
          (.requestOverrun (char channel.code) (char kind) tag) }
    else
      let x := dispatch n shape a owner
      queueAnswer x.1 channel tag x.2
  else n

/-- An owner that acts on the blocks alone and answers a status. -/
def plainOwner (f : Env → Blocks → Blocks × Status) (n : Node) : Node × Reply :=
  let x := f n.env n.blk
  ({ n with blk := x.1 }, .plain x.2)

/-- An owner that answers result fields too. -/
def fieldOwner (f : Env → Blocks → Blocks × Reply) (n : Node) : Node × Reply :=
  let x := f n.env n.blk
  ({ n with blk := x.1 }, x.2)

end Sys2Proof.Machine
end

