-- ==== Sys2Proof/Machine/Requests.lean ====
section
/-! DEFINITION. The owners of the station port's requests that no other file holds, and the fields each reads from its payload
(R103 to R105, R150, R164, R190, R192, R194 to R196, R213). -/

namespace Sys2Proof.Machine

/-! ### Shared forms -/

/-- A request whose owner may refuse a track outside UP and DOWN with RANGE. -/
def onTrack (b : Blocks) (code : Nat) (f : Track → Blocks × Status) : Blocks × Status :=
  match Track.ofCode code with
  | some t => f t
  | none => (b, .range)

/-- The answer of a READ: OK with a page, or RANGE where nothing has that number (R213). -/
def pageReply (group first : Nat) (items : Option (List (List Byte))) : Reply :=
  match items with
  | some l => { status := .ok, fields := page group first l }
  | none => .plain .range

/-- A timetable part's answer (R212). -/
def ownPart (p : PartRequest) (b : Blocks) : Blocks × Reply :=
  let x := takePart b p
  (x.1, { status := x.2.1, fields := x.2.2 })

/-! ### ALARM ACK (R164) -/

/-- The alarm state becomes OFF. -/
def ackAlarm (b : Blocks) : Blocks × Status := (setAlarm b false, .ok)

/-! ### RESTORE's FORCE character (R134; log entry 11) -/

/-- A FORCE that is neither of its two values is met with RANGE; the two are 0 and 1. -/
def ownRestore (e : Env) (b : Blocks) (sec : Option TractionSection) (id : Option IncidentId) (force : Nat) : Blocks × Status :=
  if 1 < force then (b, .range) else restoreRequest e b sec id (force = 1)

/-! ### RAISE (R150) -/

/-- The optional platform of a RAISE, as node and track: `none` for a value outside its range. -/
def raisePlatform (e : Env) (p : List Byte) : Option (Option PlatformRef) :=
  parseOpt (fieldOpt p 4 2).isNone
    (match Track.ofCode (field p 5 1) with
      | some t => keep (field p 4 1 < e.lineCount) { node := field p 4 1, track := t }
      | none => none)

/-- The optional trip of a RAISE. -/
def raiseTrip (p : List Byte) : Option (Option Nat) :=
  parseOpt (fieldOpt p 6 2).isNone (keep (1 ≤ field p 6 2 ∧ field p 6 2 ≤ 9999) (field p 6 2))

/-- What a RAISE asks for, when every value lies in its range. -/
def readRaise (e : Env) (p : List Byte) : Option Raise :=
  match TrackSet.ofCode (field p 1 1), raisePlatform e p, raiseTrip p with
  | some tracks, some platform, some trip =>
    keep (decide (1 ≤ field p 0 1 ∧ field p 0 1 ≤ 3) && decide (field p 2 1 ≤ field p 3 1) && decide (field p 3 1 + 2 ≤ e.lineCount))
      { kind := .operator, severity := field p 0 1, span := { tracks := tracks, first := field p 2 1, last := field p 3 1 }
        platform := platform, trip := trip }
  | _, _, _ => none

/-- RAISE in READY and SERVICE. -/
def raiseRequest (e : Env) (b : Blocks) (x : Option Raise) : Blocks × Reply :=
  match x with
  | none => (b, .plain .range)
  | some x =>
    match raiseIncident e b x none with
    | (b, some id) => (b, { status := .ok, fields := idChars id })
    | (b, none) => (b, .plain .full)

/-! ### ANNOUNCE (R195, R196) -/

/-- The link a request asks for: `none` for a value outside its range (R195). An incident id has no range of its own here, so one of
serial 0 or of an origin outside the line is sought in the table, and is answered UNKNOWN_ID: the model's choice (log entry 64). -/
def requestLink (e : Env) : LinkField → Option (Option Link)
  | .absent => some none
  | .incident id => some (some (.incident id))
  | .traction (some sec) => if e.sectionInLine sec then some (some (.traction sec)) else none
  | .traction none => none
  | .bad => none

/-- The target node range of a request: `none` for one outside its range, or on a request that may carry none. -/
def requestRange (x : AnnounceRequest) : Option (Option (Nat × Nat)) :=
  match x.first, x.last with
  | none, none => some none
  | some f, some l => keep (decide (f ≤ l) && decide (l ≤ 31) && decide (x.members.length = 1) && decide (x.link = .absent)) (some (f, l))
  | _, _ => none

/-- The values of a request that lie in ranges of their own. -/
def requestValues (e : Env) (x : AnnounceRequest) : Bool :=
  decide (x.priority ≤ 7) && decide (x.repeats ≤ 15) && decide (50 ≤ x.interval ∧ x.interval ≤ 6000)
    && ((x.notBefore.map fun n => decide (n ≤ Config.serviceTimeMax)).getD true)
    && ((x.expiry.map fun n => decide (n ≤ Config.serviceTimeMax)).getD true) && !e.passed x.expiry
    && x.members.all (fun m => m.all fun v => decide (v ≤ 4095)) && decide ((x.members.map List.length).sum ≤ 36)

/-- A request whose values all lie in their ranges: its zones, its link and its target range. -/
structure AnnounceOrder where
  zones : ZoneSet
  link : Option Link
  range : Option (Nat × Nat)
deriving DecidableEq, Repr

def announceOrder (e : Env) (x : AnnounceRequest) : Option AnnounceOrder :=
  match ZoneSet.ofCode x.zones, requestLink e x.link, requestRange x with
  | some zones, some link, some range => keep (requestValues e x) { zones := zones, link := link, range := range }
  | _, _, _ => none

/-- The operator chain of one zone (R195). -/
def operatorOffer (x : AnnounceRequest) (link : Option Link) (z : Zone) : Offer :=
  { zone := z, priority := x.priority, repeats := x.repeats, interval := x.interval, notBefore := x.notBefore
    expiry := x.expiry, link := link, origin := .operator, kind := none, members := x.members }

/-- The result of one zone: cause and head message id (R212). -/
def admissionChars : Admission → List Byte
  | .admitted head => chars1 0 ++ chars2 head
  | .refused .store => chars1 1 ++ chars2 0
  | .refused _ => chars1 2 ++ chars2 0
  | .notMade => chars1 2 ++ chars2 0

def Admission.made : Admission → Bool
  | .admitted _ => true
  | .refused _ => false
  | .notMade => false

/-- One zone's chain offered, its outcome added to those before it. -/
def offerZone (e : Env) (x : AnnounceRequest) (link : Option Link) (acc : Blocks × List Admission) (z : Zone) :
    Blocks × List Admission :=
  let y := admitChain e acc.1 (operatorOffer x link z)
  (y.1, acc.2 ++ [y.2])

/-- The chains of a request, in zone order, with its answer (R195). -/
def admitZones (e : Env) (b : Blocks) (x : AnnounceRequest) (a : AnnounceOrder) : Blocks × Reply :=
  let y := a.zones.zones.foldl (offerZone e x a.link) (b, [])
  (y.1, { status := if y.2.any Admission.made then .ok else .full, fields := y.2.flatMap admissionChars })

/-- The frame a request with a target range sends (R196). -/
def announceFrameOf (x : AnnounceRequest) (a : AnnounceOrder) (range : Nat × Nat) : Frame :=
  .announce
    { first := range.1, last := range.2, zones := a.zones, priority := x.priority, repeats := x.repeats
      interval := x.interval, phrases := x.members.flatten }

/-- Whether a linked incident is missing from the table (R195). -/
def linkUnknown (b : Blocks) : Option Link → Bool
  | some (.incident id) => (b.incidents.find id).isNone
  | some (.traction _) => false
  | none => false

/-- ANNOUNCE in READY and SERVICE (R195, R196). Where both refusals apply RANGE answers: the model's choice (log entry 56). -/
def announceRequest (e : Env) (b : Blocks) (x : AnnounceRequest) : Blocks × Reply :=
  match announceOrder e x with
  | none => (b, .plain .range)
  | some a =>
    if linkUnknown b a.link then (b, .plain .unknownId)
    else
      match a.range with
      | none => admitZones e b x a
      | some range =>
        let b := queueFrame e b (announceFrameOf x a range)
        if range.1 ≤ e.nodeNumber ∧ e.nodeNumber ≤ range.2 then admitZones e b x a else (b, .plain .ok)

/-! ### WITHDRAW (R194) -/

/-- The chain that holds a message is withdrawn whole. -/
def withdrawRequest (e : Env) (b : Blocks) (message : Nat) : Blocks × Status :=
  match b.announce.findMessage message with
  | some (z, c) => (arbiterIfLifted e b (withdrawOne e b z c), .ok)
  | none => (b, .unknownId)

/-! ### The station computer's answers to PLAY and STOP (R192) -/

/-- The channel an audio request names: `none` outside 1 to C. -/
def audioChannel (b : Blocks) (i : Nat) : Option Channel := b.announce.channel i

/-- AUDIO DONE. -/
def audioDoneRequest (e : Env) (b : Blocks) (i message : Nat) : Blocks × Status :=
  match audioChannel b i with
  | none => (b, .range)
  | some (.playing z m _ began) => if m = message then (completePlay e b i z m began, .ok) else (b, .state)
  | some (.stopping z m cause _ _) => if m = message then (completeStop e b i z m cause true, .ok) else (b, .state)
  | some .idle => (b, .state)

/-- AUDIO FAILED. -/
def audioFailedRequest (e : Env) (b : Blocks) (i message : Nat) : Blocks × Status :=
  match audioChannel b i with
  | none => (b, .range)
  | some (.playing z m _ _) => if m = message then (failPlay e b i z m, .ok) else (b, .state)
  | some (.stopping z m cause _ _) => if m = message then (completeStop e b i z m cause false, .ok) else (b, .state)
  | some .idle => (b, .state)

/-- AUDIO STOPPED. -/
def audioStoppedRequest (e : Env) (b : Blocks) (i message : Nat) : Blocks × Status :=
  match audioChannel b i with
  | none => (b, .range)
  | some (.stopping z m cause _ _) => if m = message then (completeStop e b i z m cause false, .ok) else (b, .state)
  | some (.playing _ _ _ _) => (b, .state)
  | some .idle => (b, .state)

/-! ### AUDIO RESET (R190) -/

/-- The zone becomes NORMAL; one that was in FAULT is reported and the arbiter runs. -/
def audioResetRequest (e : Env) (b : Blocks) (zone : Nat) : Blocks × Status :=
  match Zone.ofCode zone with
  | none => (b, .range)
  | some z =>
    let cleared := b.setAnnounce { b.announce with faults := b.announce.faults.set z { fault := false, run := 0 } }
    if (b.announce.faults.get z).fault then (arbiter e (queueReport e cleared (.zoneFaultEnded z)), .ok) else (cleared, .ok)

end Sys2Proof.Machine
end

