-- ==== Sys2Proof/Machine/Steps.lean ====
section
/-! DEFINITION. How a command's effect on the node becomes an effect on the state: the queue of waiting commands stays as it is. -/

namespace Sys2Proof.Machine

/-- An effect on the whole node. -/
def State.onNode (s : State) (f : Node → Node) : State := { s with node := f s.node }

/-- An effect on the blocks under the `Env` that stands. -/
def State.onBlocks (s : State) (f : Env → Blocks → Blocks) : State :=
  { s with node := { s.node with blk := f s.node.env s.node.blk } }

/-- A command that completes. -/
def done (s : State) : Host.Outcome State Fault Refusal := .next s

end Sys2Proof.Machine
end

