-- ==== Sys2Proof/Machine/BusCommands.lean ====
section
/-! DEFINITION. The commands of the linebus: the transmitter's attempts, the receive assembly and the frames of other nodes. -/

namespace Sys2Proof.Machine

/-- A first attempt begins (R35). -/
def execAttemptBegin (idle : Nat) (s : State) : Host.Outcome State Fault Refusal :=
  done (s.onBlocks fun e b => attemptBegin e b idle)

/-- The wait of BACKOFF is over (R37). -/
def execBackoffRetry (idle : Nat) (s : State) : Host.Outcome State Fault Refusal :=
  done (s.onBlocks fun e b => backoffRetry e b idle)

/-- A collision stops the attempt (R36, R38). -/
def execCollision (cause : CollisionCause) (heard : List Byte) (s : State) : Host.Outcome State Fault Refusal :=
  done (s.onBlocks fun e b => collide e b cause heard)

/-- The last check character is read back (R36). -/
def execFrameSent (s : State) : Host.Outcome State Fault Refusal := done (s.onBlocks fun e b => frameSent e b)

/-- A STATUS point (R42). -/
def execStatusPoint (s : State) : Host.Outcome State Fault Refusal := done (s.onBlocks fun e b => statusStep e b)

/-- The line falls idle (R44). -/
def execLineIdle (heard : List Byte) (idle : Nat) (s : State) : Host.Outcome State Fault Refusal :=
  done (s.onBlocks fun e b => lineIdle e b heard idle)

/-- A character error at the assembly (R44). -/
def execLinebusCharacterError (heard : List Byte) (s : State) : Host.Outcome State Fault Refusal :=
  done (s.onBlocks fun e b => characterError e b heard)

/-- A length character above 48 (R44). -/
def execLinebusLengthError (source cls len : Byte) (s : State) : Host.Outcome State Fault Refusal :=
  done (s.onBlocks fun e b => lengthError e b source cls len)

/-- A complete frame fails a check (R45). -/
def execLinebusFrameDiscarded (source cls : Byte) (payload : List Byte) (check : Check) (s : State) : Host.Outcome State Fault Refusal :=
  done (s.onBlocks fun e b => discardFrame e b source cls payload check)

/-- The pending frame-error report falls due (R45). -/
def execFrameErrorReport (s : State) : Host.Outcome State Fault Refusal := done (s.onBlocks fun e b => errorReportStep e b)

/-- A valid foreign STATUS frame (R53). -/
def execStatusFrame (source : Byte) (payload : List Byte) (s : State) : Host.Outcome State Fault Refusal :=
  done (s.onBlocks fun e b => receiveFrame e b source .status payload)

/-- A valid foreign POWER frame (R54). -/
def execPowerFrame (source : Byte) (payload : List Byte) (s : State) : Host.Outcome State Fault Refusal :=
  done (s.onBlocks fun e b => receiveFrame e b source .power payload)

/-- A valid foreign ISOLATE frame (R133). -/
def execIsolateFrame (source : Byte) (payload : List Byte) (s : State) : Host.Outcome State Fault Refusal :=
  done (s.onBlocks fun e b => receiveFrame e b source .isolate payload)

/-- A valid foreign RESTORE frame (R135, R136). -/
def execRestoreFrame (source : Byte) (payload : List Byte) (s : State) : Host.Outcome State Fault Refusal :=
  done (s.onBlocks fun e b => receiveFrame e b source .restore payload)

/-- A valid foreign INCIDENT frame (R157). -/
def execIncidentFrame (source : Byte) (payload : List Byte) (s : State) : Host.Outcome State Fault Refusal :=
  done (s.onBlocks fun e b => receiveFrame e b source .incident payload)

/-- A valid foreign DEPART frame (R76). -/
def execDepartFrame (source : Byte) (payload : List Byte) (s : State) : Host.Outcome State Fault Refusal :=
  done (s.onBlocks fun e b => receiveFrame e b source .depart payload)

/-- A valid foreign ANNOUNCE frame (R202). -/
def execAnnounceFrame (source : Byte) (payload : List Byte) (s : State) : Host.Outcome State Fault Refusal :=
  done (s.onBlocks fun e b => receiveFrame e b source .announce payload)

/-- A character other than the start met in SEEK (R44). -/
def execLinebusOtherCharacter (char : Option Byte) (s : State) : Host.Outcome State Fault Refusal :=
  done (s.onBlocks fun _ b => otherCharacter b char)

end Sys2Proof.Machine
end

