-- ==== Sys2Proof/Machine/FieldCommands.lean ====
section
/-! DEFINITION. The commands of the reset, the Time Base and the field lines. -/

namespace Sys2Proof.Machine

/-- Power-on reset with straps that read `straps` (R10, R23). The queue of waiting commands is outside the part (log entry 38). -/
def execPowerOnReset (straps : BitVec 5) (s : State) : Host.Outcome State Fault Refusal :=
  done (s.onNode fun _ => Node.atReset straps.toNat)

/-- An accepted clock pulse (R6). -/
def execClockPulse (sincePulseMs : Nat) (s : State) : Host.Outcome State Fault Refusal :=
  done (s.onNode fun n => clockPulse n sincePulseMs)

/-- No pulse came in time (R7). -/
def execPulseTimeout (s : State) : Host.Outcome State Fault Refusal := done (s.onNode fun n => pulseTimeout n)

/-- An advance of the holdover oscillator (R7). -/
def execOscillatorAdvance (s : State) : Host.Outcome State Fault Refusal := done (s.onNode fun n => oscillatorAdvance n)

/-- The accepted occupancy rise, or settlement ACTIVE, of a platform is delivered (R16, R90). -/
def execOccupancyRise (t : Track) (s : State) : Host.Outcome State Fault Refusal :=
  done (s.onBlocks fun e b => occupancyRise e b t)

/-- The accepted occupancy fall of a platform is delivered (R16, R107). -/
def execDeparture (t : Track) (s : State) : Host.Outcome State Fault Refusal := done (s.onBlocks fun e b => occupancyFall e b t)

/-- The accepted press of a plunger is delivered (R16, R139). -/
def execPlungerPress (t : Track) (s : State) : Host.Outcome State Fault Refusal := done (s.onBlocks fun e b => plungerRise e b t)

/-- The accepted release of a plunger is delivered (R16, R140). -/
def execPlungerRelease (t : Track) (s : State) : Host.Outcome State Fault Refusal :=
  done (s.onBlocks fun e b => plungerFall e b t)

/-- The settlement of a breaker's status input is delivered (R17, R117). -/
def execBreakerSettlement (br : Breaker) (isClosed : Bool) (s : State) : Host.Outcome State Fault Refusal :=
  done (s.onBlocks fun e b => breakerSettles e b br isClosed)

/-- The accepted change of a breaker's status input is delivered (R16, R120). -/
def execBreakerStatusChange (br : Breaker) (isClosed : Bool) (s : State) : Host.Outcome State Fault Refusal :=
  done (s.onBlocks fun e b => breakerMoves e b br isClosed)

/-- The settlement or change of the LOCAL key is delivered (R16, R17, R142). -/
def execLocalKeyChange (isSet : Bool) (s : State) : Host.Outcome State Fault Refusal :=
  done (s.onBlocks fun e b => keyMoves e b isSet)

/-- A coil pulse ends by itself (R24, R25). -/
def execPulseEnd (br : Breaker) (s : State) : Host.Outcome State Fault Refusal := done (s.onBlocks fun _ b => endPulse b br)

/-- The third advance after an open command that overtook a close (R120). -/
def execThirdAdvanceOpen (br : Breaker) (s : State) : Host.Outcome State Fault Refusal :=
  done (s.onBlocks fun e b => thirdStep e b br)

/-- A command's count reaches its time limit (R121). -/
def execBreakerTimeLimit (br : Breaker) (s : State) : Host.Outcome State Fault Refusal :=
  done (s.onBlocks fun e b => limitStep e b br)

/-- An isolation item's repeat count reaches 20 (R132). -/
def execIsolateRepeat (id : IncidentId) (sec : TractionSection) (s : State) : Host.Outcome State Fault Refusal :=
  done (s.onBlocks fun e b => repeatStep e b id sec)

/-- A restore wait has lasted its time (R138). -/
def execRestoreWaitTimeout (br : Breaker) (s : State) : Host.Outcome State Fault Refusal :=
  done (s.onBlocks fun e b => waitStep e b br)

/-- A sampling point of all inputs (R15). -/
def execSamplingPoint (levels : InputLevels) (s : State) : Host.Outcome State Fault Refusal :=
  done (s.onBlocks fun e b => samplingPoint e b levels)

end Sys2Proof.Machine
end

