-- ==== Sys2Proof/Machine/PortCommands.lean ====
section
/-! DEFINITION. The commands of the station port: its events on the two pins, and the requests with their shapes, the node states that
take them and their owners (R10, R211). -/

namespace Sys2Proof.Machine

/-- The quiet time on SPRX reaches the frame gap (R209). -/
def execPortFrameGap (heard : List Byte) (quietUs : Nat) (s : State) : Host.Outcome State Fault Refusal :=
  done (s.onBlocks fun _ b => portGap b heard quietUs)

/-- A character error on SPRX (R209). -/
def execPortCharacterError (heard : List Byte) (s : State) : Host.Outcome State Fault Refusal :=
  done (s.onBlocks fun _ b => portError b heard)

/-- A length character above 96 (R210). -/
def execPortLengthError (len : Byte) (s : State) : Host.Outcome State Fault Refusal :=
  done (s.onBlocks fun _ b => portLength b len)

/-- A complete frame fails a point (R210). -/
def execNak (channel kind tag : Byte) (payload : List Byte) (check : Check) (s : State) : Host.Outcome State Fault Refusal :=
  done (s.onBlocks fun _ b => portNak b channel kind tag payload check)

/-- The last character of a port frame is sent (R214). -/
def execPortFrameEnd (s : State) : Host.Outcome State Fault Refusal := done (s.onBlocks fun _ b => portEnd b)

/-- CONFIGURE (R11). -/
def execConfigure (tag : Byte) (payload : List Byte) (s : State) : Host.Outcome State Fault Refusal :=
  done (s.onNode fun n => request n .node 1 tag payload (payload.length = 96) .configuringOnly (configure · (readConfig payload)))

/-- DAY START (R12). -/
def execDayStart (tag : Byte) (payload : List Byte) (s : State) : Host.Outcome State Fault Refusal :=
  done (s.onNode fun n => request n .node 2 tag payload (payload.length = 5) .readyOnly (dayStart · (field payload 0 2) (field payload 2 3)))

/-- DAY END (R13). -/
def execDayEnd (tag : Byte) (payload : List Byte) (s : State) : Host.Outcome State Fault Refusal :=
  done (s.onNode fun n => request n .node 3 tag payload (payload.length = 0) .serviceOnly dayEnd)

/-- SERVICE RESET (R14). -/
def execServiceReset (tag : Byte) (payload : List Byte) (s : State) : Host.Outcome State Fault Refusal :=
  done (s.onNode fun n => request n .node 4 tag payload (payload.length = 0) .configured serviceReset)

/-- READ STATUS (R213). -/
def execReadStatus (tag : Byte) (payload : List Byte) (s : State) : Host.Outcome State Fault Refusal :=
  done (s.onNode fun n => request n .node 5 tag payload (payload.length = 2) .always (fieldOwner fun e b => (b, pageReply (field payload 0 1) (field payload 1 1) (statusItems e b (field payload 0 1)))))

/-- ALARM ACK (R164). -/
def execAlarmAck (tag : Byte) (payload : List Byte) (s : State) : Host.Outcome State Fault Refusal :=
  done (s.onNode fun n => request n .node 6 tag payload (payload.length = 0) .always (plainOwner fun _ b => ackAlarm b))

/-- TIMETABLE PART (R65). -/
def execTimetablePart (tag : Byte) (payload : List Byte) (s : State) : Host.Outcome State Fault Refusal :=
  done (s.onNode fun n => request n .timetable 1 tag payload (shapePart payload) .readyOnly (fieldOwner fun _ b => ownPart (readPart payload) b))

/-- AMEND, kind CHANGE (R69, R70, R73). -/
def execAmendChange (tag : Byte) (payload : List Byte) (s : State) : Host.Outcome State Fault Refusal :=
  done (s.onNode fun n => request n .timetable 2 tag payload (shapeAmend amendKindChange 7 payload) .configured (plainOwner fun _ b => amendChange b (fieldPlatformFlags (field payload 1 1)).1 (field payload 2 2) (field payload 4 3)))

/-- AMEND, kind CANCEL (R69, R71, R73). -/
def execAmendCancel (tag : Byte) (payload : List Byte) (s : State) : Host.Outcome State Fault Refusal :=
  done (s.onNode fun n => request n .timetable 2 tag payload (shapeAmend amendKindCancel 4 payload) .configured (plainOwner fun _ b => amendCancel b (fieldPlatformFlags (field payload 1 1)).1 (field payload 2 2)))

/-- AMEND, kind INSERT (R69, R72). -/
def execAmendInsert (tag : Byte) (payload : List Byte) (s : State) : Host.Outcome State Fault Refusal :=
  done (s.onNode fun n => request n .timetable 2 tag payload (shapeAmend amendKindInsert 12 payload) .configured (plainOwner fun _ b => amendInsert b (fieldInsert payload)))

/-- INJECT (R78). -/
def execInject (tag : Byte) (payload : List Byte) (s : State) : Host.Outcome State Fault Refusal :=
  done (s.onNode fun n => request n .timetable 3 tag payload (payload.length = 6) .configured (plainOwner fun e b => injectTrain e b (field payload 0 1) (field payload 1 2) (fieldOpt payload 3 3)))

/-- FLUSH (R82). -/
def execFlush (tag : Byte) (payload : List Byte) (s : State) : Host.Outcome State Fault Refusal :=
  done (s.onNode fun n => request n .timetable 4 tag payload (payload.length = 3) .configured (plainOwner fun e b => flushTrain e b (field payload 0 1) (field payload 1 2)))

/-- HOLD (R103). -/
def execHold (tag : Byte) (payload : List Byte) (s : State) : Host.Outcome State Fault Refusal :=
  done (s.onNode fun n => request n .platform 1 tag payload (payload.length = 1) .configured (plainOwner fun e b => onTrack b (field payload 0 1) (holdPlatform e b)))

/-- UNHOLD (R104). -/
def execUnhold (tag : Byte) (payload : List Byte) (s : State) : Host.Outcome State Fault Refusal :=
  done (s.onNode fun n => request n .platform 2 tag payload (payload.length = 1) .configured (plainOwner fun e b => onTrack b (field payload 0 1) (unholdPlatform e b)))

/-- RELEASE (R105). -/
def execRelease (tag : Byte) (payload : List Byte) (s : State) : Host.Outcome State Fault Refusal :=
  done (s.onNode fun n => request n .platform 3 tag payload (payload.length = 1) .configured (plainOwner fun e b => onTrack b (field payload 0 1) (releasePlatform e b)))

/-- READ PLATFORM (R213). -/
def execReadPlatform (tag : Byte) (payload : List Byte) (s : State) : Host.Outcome State Fault Refusal :=
  done (s.onNode fun n => request n .platform 4 tag payload (payload.length = 2) .configured (fieldOwner fun _ b => (b, pageReply (field payload 0 1) (field payload 1 1) ((Track.ofCode (field payload 0 1)).map (platformItems b)))))

/-- ISOLATE (R131). -/
def execIsolate (tag : Byte) (payload : List Byte) (s : State) : Host.Outcome State Fault Refusal :=
  done (s.onNode fun n => request n .power 1 tag payload (payload.length = 4) .configured (plainOwner fun e b => isolateRequest e b (fieldSection payload 0) (fieldId payload 2)))

/-- RESTORE (R134). -/
def execRestore (tag : Byte) (payload : List Byte) (s : State) : Host.Outcome State Fault Refusal :=
  done (s.onNode fun n => request n .power 2 tag payload (payload.length = 5) .configured (plainOwner fun e b => ownRestore e b (fieldSection payload 0) (fieldIdOpt payload 2) (field payload 4 1)))

/-- READ POWER (R213). -/
def execReadPower (tag : Byte) (payload : List Byte) (s : State) : Host.Outcome State Fault Refusal :=
  done (s.onNode fun n => request n .power 3 tag payload (payload.length = 1) .always (fieldOwner fun e b => (b, pageReply 0 (field payload 0 1) (some (powerItems e b)))))

/-- RAISE (R150). -/
def execRaise (tag : Byte) (payload : List Byte) (s : State) : Host.Outcome State Fault Refusal :=
  done (s.onNode fun n => request n .incident 1 tag payload (payload.length = 8) .configured (fieldOwner fun e b => raiseRequest e b (readRaise e payload)))

/-- ACKNOWLEDGE (R151). -/
def execAcknowledge (tag : Byte) (payload : List Byte) (s : State) : Host.Outcome State Fault Refusal :=
  done (s.onNode fun n => request n .incident 2 tag payload (payload.length = 2) .always (plainOwner fun e b => acknowledgeIncident e b (fieldId payload 0)))

/-- CLOSE (R155). -/
def execClose (tag : Byte) (payload : List Byte) (s : State) : Host.Outcome State Fault Refusal :=
  done (s.onNode fun n => request n .incident 3 tag payload (payload.length = 2) .always (plainOwner fun e b => closeIncident e b (fieldId payload 0)))

/-- ADOPT (R162). -/
def execAdopt (tag : Byte) (payload : List Byte) (s : State) : Host.Outcome State Fault Refusal :=
  done (s.onNode fun n => request n .incident 4 tag payload (payload.length = 2) .configured (plainOwner fun e b => adoptIncident e b (fieldId payload 0)))

/-- CHANGE (R152). -/
def execChange (tag : Byte) (payload : List Byte) (s : State) : Host.Outcome State Fault Refusal :=
  done (s.onNode fun n => request n .incident 5 tag payload (payload.length = 3) .configured (plainOwner fun e b => changeIncident e b (fieldId payload 0) (field payload 2 1)))

/-- READ INCIDENTS (R213). -/
def execReadIncidents (tag : Byte) (payload : List Byte) (s : State) : Host.Outcome State Fault Refusal :=
  done (s.onNode fun n => request n .incident 6 tag payload (payload.length = 1) .always (fieldOwner fun _ b => (b, pageReply 0 (field payload 0 1) (some (incidentItems b)))))

/-- ANNOUNCE (R195, R196). -/
def execAnnounce (tag : Byte) (payload : List Byte) (s : State) : Host.Outcome State Fault Refusal :=
  done (s.onNode fun n => request n .announce 1 tag payload ((announceMembers payload).isSome) .configured (fieldOwner fun e b => announceRequest e b (readAnnounce payload)))

/-- WITHDRAW (R194). -/
def execWithdraw (tag : Byte) (payload : List Byte) (s : State) : Host.Outcome State Fault Refusal :=
  done (s.onNode fun n => request n .announce 2 tag payload (payload.length = 2) .configured (plainOwner fun e b => withdrawRequest e b (field payload 0 2)))

/-- AUDIO DONE (R187, R191, R192). -/
def execAudioDone (tag : Byte) (payload : List Byte) (s : State) : Host.Outcome State Fault Refusal :=
  done (s.onNode fun n => request n .announce 3 tag payload (payload.length = 3) .configured (plainOwner fun e b => audioDoneRequest e b (field payload 0 1) (field payload 1 2)))

/-- AUDIO FAILED (R189, R191, R192). -/
def execAudioFailed (tag : Byte) (payload : List Byte) (s : State) : Host.Outcome State Fault Refusal :=
  done (s.onNode fun n => request n .announce 4 tag payload (payload.length = 3) .configured (plainOwner fun e b => audioFailedRequest e b (field payload 0 1) (field payload 1 2)))

/-- AUDIO STOPPED (R191, R192). -/
def execAudioStopped (tag : Byte) (payload : List Byte) (s : State) : Host.Outcome State Fault Refusal :=
  done (s.onNode fun n => request n .announce 5 tag payload (payload.length = 3) .configured (plainOwner fun e b => audioStoppedRequest e b (field payload 0 1) (field payload 1 2)))

/-- AUDIO RESET (R190). -/
def execAudioReset (tag : Byte) (payload : List Byte) (s : State) : Host.Outcome State Fault Refusal :=
  done (s.onNode fun n => request n .announce 6 tag payload (payload.length = 1) .configured (plainOwner fun e b => audioResetRequest e b (field payload 0 1)))

end Sys2Proof.Machine
end

