-- ==== Sys2Proof/Machine/TimedCommands.lean ====
section
/-! DEFINITION. The commands that a count or an instant brings between two advances (R8). Each acts where its count or instant has been
reached, and changes nothing elsewhere (log entry 2). -/

namespace Sys2Proof.Machine

/-- A peer's silence count reaches 25 (R52). -/
def execPeerStale (node : Nat) (s : State) : Host.Outcome State Fault Refusal := done (s.onBlocks fun e b => staleStep e b node)

/-- A peer's silence count reaches 60 (R52). -/
def execPeerLost (node : Nat) (s : State) : Host.Outcome State Fault Refusal := done (s.onBlocks fun e b => lostStep e b node)

/-- A recent start lapses (R58, R60). -/
def execLapse (node : Nat) (s : State) : Host.Outcome State Fault Refusal := done (s.onBlocks fun e b => lapseStep e b node)

/-- The head of an approaching queue is overdue (R80). -/
def execOverdueInstant (t : Track) (s : State) : Host.Outcome State Fault Refusal := done (s.onBlocks fun e b => stallCheck e b t)

/-- The dwell target is reached (R98). -/
def execDwellTargetReached (t : Track) (s : State) : Host.Outcome State Fault Refusal :=
  done (s.onBlocks fun e b => targetStep e b t)

/-- The stagger time is reached (R100, R101). -/
def execStaggerTimeReached (t : Track) (s : State) : Host.Outcome State Fault Refusal :=
  done (s.onBlocks fun e b => staggerStep e b t)

/-- The withdrawal grace ends (R102). -/
def execGraceExpiry (t : Track) (s : State) : Host.Outcome State Fault Refusal := done (s.onBlocks fun _ b => graceStep b t)

/-- A + Wmax is reached while HELD (R106). -/
def execWmaxReached (t : Track) (s : State) : Host.Outcome State Fault Refusal := done (s.onBlocks fun e b => wmaxStep e b t)

/-- A local record's refresh count reaches 100 (R156). -/
def execRefresh (id : IncidentId) (s : State) : Host.Outcome State Fault Refusal :=
  done (s.onBlocks fun e b => refreshStep e b id)

/-- A DESCRIPTION_ERROR reaches its local age limit (R155). -/
def execLocalAgeClose (id : IncidentId) (s : State) : Host.Outcome State Fault Refusal :=
  done (s.onBlocks fun e b => localAgeStep e b id)

/-- A copy's silence age reaches 350 (R159). -/
def execCopyDrop (id : IncidentId) (s : State) : Host.Outcome State Fault Refusal :=
  done (s.onBlocks fun e b => copyDropStep e b id)

/-- A chain's not-before is reached (R181). -/
def execNotBeforeReached (message : Nat) (s : State) : Host.Outcome State Fault Refusal :=
  done (s.onBlocks fun e b => notBeforeStep e b message)

/-- A waiting chain's expiry is reached (R181). -/
def execMessageExpiry (message : Nat) (s : State) : Host.Outcome State Fault Refusal :=
  done (s.onBlocks fun e b => expiryStep e b message)

/-- A play count reaches the deadline (R189). -/
def execPlayDeadline (channel : Nat) (s : State) : Host.Outcome State Fault Refusal :=
  done (s.onBlocks fun e b => deadlineStep e b channel)

/-- A stop count reaches 20 (R191). -/
def execStopTimeout (channel : Nat) (s : State) : Host.Outcome State Fault Refusal :=
  done (s.onBlocks fun e b => stopStep e b channel)

end Sys2Proof.Machine
end

