-- ==== Sys2Proof/Machine/Dispatch.lean ====
section
/-! DEFINITION. One arm for each command. -/

namespace Sys2Proof.Machine

def exec (i : Instr) (s : State) : Host.Outcome State Fault Refusal :=
  match i with
  | .powerOnReset straps => Sys2Proof.Machine.execPowerOnReset straps s
  | .clockPulse sincePulseMs => Sys2Proof.Machine.execClockPulse sincePulseMs s
  | .pulseTimeout => Sys2Proof.Machine.execPulseTimeout s
  | .oscillatorAdvance => Sys2Proof.Machine.execOscillatorAdvance s
  | .occupancyRise t => Sys2Proof.Machine.execOccupancyRise t s
  | .departure t => Sys2Proof.Machine.execDeparture t s
  | .plungerPress t => Sys2Proof.Machine.execPlungerPress t s
  | .plungerRelease t => Sys2Proof.Machine.execPlungerRelease t s
  | .breakerSettlement br isClosed => Sys2Proof.Machine.execBreakerSettlement br isClosed s
  | .breakerStatusChange br isClosed => Sys2Proof.Machine.execBreakerStatusChange br isClosed s
  | .localKeyChange isSet => Sys2Proof.Machine.execLocalKeyChange isSet s
  | .pulseEnd br => Sys2Proof.Machine.execPulseEnd br s
  | .thirdAdvanceOpen br => Sys2Proof.Machine.execThirdAdvanceOpen br s
  | .breakerTimeLimit br => Sys2Proof.Machine.execBreakerTimeLimit br s
  | .isolateRepeat id sec => Sys2Proof.Machine.execIsolateRepeat id sec s
  | .restoreWaitTimeout br => Sys2Proof.Machine.execRestoreWaitTimeout br s
  | .attemptBegin idle => Sys2Proof.Machine.execAttemptBegin idle s
  | .backoffRetry idle => Sys2Proof.Machine.execBackoffRetry idle s
  | .collision cause heard => Sys2Proof.Machine.execCollision cause heard s
  | .frameSent => Sys2Proof.Machine.execFrameSent s
  | .statusPoint => Sys2Proof.Machine.execStatusPoint s
  | .lineIdle heard idle => Sys2Proof.Machine.execLineIdle heard idle s
  | .linebusCharacterError heard => Sys2Proof.Machine.execLinebusCharacterError heard s
  | .linebusLengthError source cls len => Sys2Proof.Machine.execLinebusLengthError source cls len s
  | .linebusFrameDiscarded source cls payload check => Sys2Proof.Machine.execLinebusFrameDiscarded source cls payload check s
  | .frameErrorReport => Sys2Proof.Machine.execFrameErrorReport s
  | .statusFrame source payload => Sys2Proof.Machine.execStatusFrame source payload s
  | .powerFrame source payload => Sys2Proof.Machine.execPowerFrame source payload s
  | .isolateFrame source payload => Sys2Proof.Machine.execIsolateFrame source payload s
  | .restoreFrame source payload => Sys2Proof.Machine.execRestoreFrame source payload s
  | .incidentFrame source payload => Sys2Proof.Machine.execIncidentFrame source payload s
  | .departFrame source payload => Sys2Proof.Machine.execDepartFrame source payload s
  | .announceFrame source payload => Sys2Proof.Machine.execAnnounceFrame source payload s
  | .peerStale node => Sys2Proof.Machine.execPeerStale node s
  | .peerLost node => Sys2Proof.Machine.execPeerLost node s
  | .lapse node => Sys2Proof.Machine.execLapse node s
  | .overdueInstant t => Sys2Proof.Machine.execOverdueInstant t s
  | .dwellTargetReached t => Sys2Proof.Machine.execDwellTargetReached t s
  | .staggerTimeReached t => Sys2Proof.Machine.execStaggerTimeReached t s
  | .graceExpiry t => Sys2Proof.Machine.execGraceExpiry t s
  | .wmaxReached t => Sys2Proof.Machine.execWmaxReached t s
  | .refresh id => Sys2Proof.Machine.execRefresh id s
  | .localAgeClose id => Sys2Proof.Machine.execLocalAgeClose id s
  | .copyDrop id => Sys2Proof.Machine.execCopyDrop id s
  | .notBeforeReached message => Sys2Proof.Machine.execNotBeforeReached message s
  | .messageExpiry message => Sys2Proof.Machine.execMessageExpiry message s
  | .playDeadline channel => Sys2Proof.Machine.execPlayDeadline channel s
  | .stopTimeout channel => Sys2Proof.Machine.execStopTimeout channel s
  | .portFrameGap heard quietUs => Sys2Proof.Machine.execPortFrameGap heard quietUs s
  | .portCharacterError heard => Sys2Proof.Machine.execPortCharacterError heard s
  | .portLengthError len => Sys2Proof.Machine.execPortLengthError len s
  | .nak channel kind tag payload check => Sys2Proof.Machine.execNak channel kind tag payload check s
  | .portFrameEnd => Sys2Proof.Machine.execPortFrameEnd s
  | .configure tag payload => Sys2Proof.Machine.execConfigure tag payload s
  | .dayStart tag payload => Sys2Proof.Machine.execDayStart tag payload s
  | .dayEnd tag payload => Sys2Proof.Machine.execDayEnd tag payload s
  | .serviceReset tag payload => Sys2Proof.Machine.execServiceReset tag payload s
  | .readStatus tag payload => Sys2Proof.Machine.execReadStatus tag payload s
  | .alarmAck tag payload => Sys2Proof.Machine.execAlarmAck tag payload s
  | .timetablePart tag payload => Sys2Proof.Machine.execTimetablePart tag payload s
  | .amendChange tag payload => Sys2Proof.Machine.execAmendChange tag payload s
  | .amendCancel tag payload => Sys2Proof.Machine.execAmendCancel tag payload s
  | .amendInsert tag payload => Sys2Proof.Machine.execAmendInsert tag payload s
  | .inject tag payload => Sys2Proof.Machine.execInject tag payload s
  | .flush tag payload => Sys2Proof.Machine.execFlush tag payload s
  | .hold tag payload => Sys2Proof.Machine.execHold tag payload s
  | .unhold tag payload => Sys2Proof.Machine.execUnhold tag payload s
  | .release tag payload => Sys2Proof.Machine.execRelease tag payload s
  | .readPlatform tag payload => Sys2Proof.Machine.execReadPlatform tag payload s
  | .isolate tag payload => Sys2Proof.Machine.execIsolate tag payload s
  | .restore tag payload => Sys2Proof.Machine.execRestore tag payload s
  | .readPower tag payload => Sys2Proof.Machine.execReadPower tag payload s
  | .raise tag payload => Sys2Proof.Machine.execRaise tag payload s
  | .acknowledge tag payload => Sys2Proof.Machine.execAcknowledge tag payload s
  | .close tag payload => Sys2Proof.Machine.execClose tag payload s
  | .adopt tag payload => Sys2Proof.Machine.execAdopt tag payload s
  | .change tag payload => Sys2Proof.Machine.execChange tag payload s
  | .readIncidents tag payload => Sys2Proof.Machine.execReadIncidents tag payload s
  | .announce tag payload => Sys2Proof.Machine.execAnnounce tag payload s
  | .withdraw tag payload => Sys2Proof.Machine.execWithdraw tag payload s
  | .audioDone tag payload => Sys2Proof.Machine.execAudioDone tag payload s
  | .audioFailed tag payload => Sys2Proof.Machine.execAudioFailed tag payload s
  | .audioStopped tag payload => Sys2Proof.Machine.execAudioStopped tag payload s
  | .audioReset tag payload => Sys2Proof.Machine.execAudioReset tag payload s
  | .samplingPoint levels => Sys2Proof.Machine.execSamplingPoint levels s
  | .linebusOtherCharacter char => Sys2Proof.Machine.execLinebusOtherCharacter char s

end Sys2Proof.Machine
end

