-- ==== Sys2Proof/Safety.lean ====
section
/-! DEFINITION. What counts as a safe node, in the terms the statements use, and the words the statements share: a request that is
taken, an answer that is sent, a foreign frame that arrives. -/

namespace Sys2Proof.Machine

/-! ### Lines and time (R5, R24 to R26, R89, R164) -/

/-- A breaker's OPEN and CLOSE lines are never ACTIVE together, and a close pulse is pending only while OPEN is ACTIVE
(R24, R25). -/
def CoilLines.exclusive (c : CoilLines) : Prop :=
  ¬(c.openLine = true ∧ c.closeLine = true) ∧ (c.pendingClose = true → c.openLine = true)

/-- Service time is within its limit (R5, R9), no breaker has both coils driven (R25), none has a close pulse running or pending while a
lockout stands on it (R119), the alarm line stands at the alarm state (R164), and a starter line is ACTIVE exactly while its
platform is RELEASED (R89). -/
structure Node.LinesTrue (n : Node) : Prop where
  time : n.env.time.service ≤ Config.serviceTimeMax
  coils : ∀ br, (n.blk.field.coils.get br).exclusive
  locked : ∀ br r, n.blk.power.breakers.get br = some r → r.lockedOut = true →
    (n.blk.field.coils.get br).closeLine = false ∧ (n.blk.field.coils.get br).pendingClose = false
  alarm : n.blk.field.alarmLine = n.blk.incidents.alarm
  starters : ∀ t, n.blk.field.starters.get t = decide ((n.blk.platforms.get t).standing.state = .released)

/-! ### Release and latches (R20, R89, R99, R101, R139) -/

/-- What an occupied platform's set says of the sources that stand outside it: in HELD each reason follows its source, and in
RELEASED no source forbids the train (R89, R101). -/
def Phase.sourcesTrue (e : Env) (b : Blocks) (t : Track) (d : Dwell) : Phase → Prop
  | .dwell => True
  | .held =>
    d.reasons.power = reasonPower e b t ∧ d.reasons.incident = reasonIncident e b t ∧ d.reasons.estop = reasonEstop b t
  | .released =>
    reasonPower e b t = false ∧ reasonIncident e b t = false ∧ reasonEstop b t = false ∧ d.reasons = .empty

/-- A platform is VACANT in CONFIGURING, and otherwise its set is true to its sources. -/
def Standing.sourcesTrue (e : Env) (b : Blocks) (t : Track) : Standing → Prop
  | .vacant => True
  | .occupied p d => e.nodeState ≠ .configuring ∧ p.sourcesTrue e b t d

/-- The table holds at most 32 records, no two of one id (R145, R148). -/
def IncidentTable.proper (i : IncidentTable) : Prop := i.records.length ≤ Config.incidentMax ∧ (i.records.map (·.id)).Nodup

/-- A set latch holds the id of a local EMERGENCY_STOP of this node and platform, and the id stands in the lockout sets of the
breakers of its track (R139). -/
def Node.latchHeld (n : Node) (t : Track) : Prop :=
  (n.blk.power.latches.get t).isSet = true → ∃ id r, (n.blk.power.latches.get t).id = some id
    ∧ n.blk.incidents.find id = some r ∧ r.kind = .emergencyStop ∧ r.isLocal = true ∧ r.platform = some ⟨n.env.nodeNumber, t⟩
    ∧ id.origin = n.env.nodeNumber ∧ r.owner = n.env.nodeNumber
    ∧ ∀ br x, br.track = t → n.blk.power.breakers.get br = some x → id ∈ x.lockout

/-- No platform is RELEASED against a DEAD section ahead, an incident of severity 3 or more over that section, a set latch or an
operator's hold (R89), and every set latch holds its incident (R139). The bounds on severities and sets are what makes R148 find room
for an emergency stop. -/
structure Node.ReleasesClear (n : Node) : Prop where
  platforms : ∀ t, (n.blk.platforms.get t).standing.sourcesTrue n.env n.blk t
  table : n.blk.incidents.proper
  latches : ∀ t, n.latchHeld t
  severities : ∀ r ∈ n.blk.incidents.records, r.severity ≤ 4
  sets : ∀ br r, n.blk.power.breakers.get br = some r → r.lockout.length ≤ Config.lockoutMax

/-! ### The queues of the two links (R35, R39, R41, R214, R215) -/

/-- The station port's queues (R214, R215). -/
structure Port.Bounded (p : Port) : Prop where
  answers : p.answers.length ≤ Config.answerMax
  reports : p.reports.length ≤ Config.reportMax
  discard : p.discard ≤ Config.discardMax
  idle : p.tx = none → p.answers = [] ∧ p.reports = []

/-- The frames of the outbound queue with the frame in hand. -/
def Linebus.frames (l : Linebus) : List Frame := l.waiting ++ l.tx.hand?.toList.map (·.frame)

/-- A transmitter state agrees with its queue (R35, R36, R49). -/
def Transmitter.agrees (waiting : List Frame) : Transmitter → Prop
  | .off => waiting = []
  | .idle => waiting = []
  | .waiting => waiting ≠ []
  | .sending h => h.attempts < Config.attemptLimit
  | .backoff h => h.attempts < Config.attemptLimit ∧ h.doomed = false

/-- The linebus transmitter and its queue under an `Env` (R35, R39, R41, R47). -/
structure Linebus.Proper (e : Env) (l : Linebus) : Prop where
  full : l.occupied ≤ Config.outboundMax
  ranked : l.waiting.Pairwise fun f g => f.cls.rank ≤ g.cls.rank
  off : l.tx = .off ↔ e.nodeState = .configuring ∨ l.silent = true
  agrees : l.tx.agrees l.waiting
  oneStatus : (l.frames.filter Frame.isStatus).length ≤ 1

structure Node.LinksProper (n : Node) : Prop where
  port : n.blk.port.Bounded
  bus : n.blk.bus.Proper n.env

/-! ### The Record Store (R168 to R171) -/

/-- Each record of the table has exactly one block and no block names another incident, and messages hold at most 64 blocks,
so that the reserve always has a block for an incident. -/
structure Node.StoreTrue (n : Node) : Prop where
  table : n.blk.incidents.proper
  size : n.blk.store.blocks.length = Config.storeBlocks
  incidents : ∀ id, n.blk.store.blocks.count (some (.incident id)) =
    if id ∈ n.blk.incidents.records.map (·.id) then 1 else 0
  messages : n.blk.store.messages + Config.storeReserve ≤ Config.storeBlocks

/-! ### Ordered and bounded tables (R63, R64, R66, R75, R125, R177, R182) -/

/-- A sequence stands in order of departure and holds no trip twice (R63). -/
def ordered (l : List Entry) : Prop := (l.Pairwise fun x y => x.departure ≤ y.departure) ∧ (l.map (·.trip)).Nodup

/-- The IN_USE entry is that of the train standing at its platform, which a train of the day in SERVICE alone has, and no PENDING entry
stands before one that is IN_USE or CONSUMED (R63). -/
def entriesTrue (service : Bool) (s : Standing) (l : List Entry) : Prop :=
  (∀ x ∈ l, x.state = .inUse → ∃ p d, s = .occupied p d ∧ d.entry = some x.trip)
    ∧ (∀ p d trip, s = .occupied p d → d.entry = some trip → service = true ∧ ∃ x ∈ l, x.trip = trip ∧ x.state = .inUse)
    ∧ l.Pairwise fun x y => x.state = .pending → y.state ≠ .inUse ∧ y.state ≠ .consumed

/-- An approaching queue holds at most 8 trains in order of U, no trip twice (R75, R76). -/
def queueProper (q : List Approach) : Prop :=
  q.length ≤ Config.approachMax ∧ (q.Pairwise fun x y => x.upstream ≤ y.upstream) ∧ (q.map (·.trip)).Nodup

/-- What a load in progress has brought fits what it may still bring (R65, R66). -/
def LoadState.fits (held : Nat) : LoadState → Prop
  | .loading total next => next ≤ total ∧ total ≤ 192 ∧ held + 8 ≤ 8 * next
  | .empty => True
  | .loaded => True
  | .failed => True

structure Node.TablesProper (n : Node) : Prop where
  sequences : ∀ t, ordered (n.blk.timetable.sequences.get t)
  entries : ∀ t, entriesTrue (decide (n.env.nodeState = .service)) (n.blk.platforms.get t).standing (n.blk.timetable.sequences.get t)
  total : n.blk.timetable.total ≤ Config.timetableMax
  load : n.blk.timetable.load.fits n.blk.timetable.total
  approaching : ∀ t, queueProper (n.blk.describer.get t)
  zones : ∀ z, messageCount (n.blk.announce.queues.get z) ≤ Config.zoneQueueMax
  ranked : ∀ z, (n.blk.announce.queues.get z).Pairwise fun c d => d.before c = false
  channels : n.blk.announce.channels.length ≤ 3
  oneChannel : (n.blk.announce.channels.filterMap Channel.zone?).Nodup
  lockouts : ∀ br r, n.blk.power.breakers.get br = some r → r.lockout.length ≤ Config.lockoutMax

/-! ### Requests (R209 to R212) -/

/-- A request frame reaches its owner's checks: the framer takes it whole and the answer queue has room (R209, R211). -/
def takes (b : Blocks) (channel : PortChannel) (kind : Nat) (tag : Byte) (payload : List Byte) : Prop :=
  takesRequest b.port (char channel.code) (char kind) tag payload = true ∧ b.port.answers.length < Config.answerMax

/-- The blocks when a request frame has completed: the framer stands in SEEK and the frame is counted (R209, R222). -/
def received (b : Blocks) : Blocks := b.setPort b.port.completed

/-- The state with an answer queued (R212): its payload is the status and the result fields. -/
def answered (e : Env) (b : Blocks) (q : List Instr) (channel : PortChannel) (tag : Byte) (payload : List Byte) : State :=
  ⟨⟨e, b.setPort (b.port.pushAnswer { isNak := false, channel := char channel.code, tag := tag, payload := payload })⟩, q⟩

/-- What the request table says of one request row: channel, kind, shape and the node states that take it (R10, R211). -/
structure RequestRow where
  channel : PortChannel
  kind : Nat
  tag : Byte
  payload : List Byte
  shape : Bool
  allowed : Allowed

/-- The request table (R10, R211), with an AMEND told by its kind. -/
def requestOf : Instr → Option RequestRow
  | .configure tag p => some ⟨.node, 1, tag, p, p.length = 96, .configuringOnly⟩
  | .dayStart tag p => some ⟨.node, 2, tag, p, p.length = 5, .readyOnly⟩
  | .dayEnd tag p => some ⟨.node, 3, tag, p, p.length = 0, .serviceOnly⟩
  | .serviceReset tag p => some ⟨.node, 4, tag, p, p.length = 0, .configured⟩
  | .readStatus tag p => some ⟨.node, 5, tag, p, p.length = 2, .always⟩
  | .alarmAck tag p => some ⟨.node, 6, tag, p, p.length = 0, .always⟩
  | .timetablePart tag p => some ⟨.timetable, 1, tag, p, shapePart p, .readyOnly⟩
  | .amendChange tag p => some ⟨.timetable, 2, tag, p, shapeAmend amendKindChange 7 p, .configured⟩
  | .amendCancel tag p => some ⟨.timetable, 2, tag, p, shapeAmend amendKindCancel 4 p, .configured⟩
  | .amendInsert tag p => some ⟨.timetable, 2, tag, p, shapeAmend amendKindInsert 12 p, .configured⟩
  | .inject tag p => some ⟨.timetable, 3, tag, p, p.length = 6, .configured⟩
  | .flush tag p => some ⟨.timetable, 4, tag, p, p.length = 3, .configured⟩
  | .hold tag p => some ⟨.platform, 1, tag, p, p.length = 1, .configured⟩
  | .unhold tag p => some ⟨.platform, 2, tag, p, p.length = 1, .configured⟩
  | .release tag p => some ⟨.platform, 3, tag, p, p.length = 1, .configured⟩
  | .readPlatform tag p => some ⟨.platform, 4, tag, p, p.length = 2, .configured⟩
  | .isolate tag p => some ⟨.power, 1, tag, p, p.length = 4, .configured⟩
  | .restore tag p => some ⟨.power, 2, tag, p, p.length = 5, .configured⟩
  | .readPower tag p => some ⟨.power, 3, tag, p, p.length = 1, .always⟩
  | .raise tag p => some ⟨.incident, 1, tag, p, p.length = 8, .configured⟩
  | .acknowledge tag p => some ⟨.incident, 2, tag, p, p.length = 2, .always⟩
  | .close tag p => some ⟨.incident, 3, tag, p, p.length = 2, .always⟩
  | .adopt tag p => some ⟨.incident, 4, tag, p, p.length = 2, .configured⟩
  | .change tag p => some ⟨.incident, 5, tag, p, p.length = 3, .configured⟩
  | .readIncidents tag p => some ⟨.incident, 6, tag, p, p.length = 1, .always⟩
  | .announce tag p => some ⟨.announce, 1, tag, p, (announceMembers p).isSome, .configured⟩
  | .withdraw tag p => some ⟨.announce, 2, tag, p, p.length = 2, .configured⟩
  | .audioDone tag p => some ⟨.announce, 3, tag, p, p.length = 3, .configured⟩
  | .audioFailed tag p => some ⟨.announce, 4, tag, p, p.length = 3, .configured⟩
  | .audioStopped tag p => some ⟨.announce, 5, tag, p, p.length = 3, .configured⟩
  | .audioReset tag p => some ⟨.announce, 6, tag, p, p.length = 1, .configured⟩
  | _ => none

/-! ### Foreign frames (R44 to R46, R51) -/

/-- The command by which a frame of a class arrives. -/
def frameCommand (cls : FrameClass) (source : Byte) (payload : List Byte) : Instr :=
  match cls with
  | .isolate => .isolateFrame source payload
  | .restore => .restoreFrame source payload
  | .power => .powerFrame source payload
  | .incident => .incidentFrame source payload
  | .depart => .departFrame source payload
  | .announce => .announceFrame source payload
  | .status => .statusFrame source payload

/-- A valid frame of a class completes at a receive assembly that takes it (R44, R45). -/
def arrives (e : Env) (b : Blocks) (source : Byte) (payload : List Byte) (f : Frame) : Prop :=
  b.bus.rx.accepts (busChars source f.cls.code payload (crc (busBody source f.cls.code payload))) = true
    ∧ payload.length ≤ Config.busPayloadMax ∧ parseFrame e.lineCount source.toNat f.cls payload = some f

/-- The blocks when a valid frame has completed: the assembly stands in SKIP and the frame is counted (R44, R45). -/
def counted (b : Blocks) : Blocks :=
  let b := setIdle (setRx b .skip) 0
  b.setBus { b.bus with validFrames := countUp Config.counterMax b.bus.validFrames }

/-- The blocks when a valid foreign frame of another node has completed and its source has been heard, a silence limit that an
advance had already reached coming first (R46, R51, R52). -/
def heardFrom (e : Env) (b : Blocks) (source : Byte) : Blocks := hearFrom e (counted b) source.toNat

/-! ### Frames whose fields a payload can carry (R30 to R34) -/

def sectionFits (n : Nat) (sec : TractionSection) : Prop := sec.gap + 2 ≤ n

def idFits (n : Nat) (id : IncidentId) : Prop := id.origin < n ∧ 1 ≤ id.serial ∧ id.serial ≤ 255

def LastDeparture.fits (d : LastDeparture) : Prop := d.trip ≤ 9999 ∧ d.dact ≤ Config.serviceTimeMax

/-- The ranges that the contents of a frame from node `s` have on a line of `n` nodes. -/
def Frame.fits (n s : Nat) : Frame → Prop
  | .isolate sec id => sectionFits n sec ∧ idFits n id
  | .restore sec requester id => sectionFits n sec ∧ requester < n ∧ ∀ i ∈ id, idFits n i
  | .power c =>
    presentAt n s c.breaker = true ∧ c.lockoutCount ≤ Config.lockoutMax ∧ ∀ r ∈ c.reason, 1 ≤ r ∧ r ≤ 15
  | .incident c =>
    idFits n c.id ∧ 1 ≤ c.severity ∧ c.severity ≤ 4 ∧ c.span.first ≤ c.span.last ∧ c.span.last + 2 ≤ n
      ∧ (∀ p ∈ c.platform, p.node < n) ∧ (∀ v ∈ c.trip, v ≤ 9999) ∧ (∀ v ∈ c.adoptedFrom, v < n) ∧ c.owner < n
      ∧ c.raised ≤ Config.serviceTimeMax ∧ (∀ v ∈ c.acked, v ≤ Config.serviceTimeMax)
      ∧ (∀ v ∈ c.closeReason, 1 ≤ v ∧ v ≤ 15) ∧ (c.action = .close ↔ c.closeReason.isSome = true)
  | .depart c =>
    c.trip ≤ 9999 ∧ c.dact ≤ Config.serviceTimeMax ∧ ∀ sec ∈ c.entered, sectionAheadAt n s c.track = some sec
  | .announce c =>
    c.first ≤ c.last ∧ c.last ≤ 31 ∧ (c.zones.up = true ∨ c.zones.down = true ∨ c.zones.concourse = true) ∧ c.priority ≤ 7
      ∧ c.repeats ≤ 15 ∧ 50 ≤ c.interval ∧ c.interval ≤ 6000 ∧ 1 ≤ c.phrases.length ∧ c.phrases.length ≤ 16
      ∧ ∀ v ∈ c.phrases, v ≤ 4095
  | .status c =>
    c.time ≤ Config.serviceTimeMax ∧ (∀ t, ∀ d ∈ c.departures.get t, d.fits) ∧ c.incidents ≤ Config.incidentMax
      ∧ ∀ br, presentAt n s br = true ∨ c.breakers.get br = .absent

/-! ### Room in the Incident Table (R148) -/

/-- The record that a condition admits, of lowest severity and among those the oldest; the table stands in the order of admission. -/
def lightestOf (l : List Incident) (p : Incident → Prop) (v : Incident) : Prop :=
  ∃ before after, l = before ++ v :: after ∧ p v ∧ (∀ r ∈ before, p r → v.severity < r.severity)
    ∧ ∀ r ∈ after, p r → v.severity ≤ r.severity

/-- The oldest record that a condition admits. -/
def oldestOf (l : List Incident) (p : Incident → Prop) (v : Incident) : Prop :=
  ∃ before after, l = before ++ v :: after ∧ p v ∧ ∀ r ∈ before, ¬p r

/-- A copy that holds no lockout (R148). -/
def Blocks.looseCopy (b : Blocks) (r : Incident) : Prop := r.isLocal = false ∧ b.power.holdsLockout r.id = false

/-! ### The arbiter (R183 to R185) -/

/-- A chain is the ready chain of its zone: the first that waits there with its not-before absent or reached, in a NORMAL zone, and
of priority 6 or more while any queue holds such a message (R177, R183). -/
def Blocks.ready (e : Env) (b : Blocks) (z : Zone) (c : Chain) : Prop :=
  (b.announce.faults.get z).fault = false
    ∧ (∃ before after, b.announce.queues.get z = before ++ c :: after ∧ c.place = .waiting
      ∧ (∀ i, c.notBefore = some i → i ≤ e.time.service)
      ∧ ∀ d ∈ before, d.place = .waiting → ∃ i, d.notBefore = some i ∧ e.time.service < i)
    ∧ ∀ z' d, d ∈ b.announce.queues.get z' → 6 ≤ d.priority → 6 ≤ c.priority

/-- A zone holds no channel (R182). -/
def Blocks.zoneFree (b : Blocks) (z : Zone) : Prop := ∀ x ∈ b.announce.channels, x.zone? ≠ some z

/-- The arbiter's rank: highest priority, then lowest order number, then lowest zone index (R184). -/
def ranksBefore (z : Zone) (c : Chain) (z' : Zone) (c' : Chain) : Prop :=
  c'.priority < c.priority ∨ c.priority = c'.priority ∧ (c.order < c'.order ∨ c.order = c'.order ∧ z.code < z'.code)

/-- A channel plays a chain of a zone that began to play at an instant (R182). -/
def Blocks.plays (b : Blocks) (i : Nat) (z : Zone) (c : Chain) (began : Nat) : Prop :=
  ∃ m n, b.announce.channel i = some (.playing z m n began) ∧ b.announce.chainOf z m = some c

/-- A chain may take a channel by force: that of its own zone, or for a zone that plays on none the one of the lowest priority, whose
chain began last, of the highest number; by a margin of 2 (R185). -/
def Blocks.preempts (b : Blocks) (z : Zone) (c : Chain) (i : Nat) : Prop :=
  (∃ d began, b.plays i z d began ∧ (∀ k d' began', b.plays k z d' began' → i ≤ k) ∧ d.priority + 2 ≤ c.priority)
    ∨ (∀ k d began, ¬b.plays k z d began) ∧ ∃ z' d began, b.plays i z' d began ∧ d.priority + 2 ≤ c.priority
      ∧ ∀ k z'' d' began', k ≠ i → b.plays k z'' d' began' →
        d.priority < d'.priority ∨ d.priority = d'.priority ∧ (began' < began ∨ began' = began ∧ k < i)

/-! ### Inputs (R15 to R17) -/

/-- No accepted change or settlement still waits for its delivery. -/
def Blocks.Delivered (b : Blocks) : Prop := b.field.waiting = .empty

end Sys2Proof.Machine
end

