-- ==== Sys2Proof/Certificates/Slice0/Obligations.lean ====
section
/-! DEFINITION. The statements for the provers: what each command does, what the shared operations do, and the invariants that every
step keeps. A state is written `⟨⟨e, b⟩, q⟩`: what every block reads, the blocks, and the commands that wait. -/

open Sys2Proof Sys2Proof.Machine

/-! ### The block and its queue -/

/-- A step runs the command at the front of the queue on the node, with the rest of the queue. -/
def Obligations.StepRunsFrontCommand : Prop :=
  ∀ (c : Instr) (rest : List Instr) (n : Node), step ⟨n, c :: rest⟩ = exec c ⟨n, rest⟩

/-- With no command waiting the block idles (the model's choice, log entry 3); every command completes, and neither reads nor
changes the commands that wait (log entry 38 for POWER_ON_RESET). -/
def Obligations.EmptyQueueIdlesAndCommandsKeepQueue : Prop :=
  (∀ n, step ⟨n, []⟩ = .next ⟨n, []⟩) ∧ ∀ c n, ∃ n', ∀ q, exec c ⟨n, q⟩ = .next ⟨n', q⟩

/-! ### Reset and service time -/

/-- POWER_ON_RESET: every register at its reset value, whatever the node held. The values are those the rules give, but for the model's
own: no last part (log entry 32), the first admission number 1 (log entry 33), no accepted change waiting (log entry 6), no mark of a
STATUS point (log entry 1), and an error age of 10, by which no frame-error report counts as recent (R48). `State.reset` is the
node whose straps read 0 (log entry 4). -/
def Obligations.PowerOnResetValues : Prop :=
  (∀ (straps : BitVec 5) (n : Node) (q : List Instr), ∃ e b, exec (.powerOnReset straps) ⟨n, q⟩ = .next ⟨⟨e, b⟩, q⟩
    ∧ e.nodeNumber = straps.toNat ∧ e.config = none ∧ e.nodeState = .configuring
    ∧ e.time = { service := 0, day := 0, mode := .holdover, run := 0, overrun := false }
    ∧ (∀ t, b.field.filters.occupancy.get t = { level := none, candidate := none, run := 0 })
    ∧ (∀ t, b.field.filters.plunger.get t = { level := none, candidate := none, run := 0 })
    ∧ (∀ br, b.field.filters.status.get br = { level := none, candidate := none, run := 0 })
    ∧ b.field.filters.key = { level := none, candidate := none, run := 0 }
    ∧ b.field.waiting = { occupancy := ⟨none, none⟩, plunger := ⟨none, none⟩, status := ⟨none, none, none, none⟩, key := none }
    ∧ (∀ br, b.field.coils.get br = { openLine := false, closeLine := false, pendingClose := false })
    ∧ (∀ t, b.field.starters.get t = false) ∧ b.field.alarmLine = false
    ∧ b.bus.tx = .off ∧ b.bus.waiting = [] ∧ b.bus.silent = false ∧ b.bus.rx = .skip
    ∧ b.bus.sent = 0 ∧ b.bus.collisions = 0 ∧ b.bus.dropped = 0 ∧ b.bus.checkErrors = 0 ∧ b.bus.classErrors = 0
    ∧ b.bus.contentErrors = 0 ∧ b.bus.truncatedErrors = 0 ∧ b.bus.lengthErrors = 0 ∧ b.bus.validFrames = 0
    ∧ b.bus.errorPending = false ∧ b.bus.errorAge = 10 ∧ b.bus.advances = 0 ∧ b.bus.statusDue = false ∧ b.bus.idleCount = 0
    ∧ b.peers.table = List.replicate 32 .unheard ∧ b.peers.starts = List.replicate 32 .absent
    ∧ b.peers.lostLow = none ∧ b.peers.lostHigh = none
    ∧ (∀ t, b.timetable.sequences.get t = []) ∧ b.timetable.load = .empty ∧ b.timetable.lastPart = none ∧ (∀ t, b.describer.get t = [])
    ∧ (∀ t, b.platforms.get t = { standing := .vacant, lastDeparture := none, delayId := none, amendment := none })
    ∧ (∀ br, b.power.breakers.get br = if presentAt 32 straps.toNat br then some .atReset else none)
    ∧ (∀ t, b.power.latches.get t = { isSet := false, id := none, ignored := 0 }) ∧ b.power.keyLocal = false
    ∧ b.incidents.records = [] ∧ b.incidents.lastSerial = 0 ∧ b.incidents.nextAdmission = 1 ∧ b.incidents.alarm = false
    ∧ b.store.blocks = List.replicate 96 none ∧ b.store.refusals = 0
    ∧ (∀ z, b.announce.queues.get z = []) ∧ b.announce.channels = [] ∧ (∀ z, b.announce.faults.get z = { fault := false, run := 0 })
    ∧ b.announce.lastMessageId = 0 ∧ b.announce.nextOrder = 1
    ∧ b.port.requestFrames = 0 ∧ b.port.nakLength = 0 ∧ b.port.nakCheck = 0 ∧ b.port.nakChannel = 0 ∧ b.port.nakKind = 0
    ∧ b.port.truncated = 0 ∧ b.port.overrun = 0 ∧ b.port.reportsDiscarded = 0 ∧ b.port.answersSent = 0 ∧ b.port.reportsSent = 0
    ∧ b.port.quietTime = 0 ∧ b.port.framer = .skip ∧ b.port.answers = [] ∧ b.port.reports = [] ∧ b.port.discard = 0
    ∧ b.port.tx = some (.report { body := .started straps.toNat, time := 0, part := none } 0))
  ∧ exec (.powerOnReset 0) .reset = .next .reset

/-- A clock pulse in PULSED, and an oscillator advance in HOLDOVER, move service time on by one up to its limit and deliver the
advance to every block, what was still due coming about first (log entry 1); the advance that first reaches the limit reports
DAY_OVERRUN. A pulse timeout in PULSED makes two advances and enters HOLDOVER with its report. -/
def Obligations.AdvancesMoveServiceTime : Prop :=
  ∀ (e : Env) (b : Blocks) (q : List Instr),
    (∀ service overrun e' b',
      service = (if e.time.service < Config.serviceTimeMax then e.time.service + 1 else e.time.service) →
      overrun = (e.time.overrun || decide (Config.serviceTimeMax ≤ service)) →
      e' = { e with time := { e.time with service := service, overrun := overrun } } →
      b' = (settle e b).tick e.configured e.time.service service →
      let next := if overrun = true ∧ e.time.overrun = false then queueReport e' b' .dayOverrun else b'
      (e.time.mode = .pulsed → ∀ since, exec (.clockPulse since) ⟨⟨e, b⟩, q⟩ = .next ⟨⟨e', next⟩, q⟩)
        ∧ (e.time.mode = .holdover → exec .oscillatorAdvance ⟨⟨e, b⟩, q⟩ = .next ⟨⟨e', next⟩, q⟩))
    ∧ (e.time.mode = .pulsed → e.time.service ≤ Config.serviceTimeMax →
        ∃ e' b', exec .pulseTimeout ⟨⟨e, b⟩, q⟩ = .next ⟨⟨e', queueReport e' b' .holdoverBegun⟩, q⟩
          ∧ advance (advance ⟨{ e with time := { e.time with mode := .holdover, run := 0 } }, b⟩) = ⟨e', b'⟩
          ∧ e'.time.service = min (e.time.service + 2) Config.serviceTimeMax ∧ e'.time.mode = .holdover ∧ e'.time.run = 0
          ∧ e'.time.day = e.time.day ∧ e'.nodeState = e.nodeState ∧ e'.nodeNumber = e.nodeNumber ∧ e'.config = e.config)

/-- What an advance counts in every block, and that it leaves everything else of the blocks as it was. The mark that a STATUS point has
come, outside CONFIGURING alone (R11, R49), and the mark that a chain's not-before has come are how the model keeps an event for its own
command (log entry 1). -/
def Obligations.AdvanceRaisesCounts : Prop :=
  ∀ (b : Blocks) (configured : Bool) (before after : Nat) (x : Blocks), x = b.tick configured before after →
    x.field = b.field ∧ x.timetable = b.timetable ∧ x.describer = b.describer ∧ x.store = b.store ∧ x.port = b.port
    ∧ x.power.latches = b.power.latches ∧ x.power.keyLocal = b.power.keyLocal
    ∧ (∀ br, x.power.breakers.get br = (b.power.breakers.get br).map fun r =>
        { r with
          condition := r.condition.map Condition.tick
          wait := r.wait.map fun w => { w with count := countUp Config.restoreWait w.count } })
    ∧ (∀ c, Condition.tick (.opening c) = .opening { c with count := countUp c.limit c.count })
    ∧ (∀ c, Condition.tick (.closing c) = .closing { c with count := countUp c.limit c.count })
    ∧ Condition.tick .closed = .closed ∧ Condition.tick .opened = .opened ∧ Condition.tick .failed = .failed
    ∧ x.bus = { b.bus with
        advances := (b.bus.advances + 1) % 10
        statusDue := b.bus.statusDue || (configured && decide ((b.bus.advances + 1) % 10 = 0))
        errorAge := countUp 10 b.bus.errorAge }
    ∧ (∀ (i : Nat) (p : PeerEntry), b.peers.table[i]? = some p → x.peers.table[i]? = some
        (if p.liveness = .current ∨ p.liveness = .stale then { p with silence := countUp 60 p.silence } else p))
    ∧ (∀ (i : Nat) (s : StartEntry), b.peers.starts[i]? = some s → x.peers.starts[i]? = some
        (if s.start.isSome then { s with age := countUp 601 s.age } else s))
    ∧ x.peers.lostLow = b.peers.lostLow ∧ x.peers.lostHigh = b.peers.lostHigh
    ∧ (∀ t, (b.platforms.get t).standing = .vacant → x.platforms.get t = b.platforms.get t)
    ∧ (∀ t p d, (b.platforms.get t).standing = .occupied p d → x.platforms.get t =
        { b.platforms.get t with standing := .occupied p { d with grace := d.grace.map (countUp 20) } })
    ∧ x.incidents.lastSerial = b.incidents.lastSerial ∧ x.incidents.alarm = b.incidents.alarm
    ∧ x.incidents.nextAdmission = b.incidents.nextAdmission
    ∧ (∀ (i : Nat) (r : Incident) (o : Owned), b.incidents.records[i]? = some r → r.holding = .owned o → x.incidents.records[i]? = some
        { r with
          holding := .owned
            { o with
              refresh := if configured then countUp 100 o.refresh else o.refresh
              age := if r.kind = .descriptionError then countUp 6000 o.age else o.age
              isolation := o.isolation.map fun it =>
                if it.state = .pending ∧ 1 ≤ it.sends then { it with repeats := countUp 20 it.repeats } else it } })
    ∧ (∀ (i : Nat) (r : Incident) (c : CopyPart), b.incidents.records[i]? = some r → r.holding = .copy c → x.incidents.records[i]? = some
        (if (b.peers.entry r.owner).liveness = .current then { r with holding := .copy { c with silence := countUp 350 c.silence } }
         else r))
    ∧ (∀ (i : Nat) (z : Zone) (m n began : Nat), b.announce.channels[i]? = some (.playing z m n began) →
        x.announce.channels[i]? = some (.playing z m (n + 1) began))
    ∧ (∀ (i : Nat) (z : Zone) (m : Nat) (cause : StopCause) (n began : Nat), b.announce.channels[i]? = some (.stopping z m cause n began) →
        x.announce.channels[i]? = some (.stopping z m cause (countUp 20 n) began))
    ∧ (∀ i : Nat, b.announce.channels[i]? = some .idle → x.announce.channels[i]? = some .idle)
    ∧ x.announce.channels.length = b.announce.channels.length ∧ x.incidents.records.length = b.incidents.records.length
    ∧ x.peers.table.length = b.peers.table.length ∧ x.peers.starts.length = b.peers.starts.length
    ∧ (∀ z, (x.announce.queues.get z).length = (b.announce.queues.get z).length)
    ∧ (∀ (z : Zone) (i : Nat) (c : Chain), (b.announce.queues.get z)[i]? = some c → (x.announce.queues.get z)[i]? = some
        { c with
          notBeforeDue := c.notBeforeDue || (c.notBefore.map fun n => decide (before < n ∧ n ≤ after)).getD false })
    ∧ x.announce.faults = b.announce.faults ∧ x.announce.lastMessageId = b.announce.lastMessageId
    ∧ x.announce.nextOrder = b.announce.nextOrder

/-- Ten clock pulses of one run end HOLDOVER at the tenth, none of them moving service time; fewer count toward the run. A pulse that comes
0.25 s or more after the one before it begins a new run, whatever the run had counted. -/
def Obligations.TenPulsesEndHoldover : Prop :=
  ∀ (e : Env) (b : Blocks) (q : List Instr) (first : Nat) (gaps : List Nat),
    e.time.mode = .holdover → e.time.run = 0 ∨ 250 ≤ first → gaps.length ≤ 9 → (∀ g ∈ gaps, g < 250) →
    ∃ e' b', Host.Core.run Sys2Proof.core (gaps.length + 1) ⟨⟨e, b⟩, (first :: gaps).map Instr.clockPulse ++ q⟩
        = .next (⟨⟨e', b'⟩, q⟩ : State)
      ∧ (gaps.length < 9 → e' = { e with time := { e.time with run := gaps.length + 1 } } ∧ b' = b)
      ∧ (gaps.length = 9 → e' = { e with time := { e.time with mode := .pulsed, run := 0 } }
          ∧ b' = queueReport e' b .holdoverEnded)

/-! ### The field lines -/

/-- SAMPLING_POINT: each input that is sampled takes the sample at its filter record, and what the sample accepts or settles waits
for its delivery with the service time now held as its stamp (R16 to R18); an occupancy or plunger input that settles INACTIVE
delivers nothing (R17). Occupancy is sampled outside CONFIGURING alone (R20), a status input while its breaker is present (R21);
nothing else changes. What a former point accepted and no command has brought yet is delivered first, by what the rows of those
changes do: that a sample and the delivery of what it accepts are two steps is the model's choice (log entries 1 and 6). -/
def Obligations.SamplingPointUpdatesFilters : Prop :=
  ∀ (e : Env) (b : Blocks) (q : List Instr) (l : InputLevels),
    (b.Delivered → deliverAll e b = b)
    ∧ (∃ rows : List Instr, (∀ r ∈ rows,
          (∃ t, r = .occupancyRise t ∨ r = .departure t ∨ r = .plungerPress t ∨ r = .plungerRelease t)
          ∨ (∃ br level, r = .breakerSettlement br level ∨ r = .breakerStatusChange br level) ∨ ∃ level, r = .localKeyChange level)
        ∧ Host.Core.run Sys2Proof.core rows.length ⟨⟨e, b⟩, rows ++ q⟩ = .next (⟨⟨e, deliverAll e b⟩, q⟩ : State))
    ∧ (e.nodeState ≠ .configuring → ∀ t,
        (deliverAll e b).field.waiting.occupancy.get t = none ∧ (deliverAll e b).field.waiting.plunger.get t = none)
    ∧ ∀ a, a = deliverAll e b → ∃ (f : Filters) (w : Deliveries),
      exec (.samplingPoint l) ⟨⟨e, b⟩, q⟩ = .next ⟨⟨e, a.setField { a.field with filters := f, waiting := w }⟩, q⟩
      ∧ (∀ t, e.nodeState = .configuring →
          f.occupancy.get t = a.field.filters.occupancy.get t ∧ w.occupancy.get t = a.field.waiting.occupancy.get t)
      ∧ (∀ t r x, e.nodeState ≠ .configuring → a.field.filters.occupancy.get t = r →
          r.sample e.occupancyFilter (InputLevels.occupancy l t) = x →
          f.occupancy.get t = x.1 ∧ w.occupancy.get t =
            if x.2 = some false ∧ r.level = none then none else x.2.map fun level => { level := level, stamp := e.time.service })
      ∧ (∀ t r x, a.field.filters.plunger.get t = r → r.sample 3 (InputLevels.plunger l t) = x →
          f.plunger.get t = x.1 ∧ w.plunger.get t =
            if x.2 = some false ∧ r.level = none then none else x.2.map fun level => { level := level, stamp := e.time.service })
      ∧ (∀ br x, (a.power.breakers.get br).isSome → (a.field.filters.status.get br).sample 5 (InputLevels.status l br) = x →
          f.status.get br = x.1 ∧ w.status.get br = x.2.map fun level => { level := level, stamp := e.time.service })
      ∧ (∀ br, a.power.breakers.get br = none →
          f.status.get br = a.field.filters.status.get br ∧ w.status.get br = a.field.waiting.status.get br)
      ∧ (f.key, w.key) = a.field.filters.key.sample 10 l.key

/-- A filter accepts a change at the F-th consecutive sample of the new level and not before: the filtered level becomes it, the
candidate is cleared and the run count returns to 0; a sample of the level held starts the count again, and what is accepted is
always the opposite of the level held (R16). An input without a level settles in the same way at the F-th equal sample (R17). -/
def Obligations.FilterAcceptsAtFthSample : Prop :=
  ∀ (F : Nat) (level : Bool), 1 ≤ F →
    (∀ n, n < F →
      ((List.replicate n (!level)).foldl (fun r x => (FilterRecord.sample F r x).1) { level := some level, candidate := none, run := 0 }).sample
          F (!level)
        = if n + 1 = F then ({ level := some (!level), candidate := none, run := 0 }, some (!level))
          else ({ level := some level, candidate := some (!level), run := n + 1 }, none))
    ∧ (∀ c run, FilterRecord.sample F { level := some level, candidate := c, run := run } level
        = ({ level := some level, candidate := none, run := 0 }, none))
    ∧ (∀ r x accepted, r.level = some level → (FilterRecord.sample F r x).2 = some accepted → accepted = !level)
    ∧ (∀ c run n, c ≠ some level → n < F →
        ((List.replicate n level).foldl (fun r x => (FilterRecord.sample F r x).1) { level := none, candidate := c, run := run }).sample
            F level
          = if n + 1 = F then ({ level := some level, candidate := none, run := 0 }, some level)
            else ({ level := none, candidate := some level, run := n + 1 }, none))

/-- PULSE_END and the commands at a breaker's coil lines: an open command ends a close pulse and discards a pending one, a close
command waits for an open pulse to end, the request of R125 ends the close pulse alone, and at its end an open pulse gives way
to the pending close pulse (R24, R25). PULSE_END changes nothing else. -/
def Obligations.CoilPulses : Prop :=
  ∀ (e : Env) (b : Blocks) (q : List Instr) (br : Breaker) (c : CoilLines), b.field.coils.get br = c →
    ((b.power.breakers.get br).isSome → exec (.pulseEnd br) ⟨⟨e, b⟩, q⟩ = .next ⟨⟨e, b.setCoils br
        (if c.openLine then { openLine := false, closeLine := c.pendingClose, pendingClose := false }
         else { c with closeLine := false })⟩, q⟩)
    ∧ openCoil b br = b.setCoils br { openLine := true, closeLine := false, pendingClose := false }
    ∧ closeCoil b br = b.setCoils br (if c.openLine then { c with pendingClose := true } else { c with closeLine := true })
    ∧ endCloseCoil b br = b.setCoils br { c with closeLine := false, pendingClose := false }

/-- An accepted press at a SET latch counts and reports, an accepted release reports, and an accepted settlement or change of the LOCAL key
moves the LOCAL flag and reports a change of it; the accepted change is delivered with it, and nothing else changes (R140, R142). That the
level which the flag already has queues no report is the model's reading (log entry 29). PLUNGER_PRESS and PLUNGER_RELEASE with no such
change accepted do nothing (the model's choice, log entry 2). -/
def Obligations.InputsThatOnlyReport : Prop :=
  ∀ (e : Env) (b : Blocks) (q : List Instr),
    (∀ t l stamp, b.field.waiting.plunger.get t = some ⟨true, stamp⟩ → b.power.latches.get t = l → l.isSet = true →
      exec (.plungerPress t) ⟨⟨e, b⟩, q⟩ = .next ⟨⟨e, queueReport e
        ((sentPlunger b t).setLatch t { l with ignored := countUp 255 l.ignored })
        (.plungerPressed t (countUp 255 l.ignored))⟩, q⟩)
    ∧ (∀ t stamp, b.field.waiting.plunger.get t = some ⟨false, stamp⟩ →
      exec (.plungerRelease t) ⟨⟨e, b⟩, q⟩ = .next ⟨⟨e, queueReport e (sentPlunger b t) (.plungerReleased t)⟩, q⟩)
    ∧ (∀ t, b.field.waiting.plunger.get t = none →
      exec (.plungerPress t) ⟨⟨e, b⟩, q⟩ = .next ⟨⟨e, b⟩, q⟩ ∧ exec (.plungerRelease t) ⟨⟨e, b⟩, q⟩ = .next ⟨⟨e, b⟩, q⟩)
    ∧ (∀ level, b.field.waiting.key = some level →
      exec (.localKeyChange level) ⟨⟨e, b⟩, q⟩ = .next ⟨⟨e,
        if b.power.keyLocal = level then sentKey b
        else queueReport e ((sentKey b).setPower { b.power with keyLocal := level }) (.keyChange level)⟩, q⟩)

/-! ### What every block shares -/

/-- A report joins the report queue with its time; an idle transmitter takes it at once with the discard count, and a full queue
gives up its oldest and counts it (R214, R215). Contents above 91 characters go in parts of 89 (R216); that the first part has number 1
and that every part but the last is full is the model's choice (log entry 65). However many reports come
while a frame is being sent, the queue holds the last 32 of them in order, and the rest are counted up to 255. A report leaves with its
event code, the discard count, its time and its contents (R215), on the channel of R217's table with the code of that table, of R130 or of
R165, its values coded as R208 gives, in a frame of R207. Where the owner's rule leaves them open, the platform or breaker that stands
first, the count before a list, the absent markers and the place of the head message id are the model's (log entries 12, 57 and 58), and so
is the cause in event 1 of POWER alone (log entry 14). -/
def Obligations.ReportQueueKeepsTheLast : Prop :=
  (∀ (e : Env) (b : Blocks) (body : ReportBody),
    (body.contents.length ≤ 91 →
      queueReport e b body = b.setPort (b.port.pushReport { body := body, time := e.time.service, part := none }))
    ∧ (91 < body.contents.length → ∀ n, n = (body.contents.length + 88) / 89 →
      queueReport e b body = b.setPort (((List.range n).map fun i =>
        ({ body := body, time := e.time.service, part := some { number := i + 1, isLast := i + 1 = n } } : Report)).foldl
          Port.pushReport b.port)))
  ∧ (∀ (p : Port) (r : Report), p.tx = none → p.pushReport r = { p with tx := some (.report r p.discard), discard := 0 })
  ∧ (∀ (p : Port) (rs : List Report) (lost : Nat), p.tx.isSome → p.reports.length ≤ 32 → p.discard ≤ 255 →
      lost = (p.reports ++ rs).length - 32 →
      (rs.foldl Port.pushReport p).reports = (p.reports ++ rs).drop lost
      ∧ (rs.foldl Port.pushReport p).discard = min 255 (p.discard + lost)
      ∧ (rs.foldl Port.pushReport p).tx = p.tx ∧ (rs.foldl Port.pushReport p).answers = p.answers)
  ∧ (∀ (r : Report) (discard : Nat) (body : List Byte),
      (r.part = none → r.payload discard = [char r.body.event, char discard] ++ chars3 r.time ++ r.body.contents)
      ∧ (∀ n last, r.part = some ⟨n, last⟩ → r.payload discard = [char r.body.event, char discard] ++ chars3 r.time
          ++ [char n, if last then 1 else 0] ++ (r.body.contents.drop (89 * (n - 1))).take 89)
      ∧ (body = [char (r.payload discard).length, char r.body.channel.code, 0x82, 0] ++ r.payload discard →
        (PortOut.report r discard).chars = 0xD4 :: body ++ chars2 (crc body).toNat))
  ∧ (∀ sends : ReportBody → Nat → Nat → List Byte → Prop,
      (∀ r channel event contents, sends r channel event contents ↔
        r.channel.code = channel ∧ r.event = event ∧ r.contents = contents) →
      (∀ node, sends (.started node) 1 1 [char node, 0]) ∧ sends .holdoverBegun 1 2 [] ∧ sends .holdoverEnded 1 3 []
      ∧ sends .dayOverrun 1 4 [] ∧ (∀ node, sends (.silent node) 1 5 [char node])
      ∧ (∀ check cls content truncated length, sends (.frameErrors ⟨check, cls, content, truncated, length⟩) 1 6
          (chars2 check ++ chars2 cls ++ chars2 content ++ chars2 truncated ++ chars2 length))
      ∧ (∀ cause cls payload, sends (.txDrop cause cls payload) 1 7 ([char cause.code, cls.code] ++ payload))
      ∧ (∀ peer before after, sends (.peerLiveness peer before after) 1 8 [char peer, char before.code, char after.code])
      ∧ (∀ t trip dact, sends (.lateWithdraw t trip dact) 1 9 ([char t.code] ++ chars2 trip ++ chars3 dact))
      ∧ (∀ head z origin kind cause, sends (.messageDropped head z origin kind cause) 1 10
          (opt2 head ++ [char z.code, char origin.code] ++ opt1 (kind.map AutoKind.code) ++ [char cause.code]))
      ∧ (∀ z, sends (.zoneFaultBegun z) 1 11 [char z.code]) ∧ (∀ z, sends (.zoneFaultEnded z) 1 12 [char z.code])
      ∧ (∀ channel kind tag, sends (.requestOverrun channel kind tag) 1 13 [channel, kind, tag])
      ∧ (∀ c : ArrivalContents, sends (.arrival c) 3 1 ([char c.track.code] ++ chars2 c.trip ++ chars3 c.arrival
          ++ [char (outcomeCode c.outcome), char c.skipped] ++ opt2 c.entry ++ opt3 c.scheduled ++ opt3 c.target
          ++ optSigned3 c.deviation ++ opt1 c.gain))
      ∧ (∀ t target deviation gain, sends (.recomputation t target deviation gain) 3 2
          ([char t.code] ++ chars3 target ++ optSigned3 deviation ++ [char gain]))
      ∧ (∀ t phase reasons, sends (.stateAndSet t phase reasons) 3 3 [char t.code, char phase.state.code, char reasons.code])
      ∧ (∀ t trip dact cls lateness, sends (.departed t trip dact cls lateness) 3 4
          ([char t.code] ++ chars2 trip ++ chars3 dact ++ [char cls.code] ++ optSigned3 lateness))
      ∧ (∀ t rise stamp, sends (.outOfStep t rise stamp) 3 5 ([char t.code, if rise then 0 else 1] ++ chars3 stamp))
      ∧ (∀ t trip upstream source length, sends (.queueAddition t trip upstream source length) 3 6
          ([char t.code] ++ chars2 trip ++ chars3 upstream ++ [char source.code, char length]))
      ∧ (∀ t duplicate trip upstream, sends (.offerRefused t duplicate trip upstream) 3 7
          ([char t.code, if duplicate then 0 else 1] ++ chars2 trip ++ chars3 upstream))
      ∧ (∀ t trip, sends (.flushed t trip) 3 8 ([char t.code] ++ chars2 trip))
      ∧ (∀ t trip departure, sends (.amendmentDropped t trip departure) 3 9 ([char t.code] ++ chars2 trip ++ chars3 departure))
      ∧ (∀ br state cause, sends (.breakerChange br state cause) 4 1
          ([char br.code, char state.code] ++ opt1 (cause.map ChangeCause.code)))
      ∧ (∀ br count overlock, sends (.lockoutChange br count overlock) 4 2 [char br.code, char count, if overlock then 1 else 0])
      ∧ (∀ sec before after, sends (.sectionChange sec before after) 4 3
          [char sec.track.code, char sec.gap, char before.code, char after.code])
      ∧ (∀ id sec state, sends (.itemChange id sec state) 4 4
          [char id.origin, char id.serial, char sec.track.code, char sec.gap, char state.code])
      ∧ (∀ t id, sends (.latchSet t (some id)) 4 5 [char t.code, char id.origin, char id.serial]
          ∧ sends (.latchCleared t (some id)) 4 6 [char t.code, char id.origin, char id.serial])
      ∧ (∀ t, sends (.latchSet t none) 4 5 [char t.code, 0xFF, 0xFF] ∧ sends (.latchCleared t none) 4 6 [char t.code, 0xFF, 0xFF])
      ∧ (∀ t ignored, sends (.plungerPressed t ignored) 4 7 [char t.code, char ignored])
      ∧ (∀ t, sends (.plungerReleased t) 4 8 [char t.code]) ∧ (∀ isSet, sends (.keyChange isSet) 4 9 [if isSet then 1 else 0])
      ∧ (∀ sec requester reason, sends (.restoreRefused sec requester reason) 4 10
          [char sec.track.code, char sec.gap, char requester, char reason])
      ∧ (∀ r, sends (.incident .raised r) 5 1 r.fields ∧ sends (.incident .acknowledged r) 5 3 r.fields
          ∧ sends (.incident .changed r) 5 4 r.fields ∧ sends (.incident .escalated r) 5 5 r.fields
          ∧ (∀ reason, sends (.incident (.closed reason) r) 5 6 (r.fields ++ [char reason]))
          ∧ sends (.incident .copyStored r) 5 7 r.fields ∧ sends (.incident .copyRefused r) 5 8 r.fields
          ∧ sends (.incident .copyUpdated r) 5 9 r.fields ∧ sends (.incident .dropped r) 5 10 r.fields
          ∧ sends (.incident .evicted r) 5 11 r.fields ∧ sends (.incident .orphaned r) 5 12 r.fields
          ∧ sends (.incident .adopted r) 5 13 r.fields ∧ sends (.incident .yielded r) 5 14 r.fields)
      ∧ (∀ kind span platform trip, sends (.raiseLost kind span platform trip) 5 2
          ([char kind.code, char span.tracks.code, char span.first, char span.last] ++ platformChars platform ++ opt2 trip))
      ∧ (∀ channel z message phrases, sends (.play channel z message phrases) 6 1
          ([char channel, char z.code] ++ chars2 message ++ [char phrases.length] ++ phrases.flatMap chars2))
      ∧ ∀ channel z message cause, sends (.stop channel z message cause) 6 2
          ([char channel, char z.code] ++ chars2 message ++ opt1 (cause.map StopCause.code)))
  ∧ [TxDropCause.attempts, .evicted, .full].map TxDropCause.code = [0, 1, 2]
  ∧ [Liveness.unheard, .current, .stale, .lost].map Liveness.code = [0, 1, 2, 3]
  ∧ [Origin.operator, .timetable, .incident, .power, .peer].map Origin.code = [0, 1, 2, 3, 4]
  ∧ [AutoKind.approach, .delay, .suspend, .evacuate, .stalled, .held].map AutoKind.code = [0, 1, 2, 3, 4, 5]
  ∧ [DropCause.expired, .store, .queue, .displaced, .failed, .withdrawn].map DropCause.code = [0, 1, 2, 3, 4, 5]
  ∧ [some MatchOutcome.identified, some .unidentified, none].map outcomeCode = [0, 1, 2]
  ∧ [PlatformState.vacant, .dwell, .held, .released].map PlatformState.code = [0, 1, 2, 3]
  ∧ [Phase.dwell, .held, .released].map Phase.state = [.dwell, .held, .released]
  ∧ [DepartureClass.normal, .lateWithdraw, .unreleased].map DepartureClass.code = [0, 1, 2]
  ∧ [ApproachSource.heard, .injected].map ApproachSource.code = [0, 1]
  ∧ [BreakerState.closed, .opening, .opened, .closing, .failed].map BreakerState.code = [0, 1, 2, 3, 4]
  ∧ [ChangeCause.arrival, .expiry, .trip, .uncommandedClose, .settlement, .followInput].map ChangeCause.code = [0, 1, 2, 3, 4, 5]
  ∧ [SectionState.live, .dead, .unsure].map SectionState.code = [0, 1, 2]
  ∧ [ItemState.pending, .confirmed, .failed].map ItemState.code = [0, 1, 2]
  ∧ [StopCause.preempt, .withdraw, .deadline].map StopCause.code = [0, 1, 2]
  ∧ ∀ power incident estop stagger operator : Bool, Reasons.code
      { power := power, incident := incident, estop := estop, stagger := stagger, operator := operator } =
      (if power then 1 else 0) + (if incident then 2 else 0) + (if estop then 4 else 0) + (if stagger then 8 else 0)
        + (if operator then 16 else 0)

/-- A frame that a block queues: discarded in CONFIGURING and in SILENT; otherwise placed behind every frame of its rank or lower;
at a full queue it takes the place of the newest waiting frame of the highest rank above its own, which is dropped and reported,
or is dropped itself (R39, R40). A POWER frame then renews a queued STATUS: the one that waits, or that stands in BACKOFF with its
attempt count, takes the new snapshot, and one being sent keeps its own (R41). -/
def Obligations.OutboundQueueAdmission : Prop :=
  ∀ (e : Env) (b : Blocks) (f : Frame),
    (e.nodeState = .configuring ∨ b.bus.silent = true → queueFrame e b f = b)
    ∧ (e.nodeState ≠ .configuring → b.bus.silent = false →
        queueFrame e b f = if f.cls = .power then (admitFrame e b f).setBus
            (renewStatus (admitFrame e b f).bus (snapshot e (admitFrame e b f))) else admitFrame e b f)
    ∧ (b.bus.occupied < 16 → admitFrame e b f = b.setBus { b.bus with
        waiting := b.bus.waiting.takeWhile (fun g => g.cls.rank ≤ f.cls.rank) ++ f
          :: b.bus.waiting.dropWhile (fun g => g.cls.rank ≤ f.cls.rank)
        tx := if b.bus.tx = .idle then .waiting else b.bus.tx })
    ∧ (∀ (rest : List Frame) (g : Frame) (d : Blocks), 16 ≤ b.bus.occupied → b.bus.waiting = rest ++ [g] → f.cls.rank < g.cls.rank →
        d = b.setBus { b.bus with waiting := rest, dropped := countUp 65535 b.bus.dropped } →
        admitFrame e b f = (if g.cls = .status then d else queueReport e d (.txDrop .evicted g.cls g.payload)).setBus { d.bus with
          waiting := rest.takeWhile (fun g => g.cls.rank ≤ f.cls.rank) ++ f
            :: rest.dropWhile (fun g => g.cls.rank ≤ f.cls.rank)
          tx := if b.bus.tx = .idle then .waiting else b.bus.tx })
    ∧ (∀ d, 16 ≤ b.bus.occupied → (∀ g, b.bus.waiting.getLast? = some g → g.cls.rank ≤ f.cls.rank) →
        d = b.setBus { b.bus with dropped := countUp 65535 b.bus.dropped } →
        admitFrame e b f = if f.cls = .status then d else queueReport e d (.txDrop .full f.cls f.payload))
    ∧ ∀ (l : Linebus) (c : StatusContents) (w : List Frame), w = l.waiting.map (fun g => if g.cls = .status then .status c else g) →
      (∀ h, l.tx = .backoff h → h.frame.cls = .status →
        renewStatus l c = { l with tx := .backoff { h with frame := .status c } })
      ∧ ((∀ h, l.tx = .backoff h → h.frame.cls ≠ .status) → renewStatus l c = { l with waiting := w })
      ∧ ((∀ g ∈ l.waiting, g.cls ≠ .status) → (∀ h, l.tx = .backoff h → h.frame.cls ≠ .status) → renewStatus l c = l)

/-! ### Traction power -/

/-- An accepted press at a CLEAR latch, with room in the table: the latch is SET and holds the id of a new local EMERGENCY_STOP of
severity 4 whose span is the platform's track over gaps k-1 to k, or the one of them that exists at a terminus, and whose isolation list
holds the adjacent sections, of which the lower is isolated first (the model's choice, log entry 54); both breakers of the track hold
the id, none that did not hold it before is left CLOSED or
CLOSING, and one of them that was FAILED with input OPEN is OPEN (R118; that the addition of an id gives this open command is log
entry 43); the alarm sounds, the starter is INACTIVE and ESTOP stands at a platform in HELD; the peers, the timetable and the
approaching queues are untouched (R139, R125, R149, R164, R102). With a full table the latch, the incident, the lockouts and the alarm
are the same once the table has made the room that R148 always gives a severity of 4. -/
def Obligations.EmergencyStopLocksTheTrack : Prop :=
  ∀ (e : Env) (b : Blocks) (q : List Instr) (t : Track) (stamp : Nat), b.field.waiting.plunger.get t = some ⟨true, stamp⟩ →
    (b.power.latches.get t).isSet = false → ∀ span : Span,
    span = { tracks := .one t, first := if e.nodeNumber = 0 then 0 else e.nodeNumber - 1
             last := if e.nodeNumber + 2 ≤ e.lineCount then e.nodeNumber else e.nodeNumber - 1 } →
    (b.incidents.records.length < 32 → (b.field.starters.get t = true → (b.platforms.get t).standing.state = .released) →
    ∃ b' id r, exec (.plungerPress t) ⟨⟨e, b⟩, q⟩ = .next ⟨⟨e, b'⟩, q⟩
      ∧ id = ⟨e.nodeNumber, nextSerial (b.incidents.serials e.nodeNumber) b.incidents.lastSerial⟩
      ∧ b'.power.latches.get t = { isSet := true, id := some id, ignored := 0 }
      ∧ b'.incidents.find id = some r ∧ r.kind = .emergencyStop ∧ r.severity = 4 ∧ r.isLocal = true ∧ r.owner = e.nodeNumber
      ∧ r.platform = some ⟨e.nodeNumber, t⟩ ∧ r.trip = none ∧ r.raised = e.time.service ∧ r.items.map (·.sec) = e.adjacent t
      ∧ r.span = span
      ∧ (∀ br x, br.track = t → b.power.breakers.get br = some x → ∃ y, b'.power.breakers.get br = some y ∧ id ∈ y.lockout
          ∧ (id ∉ x.lockout → y.condition ≠ some .closed ∧ (∀ c, y.condition ≠ some (.closing c))
            ∧ (x.condition = some .failed → x.inputClosed = some false → y.condition = some .opened)))
      ∧ b'.incidents.alarm = true ∧ b'.field.alarmLine = true ∧ b'.field.starters.get t = false
      ∧ (∀ d, (b'.platforms.get t).standing = .occupied .held d → d.reasons.estop = true)
      ∧ b'.field.filters = b.field.filters ∧ b'.field.waiting = (sentPlunger b t).field.waiting
      ∧ b'.peers = b.peers ∧ b'.timetable = b.timetable ∧ b'.describer = b.describer)
    ∧ ∀ y : Blocks, makeRoom e ((sentPlunger b t).setLatch t { isSet := true, id := none, ignored := 0 }) 4 true = some y →
      y.incidents.records.length < 32 → ∃ b' id r, exec (.plungerPress t) ⟨⟨e, b⟩, q⟩ = .next ⟨⟨e, b'⟩, q⟩
        ∧ id = ⟨e.nodeNumber, nextSerial (y.incidents.serials e.nodeNumber) y.incidents.lastSerial⟩
        ∧ b'.power.latches.get t = { isSet := true, id := some id, ignored := 0 }
        ∧ b'.incidents.find id = some r ∧ r.kind = .emergencyStop ∧ r.severity = 4 ∧ r.isLocal = true ∧ r.owner = e.nodeNumber
        ∧ r.platform = some ⟨e.nodeNumber, t⟩ ∧ r.span = span ∧ r.items.map (·.sec) = e.adjacent t
        ∧ (∀ br x, br.track = t → y.power.breakers.get br = some x → ∃ z, b'.power.breakers.get br = some z ∧ id ∈ z.lockout)
        ∧ b'.incidents.alarm = true ∧ b'.field.alarmLine = true

/-- An accepted settlement of a breaker's status input while its state is absent: the state is taken from the level, with no movement, and
an open command follows where a lockout stands on a breaker that settles CLOSED (R117). -/
def Obligations.BreakerSettlementTakesLevel : Prop :=
  ∀ (e : Env) (b b' : Blocks) (q : List Instr) (br : Breaker) (r : BreakerRecord) (level : Bool) (stamp : Nat),
    b.power.breakers.get br = some r → r.condition = none → b.field.waiting.status.get br = some ⟨level, stamp⟩ →
    b' = (sentStatus b br).setBreaker br { r with inputClosed := some level } →
    let settled := setCondition e b' br (if level then .closed else .opened) (some .settlement)
    exec (.breakerSettlement br level) ⟨⟨e, b⟩, q⟩ = .next ⟨⟨e,
      if level = true ∧ (r.lockout ≠ [] ∨ r.overlock = true) then openCommand e settled br else settled⟩, q⟩
    ∧ settled.condition br = some (if level then .closed else .opened)

/-- An accepted change of a breaker that a command is moving: the rise that closes a CLOSING, the fall that opens an OPENING, the
passing rise of an OPENING that overtook a CLOSING, which is only marked, and the third advance without that rise (R120), whose report
gives command arrival as its cause, the model's choice (log entry 14). Each change of a breaker's state queues its POWER frame and
report, writes the state of its section, LIVE where either of the breaker and the far-end report energises it, DEAD where both are
OPEN, and UNSURE otherwise (R127), and at OPEN checks the isolation items of the section (R132). A section state that changes is
reported, before and after; the regulator whose section ahead it is is told; on becoming DEAD in SERVICE a SUSPEND is offered to the
platform's zone and to CONCOURSE, and on leaving DEAD the chains linked to the section are withdrawn (R128, R201, R193). That the first
state of a section is told and not reported is the model's reading (log entry 25); that the breaker's report comes before what its
section and items bring is its choice (log entry 55), as are the order of the SUSPEND offers and of the zones withdrawn from (log entry
54) and the one run of the arbiter after withdrawals (log entry 24). -/
def Obligations.BreakerArrivals : Prop :=
  (∀ (e : Env) (b : Blocks) (q : List Instr) (br : Breaker) (r : BreakerRecord) (c : Command) (f : Bool → Blocks),
    b.power.breakers.get br = some r → (∀ level, f level = (sentStatus b br).setBreaker br { r with inputClosed := some level }) →
    (∀ stamp, b.field.waiting.status.get br = some ⟨true, stamp⟩ → r.condition = some (.closing c) →
      exec (.breakerStatusChange br true) ⟨⟨e, b⟩, q⟩ = .next ⟨⟨e, setCondition e (f true) br .closed (some .arrival)⟩, q⟩)
    ∧ (∀ stamp, b.field.waiting.status.get br = some ⟨false, stamp⟩ → r.condition = some (.opening c) →
      exec (.breakerStatusChange br false) ⟨⟨e, b⟩, q⟩ = .next ⟨⟨e, setCondition e (f false) br .opened (some .arrival)⟩, q⟩)
    ∧ (∀ stamp, b.field.waiting.status.get br = some ⟨true, stamp⟩ → r.condition = some (.opening c) → c.overtook = true →
      exec (.breakerStatusChange br true) ⟨⟨e, b⟩, q⟩ = .next ⟨⟨e,
        (sentStatus b br).setBreaker br
          { r with inputClosed := some true, condition := some (.opening { c with passing := true }) }⟩, q⟩)
    ∧ (∀ stamp, b.field.waiting.status.get br = some ⟨true, stamp⟩ → r.condition = some (.opening c) → c.overtook = false →
      exec (.breakerStatusChange br true) ⟨⟨e, b⟩, q⟩ = .next ⟨⟨e, f true⟩, q⟩)
    ∧ (r.condition = some (.opening c) → c.overtook = true → c.passing = false → 3 ≤ c.count → r.inputClosed = some false →
      exec (.thirdAdvanceOpen br) ⟨⟨e, b⟩, q⟩ = .next ⟨⟨e, setCondition e b br .opened (some .arrival)⟩, q⟩))
  ∧ (∀ (e : Env) (x u : Blocks) (br : Breaker) (r : BreakerRecord) (c : Condition) (cause : Option ChangeCause) (far : Option BreakerState)
      (s : SectionState), x.power.breakers.get br = some r → far = (farReport e x br).map (·.1) →
      s = (if c ≠ .opened ∨ far ≠ none ∧ far ≠ some .opened then .live else if far = some .opened then .dead else .unsure) →
      (setCondition e x br c cause).power.breakers.get br = some { r with condition := some c, sectionState := some s }
      ∧ (u = queueReport e (queuePowerFrame e (x.setBreaker br { r with condition := some c }) br none) (.breakerChange br c.state cause) →
        setCondition e x br c cause =
          if c = .opened then confirmItems e (sectionUpdate e u br) (fun sec => decide (sec = e.fed br)) else sectionUpdate e u br))
  ∧ (∀ (e : Env) (x w : Blocks) (br : Breaker) (r : BreakerRecord) (far : Option BreakerState) (s : SectionState) (ahead : Bool),
      x.power.breakers.get br = some r → far = (farReport e x br).map (·.1) →
      s = (if (∃ c, r.condition = some c ∧ c ≠ .opened) ∨ far ≠ none ∧ far ≠ some .opened then .live
        else if r.condition = some .opened ∧ far = some .opened then .dead else .unsure) →
      ahead = decide (e.sectionAhead br.track = some (e.fed br)) → w = x.setBreaker br { r with sectionState := some s } →
      (r.condition = none ∨ r.sectionState = some s → sectionUpdate e x br = x)
      ∧ (r.condition ≠ none → r.sectionState = none → sectionUpdate e x br = if ahead = true then toldPower e w br.track else w)
      ∧ ∀ (before : SectionState) (v y z : Blocks), r.condition ≠ none → r.sectionState = some before → before ≠ s →
        v = queueReport e w (.sectionChange (e.fed br) before s) → y = (if ahead = true then toldPower e v br.track else v) →
        z = (if ahead = true ∧ s = .dead ∧ e.nodeState = .service then offerSuspend e y br.track (e.fed br) else y) →
        sectionUpdate e x br = if before = .dead then withdrawSection e z (e.fed br) else z)
  ∧ (∀ (e : Env) (x : Blocks) (t : Track) (sec : TractionSection) (o : Zone → Offer),
      (∀ z, o z =
        { zone := z, priority := 5, repeats := 3, interval := 1800, notBefore := none, expiry := none, link := some (.traction sec)
          origin := .power, kind := some .suspend, members := [e.templates.suspend] }) →
      offerSuspend e x t sec = admitOrDrop e (admitOrDrop e x (o (.ofTrack t))) (o .concourse))
  ∧ ∀ (e : Env) (x : Blocks) (sec : TractionSection),
    (∀ z, ∀ c ∈ (withdrawSection e x sec).announce.queues.get z, c.link ≠ some (.traction sec))
    ∧ ((∀ z, ∀ c ∈ x.announce.queues.get z, c.link ≠ some (.traction sec)) → withdrawSection e x sec = x)
    ∧ ∀ (z : Zone) (c : Chain) (y : Blocks), c.place = .waiting → y = discardChain e x z c .withdrawn →
      (∀ z', (x.announce.queues.get z').filter (fun d => decide (d.link = some (.traction sec))) = if z' = z then [c] else []) →
      withdrawSection e x sec = if x.announce.mask = true ∧ y.announce.mask = false then arbiter e y else y

/-- An accepted fall of a CLOSED breaker is a protection trip: it is OPEN, a SECTION_TRIP of severity 3 is raised on the section it feeds, its
id joins the breaker's lockout set, and the isolation of the section begins (R123). A rise of an OPEN breaker is an uncommanded
close: it is CLOSED, an UNCOMMANDED_CLOSE of severity 4 is raised, and an open command follows where a lockout stands (R124). An
accepted change of a FAILED breaker raises nothing: its state follows the input, and an open command follows where it becomes CLOSED
and a lockout stands (R122). -/
def Obligations.TripsAndUncommandedCloses : Prop :=
  ∀ (e : Env) (b b' : Blocks) (q : List Instr) (br : Breaker) (r : BreakerRecord) (level : Bool) (stamp : Nat)
      (x : Blocks × Option IncidentId),
    b.power.breakers.get br = some r → b.field.waiting.status.get br = some ⟨level, stamp⟩ →
    b' = (sentStatus b br).setBreaker br { r with inputClosed := some level } →
    (level = false → r.condition = some .closed →
      x = raiseIncident e (setCondition e b' br .opened (some .trip))
        { kind := .sectionTrip, severity := 3, span := .one (e.fed br), platform := none, trip := none } none →
      exec (.breakerStatusChange br false) ⟨⟨e, b⟩, q⟩ = .next ⟨⟨e, match x.2 with
        | some id => beginIsolation e (lockoutAdd e x.1 br id false) id (e.fed br)
        | none => x.1⟩, q⟩)
    ∧ (level = true → r.condition = some .opened →
      x = raiseIncident e (setCondition e b' br .closed (some .uncommandedClose))
        { kind := .uncommandedClose, severity := 4, span := .one (e.fed br), platform := none, trip := none } none →
      ∃ r', x.1.power.breakers.get br = some r' ∧ r'.condition = some .closed
        ∧ exec (.breakerStatusChange br true) ⟨⟨e, b⟩, q⟩ = .next ⟨⟨e,
          if r'.lockout ≠ [] ∨ r'.overlock = true then openCommand e x.1 br else x.1⟩, q⟩)
    ∧ (r.condition = some .failed → ∀ y, y = setCondition e b' br (if level then .closed else .opened) (some .followInput) →
      y.condition br = some (if level then .closed else .opened)
      ∧ exec (.breakerStatusChange br level) ⟨⟨e, b⟩, q⟩ = .next ⟨⟨e,
        if level = true ∧ (r.lockout ≠ [] ∨ r.overlock = true) then openCommand e y br else y⟩, q⟩)

/-- A command that reaches its time limit puts the breaker in FAILED with BREAKER_FAIL raised, whose id is its fail id, and ends a
restore wait with ABANDONED (R121; that the raise comes before the POWER frame and report of FAILED is the model's order, log entry
41); a restore wait of 100 advances ends with RESTORE_INCOMPLETE, a POWER frame and a POWER
report (R138). -/
def Obligations.BreakerTimers : Prop :=
  ∀ (e : Env) (b : Blocks) (q : List Instr) (br : Breaker) (r : BreakerRecord), b.power.breakers.get br = some r →
    (∀ (c : Command) (x : Blocks × Option IncidentId), r.condition = some (.opening c) ∨ r.condition = some (.closing c) →
      c.limit ≤ c.count →
      x = raiseIncident e (b.setBreaker br { r with condition := some .failed })
        { kind := .breakerFail, severity := 3, span := .one (e.fed br), platform := none, trip := none } none →
      exec (.breakerTimeLimit br) ⟨⟨e, b⟩, q⟩ = .next ⟨⟨e, endWait e
        (setCondition e (modifyBreaker x.1 br fun y => { y with failId := x.2 }) br .failed (some .expiry)) br .abandoned⟩, q⟩)
    ∧ ∀ w : RestoreWait, r.wait = some w → 100 ≤ w.count →
      exec (.restoreWaitTimeout br) ⟨⟨e, b⟩, q⟩ = .next ⟨⟨e, queueReport e
        (queuePowerFrame e (b.setBreaker br { r with wait := none }) br (some .restoreIncomplete))
        (.restoreRefused (e.fed br) w.requester 7)⟩, q⟩

/-- A PENDING isolation item at its repeat point: CONFIRMED where both ends are known OPEN, else another ISOLATE frame up to the
fifth, and after it FAILED with the escalation of its incident: severity and floor 4 and ISOLATION_FAILED, or at severity 4 the flag
alone with its CHANGE frame, or nothing where the flag is set already (R132, R153); the report of the item before the escalation is the
model's choice (log entry 55). An end is known OPEN where it is this node and its record is OPEN, or another node that is CURRENT or
STALE and whose report for the feeding breaker is OPEN (R132). The far-end report of a breaker is the state and LOCAL flag of the report
held for the breaker at the other end of its section, or UNKNOWN where there is none or its node is UNHEARD or LOST (R4, R55). -/
def Obligations.IsolationRepeatPoint : Prop :=
  (∀ (e : Env) (b b' : Blocks) (q : List Instr) (id : IncidentId) (sec : TractionSection) (i : IsolationItem),
    b.item id sec = some i → i.state = .pending → 20 ≤ i.repeats → b' = setItem b id sec (fun i => { i with repeats := 0 }) →
    (bothOpen e b sec = true → exec (.isolateRepeat id sec) ⟨⟨e, b⟩, q⟩ = .next ⟨⟨e,
      queueReport e (setItem b' id sec fun i => { i with state := .confirmed }) (.itemChange id sec .confirmed)⟩, q⟩)
    ∧ (bothOpen e b sec = false → i.sends < 5 → exec (.isolateRepeat id sec) ⟨⟨e, b⟩, q⟩ = .next ⟨⟨e,
      setItem (queueFrame e b' (.isolate sec id)) id sec fun i => { i with sends := i.sends + 1, repeats := 0 }⟩, q⟩)
    ∧ (bothOpen e b sec = false → 5 ≤ i.sends → exec (.isolateRepeat id sec) ⟨⟨e, b⟩, q⟩ = .next ⟨⟨e,
      escalate e (queueReport e (setItem b' id sec fun i => { i with state := .failed }) (.itemChange id sec .failed)) id⟩, q⟩)
    ∧ ∀ r o, b.incidents.find id = some r → r.holding = .owned o →
      (r.isolationFailed = true → escalate e b id = b)
      ∧ (r.isolationFailed = false → r.severity = 4 → escalate e b id =
        queueIncidentFrame e (b.modifyRecord id fun r => { r with isolationFailed := true }) id .change none)
      ∧ (r.isolationFailed = false → r.severity ≠ 4 → ∃ r' o', (escalate e b id).incidents.find id = some r'
        ∧ r'.severity = 4 ∧ r'.isolationFailed = true ∧ r'.holding = .owned o' ∧ o' = { o with floor := 4, refresh := 0 }))
  ∧ ∀ (e : Env) (b : Blocks),
    (∀ (sec : TractionSection) (knownOpen : Nat → Breaker → Prop),
      (∀ n br, knownOpen n br ↔ if n = e.nodeNumber then ∃ r, b.power.breakers.get br = some r ∧ r.condition = some .opened
        else ∃ p x, b.peers.table[n]? = some p ∧ (p.liveness = .current ∨ p.liveness = .stale) ∧ p.reports.get br = some x ∧ x.state = .opened) →
      (bothOpen e b sec = true ↔ match sec.track with
        | .up => knownOpen sec.gap .uh ∧ knownOpen (sec.gap + 1) .ul
        | .down => knownOpen sec.gap .dh ∧ knownOpen (sec.gap + 1) .dl))
    ∧ ∀ (br far : Breaker) (n : Nat) (p : PeerEntry),
      (br, n, far) ∈ [(.ul, e.nodeNumber - 1, .uh), (.uh, e.nodeNumber + 1, .ul), (.dl, e.nodeNumber - 1, .dh), (.dh, e.nodeNumber + 1, .dl)] →
      e.farNode br = n ∧ (b.peers.table[n]? = some p →
        (p.liveness = .current ∨ p.liveness = .stale → farReport e b br = (p.reports.get far).map fun x => (x.state, x.keyLocal))
        ∧ (p.liveness = .unheard ∨ p.liveness = .lost → farReport e b br = none))

/-! ### Platform regulation -/

/-- An accepted rise in READY at a VACANT platform begins a MANUAL dwell at its stamp with the trip at the head of the approaching
queue, or trip 0, no target and an empty set (R91, R85; the headway the record keeps is the model's field, 0 here, log entry 28);
an accepted rise at a platform that is not VACANT and an accepted fall at one that is are out of step: they change nothing but
that they are delivered, and are reported with their stamp (R91). A command whose change the input has not accepted does
nothing (the model's choice, log entry 2). -/
def Obligations.ManualArrivalsAndOutOfStep : Prop :=
  ∀ (e : Env) (b : Blocks) (q : List Instr) (t : Track) (stamp : Nat),
    (∀ (b' : Blocks) (d : Dwell), b.field.waiting.occupancy.get t = some ⟨true, stamp⟩ → b' = sentOccupancy b t →
      e.nodeState = .ready → (b.platforms.get t).standing = .vacant →
      d.mode = .manual ∧ d.entry = none ∧ d.outcome = none ∧ d.skipped = 0 ∧ d.arrival = stamp ∧ d.scheduled = none
        ∧ d.target = none ∧ d.deviation = none ∧ d.targetOver = false ∧ d.reasons = .empty ∧ d.staggerOpen = false
        ∧ d.staggerTime = none ∧ d.followerAvailable = false ∧ d.grace = none ∧ d.heldLong = false ∧ d.headway = 0 →
      (b.describer.get t = [] → d.trip = 0 → exec (.occupancyRise t) ⟨⟨e, b⟩, q⟩ = .next ⟨⟨e, queueReport e
        (b'.setPlatform t { b.platforms.get t with standing := .occupied .dwell d }) (arrivalReport t d none)⟩, q⟩)
      ∧ ∀ a rest, b.describer.get t = a :: rest → d.trip = a.trip →
        exec (.occupancyRise t) ⟨⟨e, b⟩, q⟩ = .next ⟨⟨e, queueReport e
          (writeDwell (takeHead e b' t a rest) t .dwell d) (arrivalReport t d none)⟩, q⟩)
    ∧ (e.nodeState ≠ .configuring → b.field.waiting.occupancy.get t = some ⟨true, stamp⟩ →
      ∀ p d, (b.platforms.get t).standing = .occupied p d →
      exec (.occupancyRise t) ⟨⟨e, b⟩, q⟩ = .next ⟨⟨e, queueReport e (sentOccupancy b t) (.outOfStep t true stamp)⟩, q⟩)
    ∧ (e.nodeState ≠ .configuring → b.field.waiting.occupancy.get t = some ⟨false, stamp⟩ →
      (b.platforms.get t).standing = .vacant →
      exec (.departure t) ⟨⟨e, b⟩, q⟩ = .next ⟨⟨e, queueReport e (sentOccupancy b t) (.outOfStep t false stamp)⟩, q⟩)
    ∧ (b.field.waiting.occupancy.get t = none →
      exec (.occupancyRise t) ⟨⟨e, b⟩, q⟩ = .next ⟨⟨e, b⟩, q⟩ ∧ exec (.departure t) ⟨⟨e, b⟩, q⟩ = .next ⟨⟨e, b⟩, q⟩)

/-- An accepted rise in SERVICE at a VACANT platform begins a REGULATED dwell of the matched train, its target computed from the arrival,
which is its stamp, the entry's departure, the last departure, the headway and the follower under the effective gain; the release check runs
at once where the target is already reached (R90, R92 to R96). The headway is the departure less that of the entry standing immediately
before, in whatever state, brought into Wmin to 6,000, or Hdefault without such an entry or for EXTRA (R93); the gain is 8 for EXTRA and
while the table holds an incident that disrupts, else the platform's own (R92). That the match comes before the report and the release check
last is the model's order (log entry 31), and that the record keeps the headway is its choice (log entry 28). -/
def Obligations.RegulatedArrivals : Prop :=
  (∀ (e : Env) (b x : Blocks) (q : List Instr) (t : Track) (m : Match) (i : DwellInput) (d : Dwell) (stamp : Nat),
    b.field.waiting.occupancy.get t = some ⟨true, stamp⟩ → e.nodeState = .service → (b.platforms.get t).standing = .vacant →
    matchArrival e (sentOccupancy b t) t = (x, m) →
    i = { arrival := stamp, scheduled := m.entry.map (·.departure), wmin := (e.platformConfig t).wmin
          wmax := (e.platformConfig t).wmax, rup := (e.platformConfig t).rup
          previous := (x.platforms.get t).lastDeparture.map (·.dact)
          headway := headway (e.platformConfig t) (m.entry.map (·.departure)) (departureBefore (x.timetable.sequences.get t) m.trip)
          follower := ((x.describer.get t).head?).map (·.upstream), gain := effectiveGain e x t m.entry.isNone } →
    d = { mode := .regulated, trip := m.trip, entry := m.entry.map (·.trip), outcome := some m.outcome, skipped := m.skipped
          arrival := stamp, scheduled := m.entry.map (·.departure), target := some i.target
          deviation := m.entry.map fun y => (i.target : Int) - (y.departure : Int), targetOver := false, reasons := .empty
          staggerOpen := true, staggerTime := none, followerAvailable := (x.describer.get t).isEmpty, grace := none
          heldLong := false, headway := i.headway } →
    exec (.occupancyRise t) ⟨⟨e, b⟩, q⟩ = .next ⟨⟨e,
      let y := queueReport e (writeDwell x t .dwell d) (arrivalReport t d (some i.gain))
      if i.target ≤ e.time.service then releaseCheck e y t { d with targetOver := true } else y⟩, q⟩)
  ∧ (∀ (cfg : PlatformConfig) (s p : Nat),
      (headway cfg (some s) (some p) : Int) = min (max ((s : Int) - (p : Int)) (cfg.wmin : Int)) 6000
      ∧ headway cfg (some s) none = cfg.hdefault ∧ headway cfg none (some p) = cfg.hdefault ∧ headway cfg none none = cfg.hdefault)
  ∧ (∀ (before after : List Entry) (x : Entry), ((before ++ x :: after).map (·.trip)).Nodup →
      departureBefore (before ++ x :: after) x.trip = before.getLast?.map (·.departure))
  ∧ ∀ (e : Env) (b : Blocks) (t : Track) (extra : Bool) (disrupts : Prop),
      (disrupts ↔ ∃ r ∈ b.incidents.records, r.kind = .delay ∨ r.kind = .trainStalled ∨ r.kind = .sectionTrip
        ∨ r.kind = .departedUnreleased ∨ r.kind = .nodeLost) →
      (extra = true ∨ disrupts → effectiveGain e b t extra = 8)
      ∧ (extra = false → ¬disrupts → effectiveGain e b t extra = (e.platformConfig t).gain)

/-- A trip found within the look-ahead of eight PENDING entries becomes IN_USE where it stands, every PENDING entry before it becomes
CANCELLED, every other entry stays as it is, and the skip count is their number (R83). A trip that none of the first eight PENDING entries
has is not found, so neither one beyond them nor one that stands only in an entry that is not PENDING, nor trip 0 (R83). An arrival takes
the head of the approaching queue, which leaves with its stall incident, the new head being checked (R80, R81), and is IDENTIFIED, EXTRA
where its trip is not found (R83). With an empty queue it is UNIDENTIFIED: the cursor, the first PENDING entry, becomes IN_USE, or the train
is EXTRA with trip 0, and a DESCRIPTION_ERROR is raised unless the platform has no upstream node or the entry has FIRST (R84). The order of
these steps is the model's (log entry 31). -/
def Obligations.MatchUsesTheTrip : Prop :=
  (∀ (before after : List Entry) (x : Entry), x.state = .pending → ((before ++ x :: after).map (·.trip)).Nodup →
    (before.filter fun y => decide (y.state = .pending)).length < 8 →
    findAhead (before ++ x :: after) x.trip = some x
    ∧ useTrip (before ++ x :: after) x.trip =
      ((before.map fun y => if y.state = .pending then { y with state := .cancelled } else y) ++ { x with state := .inUse } :: after,
        (before.filter fun y => decide (y.state = .pending)).length))
  ∧ (∀ (l : List Entry) (trip : Nat), (∀ x ∈ (l.filter fun y => decide (y.state = .pending)).take 8, x.trip ≠ trip) →
    findAhead l trip = none)
  ∧ (∀ (l : List Entry), (∀ x ∈ l, 1 ≤ x.trip) → findAhead l 0 = none)
  ∧ ∀ (e : Env) (b : Blocks) (t : Track),
    (∀ a rest y, b.describer.get t = a :: rest →
      y = stallCheck e (closeOwned e (b.setApproach t rest) a.stallId .trainStalled) t →
      (findAhead (y.timetable.sequences.get t) a.trip = none →
        matchArrival e b t = (y, { trip := a.trip, entry := none, outcome := .identified, skipped := 0 }))
      ∧ ∀ x used, findAhead (y.timetable.sequences.get t) a.trip = some x → used = useTrip (y.timetable.sequences.get t) a.trip →
        matchArrival e b t =
          (y.setSequence t used.1, { trip := a.trip, entry := some x, outcome := .identified, skipped := used.2 }))
    ∧ (b.describer.get t = [] →
      ((∀ x ∈ b.timetable.sequences.get t, x.state ≠ .pending) →
        matchArrival e b t = (if e.upstream t = none then b else describeError e b t 0,
          { trip := 0, entry := none, outcome := .unidentified, skipped := 0 }))
      ∧ ∀ before after x y, b.timetable.sequences.get t = before ++ x :: after → (∀ z ∈ before, z.state ≠ .pending) →
        x.state = .pending → ((before ++ x :: after).map (·.trip)).Nodup →
        y = b.setSequence t (before ++ { x with state := .inUse } :: after) →
        matchArrival e b t = (if e.upstream t = none ∨ x.isFirst = true then y else describeError e y t x.trip,
          { trip := x.trip, entry := some x, outcome := .unidentified, skipped := 0 }))

/-- The dwell target is the blend of the schedule target Ts and the headway target Th, g_eff × (Th - Ts) / 8 truncated toward zero past
Ts, raised to A + Wmin and lowered to A + Wmax and saturated (R95), and a REGULATED arrival holds it in the record; so it never
leaves A + Wmin and A + Wmax, saturated, and the blend never lies past an exact division; with gain 0 it is the schedule target
and with gain 8 the headway target, brought into those bounds; an EXTRA train has gain 8 and the schedule target A + Wmin, any other
the greater of S and A + Wmin; without a last departure Th is Ts and the gain moves nothing, and with one it is half of the last
departure and the follower's estimate, U + Rup + Wmin or the last departure and twice the headway, but not below A + Wmin (R94). The
deviation is what it lies past the scheduled departure (R96). -/
def Obligations.DwellTargetWithinBounds : Prop :=
  (∀ (e : Env) (b : Blocks) (q : List Instr) (t : Track) (stamp : Nat), b.field.waiting.occupancy.get t = some ⟨true, stamp⟩ →
    e.nodeState = .service → (b.platforms.get t).standing = .vacant → ∃ (b' : Blocks) (p : Phase) (d : Dwell) (i : DwellInput),
      exec (.occupancyRise t) ⟨⟨e, b⟩, q⟩ = .next ⟨⟨e, b'⟩, q⟩ ∧ (b'.platforms.get t).standing = .occupied p d
      ∧ d.mode = .regulated ∧ d.arrival = stamp ∧ d.target = some i.target ∧ d.deviation = i.deviation
      ∧ i.arrival = stamp ∧ i.scheduled = d.scheduled ∧ i.wmin = (e.platformConfig t).wmin ∧ i.wmax = (e.platformConfig t).wmax
      ∧ i.rup = (e.platformConfig t).rup ∧ i.previous = (b.platforms.get t).lastDeparture.map (·.dact)
      ∧ (i.gain = 8 ∨ i.gain = (e.platformConfig t).gain) ∧ (d.entry = none → i.scheduled = none ∧ i.gain = 8))
  ∧ ∀ i : DwellInput, i.wmin ≤ i.wmax →
    (∀ q : Int, q = Int.tdiv (i.gain * ((i.headwayTarget : Int) - i.scheduleTarget)) 8 →
      (i.target : Int) = min (min (max (i.scheduleTarget + q) ((i.arrival : Int) + i.wmin)) ((i.arrival : Int) + i.wmax)) 1048575
      ∧ (i.scheduleTarget ≤ i.headwayTarget → 0 ≤ q ∧ 8 * q ≤ i.gain * ((i.headwayTarget : Int) - i.scheduleTarget))
      ∧ (i.headwayTarget ≤ i.scheduleTarget → q ≤ 0 ∧ i.gain * ((i.headwayTarget : Int) - i.scheduleTarget) ≤ 8 * q))
    ∧ (i.scheduled = none → i.scheduleTarget = i.arrival + i.wmin) ∧ (i.previous = none → i.headwayTarget = i.scheduleTarget)
    ∧ (∀ s, i.scheduled = some s → i.scheduleTarget = max s (i.arrival + i.wmin))
    ∧ (∀ p f, i.previous = some p → (∀ u, i.follower = some u → f = u + i.rup + i.wmin) →
      (i.follower = none → f = p + 2 * i.headway) → i.headwayTarget = max ((p + f) / 2) (i.arrival + i.wmin))
    ∧ saturate (i.arrival + i.wmin) ≤ i.target ∧ i.target ≤ saturate (i.arrival + i.wmax)
    ∧ (i.gain = 0 ∨ i.previous = none → i.target = saturate (min (max i.scheduleTarget (i.arrival + i.wmin)) (i.arrival + i.wmax)))
    ∧ (i.gain = 8 → i.target = saturate (min (max i.headwayTarget (i.arrival + i.wmin)) (i.arrival + i.wmax)))
    ∧ ∀ s, i.scheduled = some s → i.deviation = some ((i.target : Int) - (s : Int))

/-- An accepted fall at an occupied platform is a departure: NORMAL from RELEASED, LATE_WITHDRAW from HELD with a grace count, UNRELEASED
otherwise (R107); the platform is VACANT with the trip and the stamp as its last departure, its starter INACTIVE, the approaching
queues as they were. The steps of R108 follow in order: the entry comes to its final state, CONSUMED, CANCELLED by a held CANCEL, or
with the departure of a held CHANGE while it still keeps the order, else with a report of the amendment dropped (R74); a start is
offered; the DEPART frame of R109 is queued; the lateness, stamp less scheduled departure of a train with an entry, above Ldelay
raises DELAY unless the id held names a local DELAY, and at most half of it closes that DELAY (R110, R111); an UNRELEASED departure
raises DEPARTED_UNRELEASED (R112); the departure is reported, and a LATE_WITHDRAW once more. That a stale DELAY id is cleared at
every such lateness is the model's reading (log entry 51). -/
def Obligations.DeparturesVacateThePlatform : Prop :=
  (∀ (p : Phase) (d : Dwell), classify p d = match p with
    | .released => .normal
    | .held => if d.grace.isSome then .lateWithdraw else .unreleased
    | .dwell => .unreleased)
  ∧ ∀ (e : Env) (b : Blocks) (q : List Instr) (t : Track) (p : Phase) (d : Dwell) (stamp : Nat),
    b.field.waiting.occupancy.get t = some ⟨false, stamp⟩ →
    e.nodeState ≠ .configuring → (b.platforms.get t).standing = .occupied p d →
    (∃ b', exec (.departure t) ⟨⟨e, b⟩, q⟩ = .next ⟨⟨e, b'⟩, q⟩
      ∧ (b'.platforms.get t).standing = .vacant ∧ (b'.platforms.get t).lastDeparture = some { trip := d.trip, dact := stamp }
      ∧ (b'.platforms.get t).amendment = (if d.entry.isSome then none else (b.platforms.get t).amendment)
      ∧ b'.field.starters.get t = false ∧ b'.field.waiting = (sentOccupancy b t).field.waiting
      ∧ b'.field.filters = b.field.filters
      ∧ b'.describer = b.describer ∧ b'.timetable.load = b.timetable.load ∧ b'.peers.table = b.peers.table
      ∧ (d.entry = none → b'.timetable = b.timetable))
    ∧ (∀ (x y z u v : Blocks) (cls : DepartureClass) (late : Option Int) (sec : TractionSection) (ends : Bool), cls = classify p d →
      e.sectionAhead t = some sec ∨ e.sectionAhead t = none ∧ e.sectionBehind t = some sec →
      (ends = true ↔ e.sectionAhead t = none ∨
        ∃ y ∈ b.timetable.sequences.get t, d.entry = some y.trip ∧ y.terminates = true) →
      x = ((sentOccupancy b t).setPlatform t
        { b.platforms.get t with standing := .vacant, lastDeparture := some { trip := d.trip, dact := stamp } }).setStarter
          t false →
      y = (match d.entry with
        | some trip => finishEntry e x t trip
        | none => x) →
      z = queueFrame e (match e.sectionAhead t with
          | some sec => offerStart e y sec stamp
          | none => y)
        (.depart { track := t, trip := d.trip, dact := stamp, entered := e.sectionAhead t, terminates := ends }) →
      late = (if d.entry = none then none else d.scheduled.map fun s : Nat => (stamp : Int) - (s : Int)) →
      u = (match late with
        | some l => judgeLateness e z t d.trip l
        | none => z) →
      v = queueReport e (if cls = .unreleased then (raiseIncident e u
          { kind := .departedUnreleased, severity := 3, span := .one sec, platform := some ⟨e.nodeNumber, t⟩
            trip := if d.trip = 0 then none else some d.trip } none).1 else u) (.departed t d.trip stamp cls late) →
      exec (.departure t) ⟨⟨e, b⟩, q⟩ = .next ⟨⟨e, if cls = .lateWithdraw then queueReport e v (.lateWithdraw t d.trip stamp) else v⟩, q⟩)
    ∧ (∀ (x w : Blocks) (before after : List Entry) (y : Entry), x.timetable.sequences.get t = before ++ y :: after →
      (∀ z ∈ before, z.trip ≠ y.trip) → w = x.setPlatform t { x.platforms.get t with amendment := none } →
      ((x.platforms.get t).amendment = none →
        finishEntry e x t y.trip = w.setSequence t (before ++ { y with state := .consumed } :: after))
      ∧ ((x.platforms.get t).amendment = some .cancel →
        finishEntry e x t y.trip = w.setSequence t (before ++ { y with state := .cancelled } :: after))
      ∧ ∀ dep, (x.platforms.get t).amendment = some (.change dep) →
        ((∀ z, before.getLast? = some z → z.departure ≤ dep) ∧ (∀ z, after.head? = some z → dep ≤ z.departure)
            ∧ (∀ a, y.arrival = some a → a ≤ dep) →
          finishEntry e x t y.trip = w.setSequence t (before ++ { y with state := .consumed, departure := dep } :: after))
        ∧ ((∃ z, before.getLast? = some z ∧ dep < z.departure) ∨ (∃ z, after.head? = some z ∧ z.departure < dep)
            ∨ (∃ a, y.arrival = some a ∧ dep < a) →
          finishEntry e x t y.trip =
            queueReport e (w.setSequence t (before ++ { y with state := .consumed } :: after)) (.amendmentDropped t y.trip dep)))
    ∧ ∀ (x w : Blocks) (trip : Nat) (late : Int) (sec : TractionSection) (raised : Blocks × Option IncidentId),
      e.sectionAhead t = some sec ∨ e.sectionAhead t = none ∧ e.sectionBehind t = some sec →
      (∀ id r, (x.platforms.get t).delayId = some id → x.incidents.find id = some r → r.isLocal = true → r.kind = .delay →
        ((e.platformConfig t).ldelay / 2 < late → judgeLateness e x t trip late = x)
        ∧ (late ≤ (e.platformConfig t).ldelay / 2 → w = closeRecord e x r .auto →
          judgeLateness e x t trip late = w.setPlatform t { w.platforms.get t with delayId := none }))
      ∧ ((∀ id r, (x.platforms.get t).delayId = some id → x.incidents.find id = some r → r.isLocal = false ∨ r.kind ≠ .delay) →
        w = x.setPlatform t { x.platforms.get t with delayId := none } →
        (late ≤ (e.platformConfig t).ldelay → judgeLateness e x t trip late = w)
        ∧ ((e.platformConfig t).ldelay < late → raised = raiseIncident e w
            { kind := .delay, severity := 1, span := .one sec, platform := some ⟨e.nodeNumber, t⟩, trip := some trip }
            (some late.toNat) →
          judgeLateness e x t trip late = raised.1.setPlatform t { raised.1.platforms.get t with delayId := raised.2 }))

/-- The dwell target is reached: the check evaluates every reason at its source, and the platform enters RELEASED with its starter
ACTIVE, or HELD with the set it found, its starter INACTIVE; either entry is reported (R98 to R100), before a HELD announcement that is
due is offered, which is the model's choice (log entry 55). The sources are: POWER, the section ahead stands DEAD in this node's section
record; INCIDENT, a record of severity 3 or more, local or copy, covers the section ahead (R146); ESTOP, the platform's latch is set;
STAGGER, the mark is open and P is not reached, where P is the later of the valid starts at the two substations of the section ahead and
Gstag, saturated, and absent without a valid start (R99, R100). A platform with no section ahead has neither POWER, INCIDENT nor P. -/
def Obligations.ReleaseCheckDecides : Prop :=
  (∀ (e : Env) (b : Blocks) (q : List Instr) (t : Track) (d : Dwell) (target : Nat) (stagger : Option Nat) (set : Reasons),
    (b.platforms.get t).standing = .occupied .dwell d → d.mode = .regulated → d.target = some target → target ≤ e.time.service →
    stagger = (if d.staggerOpen then staggerTime e b t else d.staggerTime) →
    set = { power := reasonPower e b t, incident := reasonIncident e b t, estop := reasonEstop b t
            stagger := d.staggerOpen && (stagger.map fun i => decide (e.time.service < i)).getD false, operator := d.reasons.operator } →
    (set = .empty → exec (.dwellTargetReached t) ⟨⟨e, b⟩, q⟩ = .next ⟨⟨e, queueReport e
      ((b.setPlatform t { b.platforms.get t with
        standing := .occupied .released { d with targetOver := true, staggerTime := stagger, reasons := .empty, staggerOpen := false, grace := none } }).setStarter t true)
      (.stateAndSet t .released .empty)⟩, q⟩)
    ∧ (set ≠ .empty → exec (.dwellTargetReached t) ⟨⟨e, b⟩, q⟩ = .next ⟨⟨e, watchHeld e (queueReport e
      ((b.setPlatform t { b.platforms.get t with
        standing := .occupied .held { d with targetOver := true, staggerTime := stagger, reasons := set } }).setStarter t false)
      (.stateAndSet t .held set)) t⟩, q⟩))
  ∧ ∀ (e : Env) (b : Blocks),
    e.sectionAhead .up = (if e.nodeNumber + 2 ≤ e.lineCount then some ⟨.up, e.nodeNumber⟩ else none)
    ∧ e.sectionAhead .down = (if 1 ≤ e.nodeNumber then some ⟨.down, e.nodeNumber - 1⟩ else none)
    ∧ (reasonPower e b .up = true ↔ e.sectionAhead .up ≠ none ∧ ∃ r, b.power.breakers.get .uh = some r ∧ r.sectionState = some .dead)
    ∧ (reasonPower e b .down = true ↔ e.sectionAhead .down ≠ none ∧ ∃ r, b.power.breakers.get .dl = some r ∧ r.sectionState = some .dead)
    ∧ (∀ t, reasonIncident e b t = true ↔ ∃ sec, e.sectionAhead t = some sec ∧ ∃ r ∈ b.incidents.records, 3 ≤ r.severity
      ∧ (r.span.tracks = .both ∨ r.span.tracks = .one t) ∧ r.span.first ≤ sec.gap ∧ sec.gap ≤ r.span.last)
    ∧ (∀ t, reasonEstop b t = (b.power.latches.get t).isSet)
    ∧ (∀ t, e.sectionAhead t = none → staggerTime e b t = none)
    ∧ ∀ (t : Track) (sec : TractionSection) (start : Nat → Option Nat), e.sectionAhead t = some sec →
      (∀ n, start n = match b.peers.starts[n]? with
        | some s => if s.age ≤ 600 then s.start else none
        | none => none) →
      (start sec.gap = none → start (sec.gap + 1) = none → staggerTime e b t = none)
      ∧ ∀ (i j later p : Nat), i = sec.gap ∧ j = sec.gap + 1 ∨ i = sec.gap + 1 ∧ j = sec.gap → start i = some later →
        (∀ other, start j = some other → other ≤ later) → p = min (later + (e.platformConfig t).stagger) 1048575 →
        staggerTime e b t = some p

/-- In HELD: P reached takes STAGGER out of the set and releases the train when the set empties (R101); the grace count of 20 is
cleared (R102); A + Wmax reached offers the HELD announcement once, in a REGULATED dwell (R106). A regulator that the Power Controller,
the Incident Table or a latch tells of a change evaluates that reason again in HELD, which is released where the set empties and
reports a set that changed, and withdraws the release in RELEASED where the reason stands, with that reason and a grace count of 0; in
VACANT and DWELL it changes nothing (R98, R101, R102). That a set emptied so is reported once, by the entry to RELEASED, is the model's
reading (log entry 22), and that UP is told of an incident before DOWN its choice (log entry 54). -/
def Obligations.TimesOfAHeldTrain : Prop :=
  (∀ (e : Env) (b : Blocks) (q : List Instr) (t : Track) (p : Phase) (d d' : Dwell),
    (b.platforms.get t).standing = .occupied p d →
    (∀ stagger, p = .held → d.reasons.stagger = true → d.staggerTime = some stagger → stagger ≤ e.time.service →
      d' = { d with reasons := { d.reasons with stagger := false } } →
      (d'.reasons = .empty → exec (.staggerTimeReached t) ⟨⟨e, b⟩, q⟩ = .next ⟨⟨e, queueReport e
        ((b.setPlatform t { b.platforms.get t with
          standing := .occupied .released { d' with staggerOpen := false, grace := none } }).setStarter t true) (.stateAndSet t .released .empty)⟩, q⟩)
      ∧ (d'.reasons ≠ .empty → exec (.staggerTimeReached t) ⟨⟨e, b⟩, q⟩ = .next ⟨⟨e, queueReport e
        (b.setPlatform t { b.platforms.get t with standing := .occupied .held d' }) (.stateAndSet t .held d'.reasons)⟩, q⟩))
    ∧ (∀ n, d.grace = some n → 20 ≤ n → exec (.graceExpiry t) ⟨⟨e, b⟩, q⟩ = .next ⟨⟨e,
        b.setPlatform t { b.platforms.get t with standing := .occupied p { d with grace := none } }⟩, q⟩)
    ∧ (p = .held → d.mode = .regulated → d.heldLong = false →
        min (d.arrival + (e.platformConfig t).wmax) Config.serviceTimeMax ≤ e.time.service →
        exec (.wmaxReached t) ⟨⟨e, b⟩, q⟩ = .next ⟨⟨e, offerHeld e
          (b.setPlatform t { b.platforms.get t with standing := .occupied .held { d with heldLong := true } }) t⟩, q⟩))
  ∧ (∀ (e : Env) (b : Blocks), toldIncident e b = toldIncidentAt e (toldIncidentAt e b .up) .down)
  ∧ ∀ (e : Env) (b told : Blocks) (t : Track) (stands : Bool) (set : Reasons → Reasons),
    told = toldPower e b t ∧ stands = reasonPower e b t ∧ (∀ r, set r = { r with power := stands })
      ∨ told = toldIncidentAt e b t ∧ stands = reasonIncident e b t ∧ (∀ r, set r = { r with incident := stands })
      ∨ told = toldLatch e b t ∧ stands = reasonEstop b t ∧ (∀ r, set r = { r with estop := stands }) →
    ((b.platforms.get t).standing = .vacant ∨ (∃ d, (b.platforms.get t).standing = .occupied .dwell d) → told = b)
    ∧ (∀ d d', (b.platforms.get t).standing = .occupied .held d → d' = { d with reasons := set d.reasons } →
      (d'.reasons = .empty → told = queueReport e ((b.setPlatform t { b.platforms.get t with
        standing := .occupied .released { d' with staggerOpen := false, grace := none } }).setStarter t true) (.stateAndSet t .released .empty))
      ∧ (d'.reasons ≠ .empty → ∀ x, x = b.setPlatform t { b.platforms.get t with standing := .occupied .held d' } →
        told = if d'.reasons = d.reasons then x else queueReport e x (.stateAndSet t .held d'.reasons)))
    ∧ ∀ d, (b.platforms.get t).standing = .occupied .released d → told =
      if stands = true then watchHeld e (queueReport e ((b.setPlatform t { b.platforms.get t with
        standing := .occupied .held { d with reasons := set .empty, grace := some 0 } }).setStarter t false)
          (.stateAndSet t .held (set .empty))) t
      else b

/-- UNHOLD (R104): RANGE for no platform, STATE when OPERATOR is not in the set, whatever the state; otherwise OPERATOR leaves the set
and the answer is OK: in DWELL the platform stays in DWELL, and in HELD it enters RELEASED when the set is empty. One PLATFORM report
tells of the changed set or of the entry to RELEASED (R99, R101, R115): that there is one, in DWELL too, is the model's reading (log
entry 22). -/
def Obligations.UnholdRemovesOperator : Prop :=
  ∀ (e : Env) (b : Blocks) (q : List Instr) (tag c : Byte), takes b .platform 2 tag [c] → e.nodeState ≠ .configuring →
    (1 < c.toNat → exec (.unhold tag [c]) ⟨⟨e, b⟩, q⟩ = .next (answered e (received b) q .platform tag [2]))
    ∧ ∀ t : Track, t.code = c.toNat →
      ((b.platforms.get t).standing = .vacant →
        exec (.unhold tag [c]) ⟨⟨e, b⟩, q⟩ = .next (answered e (received b) q .platform tag [3]))
      ∧ ∀ p d, (b.platforms.get t).standing = .occupied p d →
        (d.reasons.operator = false →
          exec (.unhold tag [c]) ⟨⟨e, b⟩, q⟩ = .next (answered e (received b) q .platform tag [3]))
        ∧ (d.reasons.operator = true → ∀ d', d' = { d with reasons := { d.reasons with operator := false } } →
          (p ≠ .held ∨ d'.reasons ≠ .empty → exec (.unhold tag [c]) ⟨⟨e, b⟩, q⟩ = .next (answered e (queueReport e
            ((received b).setPlatform t { b.platforms.get t with standing := .occupied p d' }) (.stateAndSet t p d'.reasons))
            q .platform tag [0]))
          ∧ (p = .held ∧ d'.reasons = .empty → exec (.unhold tag [c]) ⟨⟨e, b⟩, q⟩ = .next (answered e (queueReport e
            (((received b).setPlatform t { b.platforms.get t with
              standing := .occupied .released { d' with staggerOpen := false, grace := none } }).setStarter t true) (.stateAndSet t .released .empty))
            q .platform tag [0])))

/-- HOLD: STATE in VACANT; in DWELL and HELD OPERATOR joins the set, or OK with no change where it stands already; in RELEASED the release is
withdrawn with OPERATOR as the reason, the starter INACTIVE and the grace at 0 (R103, R102). RELEASE: STATE in VACANT and RELEASED; in
DWELL and HELD the target wait is OVER, OPERATOR and STAGGER leave the set and the mark is SETTLED, and then the check runs, or the
set that is left decides (R105). The number of PLATFORM reports, one at each of these changes and one alone where the set of a HELD
platform empties, is the model's reading (log entry 22); the report before a HELD announcement that is due is its choice (log entry
55). -/
def Obligations.HoldAndReleaseAPlatform : Prop :=
  ∀ (e : Env) (b : Blocks) (q : List Instr) (tag c : Byte), e.nodeState ≠ .configuring →
    (1 < c.toNat →
      (takes b .platform 1 tag [c] → exec (.hold tag [c]) ⟨⟨e, b⟩, q⟩ = .next (answered e (received b) q .platform tag [2]))
      ∧ (takes b .platform 3 tag [c] → exec (.release tag [c]) ⟨⟨e, b⟩, q⟩ = .next (answered e (received b) q .platform tag [2])))
    ∧ ∀ t : Track, t.code = c.toNat →
    (takes b .platform 1 tag [c] →
      ((b.platforms.get t).standing = .vacant →
        exec (.hold tag [c]) ⟨⟨e, b⟩, q⟩ = .next (answered e (received b) q .platform tag [3]))
      ∧ ∀ p d, (b.platforms.get t).standing = .occupied p d →
        (p ≠ .released → d.reasons.operator = true →
          exec (.hold tag [c]) ⟨⟨e, b⟩, q⟩ = .next (answered e (received b) q .platform tag [0]))
        ∧ (p ≠ .released → d.reasons.operator = false → ∀ d', d' = { d with reasons := { d.reasons with operator := true } } →
          exec (.hold tag [c]) ⟨⟨e, b⟩, q⟩ = .next (answered e (queueReport e
            ((received b).setPlatform t { b.platforms.get t with standing := .occupied p d' }) (.stateAndSet t p d'.reasons))
            q .platform tag [0]))
        ∧ (p = .released → ∀ d', d' = { d with reasons := { Reasons.empty with operator := true }, grace := some 0 } →
          exec (.hold tag [c]) ⟨⟨e, b⟩, q⟩ = .next (answered e (watchHeld e (queueReport e
            (((received b).setPlatform t { b.platforms.get t with standing := .occupied .held d' }).setStarter t false)
            (.stateAndSet t .held d'.reasons)) t) q .platform tag [0])))
    ∧ (takes b .platform 3 tag [c] →
      ((b.platforms.get t).standing.state = .vacant ∨ (b.platforms.get t).standing.state = .released →
        exec (.release tag [c]) ⟨⟨e, b⟩, q⟩ = .next (answered e (received b) q .platform tag [3]))
      ∧ ∀ p d d', (b.platforms.get t).standing = .occupied p d →
        d' = { d with targetOver := true, staggerOpen := false, reasons := { d.reasons with operator := false, stagger := false } } →
        (p = .dwell → exec (.release tag [c]) ⟨⟨e, b⟩, q⟩ =
          .next (answered e (releaseCheck e (received b) t d') q .platform tag [0]))
        ∧ (p = .held → d'.reasons = .empty → exec (.release tag [c]) ⟨⟨e, b⟩, q⟩ = .next (answered e (queueReport e
          (((received b).setPlatform t { b.platforms.get t with standing := .occupied .released { d' with grace := none } }).setStarter
            t true) (.stateAndSet t .released .empty)) q .platform tag [0]))
        ∧ (p = .held → d'.reasons ≠ .empty → d'.reasons ≠ d.reasons → exec (.release tag [c]) ⟨⟨e, b⟩, q⟩ = .next (answered e
          (queueReport e ((received b).setPlatform t { b.platforms.get t with standing := .occupied .held d' })
            (.stateAndSet t .held d'.reasons)) q .platform tag [0]))
        ∧ (p = .held → d'.reasons ≠ .empty → d'.reasons = d.reasons → exec (.release tag [c]) ⟨⟨e, b⟩, q⟩ = .next (answered e
          ((received b).setPlatform t { b.platforms.get t with standing := .occupied .held d' }) q .platform tag [0])))

/-! ### The linebus -/

/-- ATTEMPT_BEGIN makes the head of the queue the frame in hand once the line has been idle for 20 bit times (R35); BACKOFF_RETRY sends
the frame in hand again after its wait of 20 + 10 × rank + 2 × k bit times (R37); before that both go on waiting. The count is the
idle count held with the bit times that the command adds, and at 20 the assembly stands in SEEK, a frame in it truncated (R44, log
entry 7). LBDE is ACTIVE through an attempt and INACTIVE at all other times (R27). FRAME_SENT counts the frame and frees the
transmitter, and the frame counts as valid at this node's own assembly (R36, R45). STATUS_POINT generates a STATUS frame with the
snapshot of R33, or renews the one queued, which keeps its place and attempt count, but leaves one that is being sent its own, and
discards it in CONFIGURING and SILENT (R41, R42, R39). -/
def Obligations.TransmitterAttempts : Prop :=
  ∀ (e : Env) (b x : Blocks) (q : List Instr),
    (∀ l : Linebus, l.driveEnable = true ↔ ∃ h, l.tx = .sending h)
    ∧ (∀ (idle n : Nat) (y z : Blocks), n = b.bus.idleCount + idle → y = b.setBus { b.bus with idleCount := n } →
        ((∀ taken, b.bus.rx ≠ .frame taken) → z = b.setBus { b.bus with rx := .seek, idleCount := n }) →
        (∀ taken, b.bus.rx = .frame taken → z = noteError e (b.setBus
          { b.bus with rx := .seek, idleCount := n, truncatedErrors := countUp 65535 b.bus.truncatedErrors })) →
        (∀ f rest, b.bus.tx = .waiting → b.bus.waiting = f :: rest → exec (.attemptBegin idle) ⟨⟨e, b⟩, q⟩ = .next ⟨⟨e,
          if 20 ≤ n then z.setBus
            { z.bus with tx := .sending { frame := f, attempts := 0, doomed := false }, waiting := rest, idleCount := 0 }
          else y⟩, q⟩)
        ∧ ∀ h, b.bus.tx = .backoff h → exec (.backoffRetry idle) ⟨⟨e, b⟩, q⟩ = .next ⟨⟨e,
          if 20 + 10 * h.frame.cls.rank + 2 * e.nodeNumber ≤ n then z.setBus { z.bus with tx := .sending h, idleCount := 0 }
          else if 20 ≤ n then z else y⟩, q⟩)
    ∧ (∀ h l, b.bus.tx = .sending h →
        l = { b.bus with sent := countUp 65535 b.bus.sent, idleCount := 0, tx := if b.bus.waiting = [] then .idle else .waiting } →
        (b.bus.rx = .skip → exec .frameSent ⟨⟨e, b⟩, q⟩ = .next ⟨⟨e, b.setBus l⟩, q⟩)
        ∧ (b.bus.rx ≠ .skip → parseFrame e.lineCount e.nodeNumber h.frame.cls h.frame.payload = some h.frame →
          exec .frameSent ⟨⟨e, b⟩, q⟩ =
            .next ⟨⟨e, b.setBus { l with rx := .skip, validFrames := countUp 65535 b.bus.validFrames }⟩, q⟩))
    ∧ (b.bus.statusDue = true → x = b.setBus { b.bus with statusDue := false } →
        (e.nodeState = .configuring ∨ b.bus.silent = true → exec .statusPoint ⟨⟨e, b⟩, q⟩ = .next ⟨⟨e, x⟩, q⟩)
        ∧ (e.nodeState ≠ .configuring → b.bus.silent = false → b.bus.holdsStatus = false →
          exec .statusPoint ⟨⟨e, b⟩, q⟩ = .next ⟨⟨e, admitFrame e x (.status (snapshot e b))⟩, q⟩)
        ∧ (e.nodeState ≠ .configuring → b.bus.silent = false → b.bus.holdsStatus = true →
          (∀ h, b.bus.tx = .sending h → h.frame.cls = .status → (∀ f ∈ b.bus.waiting, f.cls ≠ .status) →
            exec .statusPoint ⟨⟨e, b⟩, q⟩ = .next ⟨⟨e, x⟩, q⟩)
          ∧ (∀ h, b.bus.tx = .backoff h → h.frame.cls = .status → exec .statusPoint ⟨⟨e, b⟩, q⟩ =
            .next ⟨⟨e, x.setBus { x.bus with tx := .backoff { h with frame := .status (snapshot e b) } }⟩, q⟩)
          ∧ ((∀ h, b.bus.tx = .backoff h → h.frame.cls ≠ .status) → exec .statusPoint ⟨⟨e, b⟩, q⟩ = .next ⟨⟨e, x.setBus
            { x.bus with waiting := b.bus.waiting.map fun f => if f.cls = .status then .status (snapshot e b) else f }⟩, q⟩)))
    ∧ ∀ c, c = snapshot e b → c.service = decide (e.nodeState = .service) ∧ c.time = e.time.service ∧ c.keyLocal = b.power.keyLocal
      ∧ c.holdover = decide (e.time.mode = .holdover) ∧ (∀ t, c.latches.get t = (b.power.latches.get t).isSet)
      ∧ (∀ t, c.departures.get t = (b.platforms.get t).lastDeparture)
      ∧ (∀ t, c.platforms.get t = (b.platforms.get t).standing.state)
      ∧ c.incidents = (b.incidents.records.filter Incident.isLocal).length
      ∧ (∀ br, b.power.breakers.get br = none → c.breakers.get br = .absent)
      ∧ ∀ br r, b.power.breakers.get br = some r → c.breakers.get br = (r.condition.map fun x => .known x.state).getD .unknown

/-- COLLISION counts, and raises the attempt count: below the sixteenth attempt the frame waits in BACKOFF, at the sixteenth it is
dropped and, unless it is STATUS, reported; a frame that SERVICE RESET marked leaves the queue; LBDE is INACTIVE in every case
(R36, R38, R49). The assembly then takes the characters heard, and a character error ends its frame as truncated (R44): that the
transmitter's part comes first is the model's choice (log entry 55). -/
def Obligations.CollisionOutcomes : Prop :=
  ∀ (e : Env) (b d y z : Blocks) (q : List Instr) (h : Hand) (heard : List Byte) (l : Linebus), b.bus.tx = .sending h →
    l = { b.bus with collisions := countUp 65535 b.bus.collisions, idleCount := 0 } →
    d = b.setBus { l with tx := if b.bus.waiting = [] then .idle else .waiting, dropped := countUp 65535 b.bus.dropped } →
    y = (if h.doomed = true then b.setBus { l with tx := if b.bus.waiting = [] then .idle else .waiting }
      else if h.attempts + 1 < 16 then b.setBus { l with tx := .backoff { h with attempts := h.attempts + 1 } }
      else if h.frame.cls = .status then d else queueReport e d (.txDrop .attempts h.frame.cls h.frame.payload)) →
    z = heard.foldl (takeChar e) y →
    y.bus.driveEnable = false
    ∧ (∀ cause : CollisionCause, cause ≠ .characterError → exec (.collision cause heard) ⟨⟨e, b⟩, q⟩ = .next ⟨⟨e, z⟩, q⟩)
    ∧ (z.bus.rx = .skip → exec (.collision .characterError heard) ⟨⟨e, b⟩, q⟩ = .next ⟨⟨e, z⟩, q⟩)
    ∧ (z.bus.rx = .seek → exec (.collision .characterError heard) ⟨⟨e, b⟩, q⟩ =
        .next ⟨⟨e, z.setBus { z.bus with rx := .skip }⟩, q⟩)
    ∧ ∀ taken, z.bus.rx = .frame taken → exec (.collision .characterError heard) ⟨⟨e, b⟩, q⟩ = .next ⟨⟨e, noteError e
        (z.setBus { z.bus with rx := .skip, truncatedErrors := countUp 65535 z.bus.truncatedErrors })⟩, q⟩

/-- The receive assembly takes one character after another: SKIP ignores it, in SEEK the start begins a frame and any other leads to
SKIP, and in FRAME it is taken in order up to the second check character, where the frame is judged, or to a length above 48,
which ends it. 20 idle bit times lead from SKIP to SEEK and end a frame as truncated, as a character error does (R44, which speaks
of a gap of more than 20: that exactly 20 truncates is the model's reading, log entry 7). A discard or an early end is counted
under its error, and reported at once when ten advances have passed since the last report, else later by its mark (R45). A
complete frame that fails is counted under the first check it fails, of the CRC-16 of R28, class and content, and goes no further
(R45, R46). -/
def Obligations.ReceiveAssemblyErrors : Prop :=
  (∀ (e : Env) (b x : Blocks) (c : Byte), x = b.setBus { b.bus with idleCount := 0 } →
    (b.bus.rx = .skip → takeChar e b c = x)
    ∧ (b.bus.rx = .seek → takeChar e b c = x.setBus { x.bus with rx := if c = 0x96 then .frame [c] else .skip })
    ∧ (∀ taken, b.bus.rx = .frame taken → taken.length < 3 → takeChar e b c = x.setBus { x.bus with rx := .frame (taken ++ [c]) })
    ∧ (∀ sync source cls, b.bus.rx = .frame [sync, source, cls] →
        (c.toNat ≤ 48 → takeChar e b c = x.setBus { x.bus with rx := .frame [sync, source, cls, c] })
        ∧ (48 < c.toNat → takeChar e b c = noteError e
          (x.setBus { x.bus with rx := .skip, lengthErrors := countUp 65535 b.bus.lengthErrors })))
    ∧ ∀ sync source cls len rest, b.bus.rx = .frame (sync :: source :: cls :: len :: rest) → len.toNat ≤ 48 →
        (rest.length + 1 < len.toNat + 2 →
          takeChar e b c = x.setBus { x.bus with rx := .frame (sync :: source :: cls :: len :: (rest ++ [c])) })
        ∧ (∀ payload check, payload.length = len.toNat → rest ++ [c] = payload ++ checkChars check →
          takeChar e b c = judgeFrame e (x.setBus { x.bus with rx := .skip }) source cls payload check)
        ∧ ∀ (y : Blocks) (f : FrameClass) payload, judgeFrame e y source f.code payload (crc (busBody source f.code payload)) =
          judgeContent e y source f payload)
  ∧ (∀ (e : Env) (b y z : Blocks) (q : List Instr) (heard : List Byte) (idle : Nat), y = heard.foldl (takeChar e) b →
    (z = y.setBus { y.bus with idleCount := if heard = [] then max b.bus.idleCount idle else idle } → 20 ≤ z.bus.idleCount →
        (y.bus.rx = .skip ∨ y.bus.rx = .seek → exec (.lineIdle heard idle) ⟨⟨e, b⟩, q⟩ =
          .next ⟨⟨e, z.setBus { z.bus with rx := .seek }⟩, q⟩)
        ∧ ∀ taken, y.bus.rx = .frame taken → exec (.lineIdle heard idle) ⟨⟨e, b⟩, q⟩ = .next ⟨⟨e, noteError e
          (z.setBus { z.bus with rx := .seek, truncatedErrors := countUp 65535 y.bus.truncatedErrors })⟩, q⟩)
    ∧ (z = y.setBus { y.bus with rx := .skip, idleCount := 0 } →
        (y.bus.rx = .skip ∨ y.bus.rx = .seek →
          exec (.linebusCharacterError heard) ⟨⟨e, b⟩, q⟩ = .next ⟨⟨e, z⟩, q⟩)
        ∧ ∀ taken, y.bus.rx = .frame taken → exec (.linebusCharacterError heard) ⟨⟨e, b⟩, q⟩ = .next ⟨⟨e, noteError e
          (z.setBus { z.bus with truncatedErrors := countUp 65535 y.bus.truncatedErrors })⟩, q⟩))
  ∧ (∀ (e : Env) (b x r : Blocks) (q : List Instr), x = b.setBus { b.bus with rx := .skip, idleCount := 0 } →
    (∀ source cls len : Byte, 48 < len.toNat → b.bus.rx.accepts [0x96, source, cls, len] = true →
      exec (.linebusLengthError source cls len) ⟨⟨e, b⟩, q⟩ = .next ⟨⟨e,
        noteError e (x.setBus { x.bus with lengthErrors := countUp 65535 b.bus.lengthErrors })⟩, q⟩)
    ∧ (∀ c : Option Byte, b.bus.rx = .seek → c ≠ some 0x96 →
      exec (.linebusOtherCharacter c) ⟨⟨e, b⟩, q⟩ = .next ⟨⟨e, x⟩, q⟩)
    ∧ (r = queueReport e (b.setBus { b.bus with errorPending := false, errorAge := 0 })
          (.frameErrors
            { check := b.bus.checkErrors, cls := b.bus.classErrors, content := b.bus.contentErrors
              truncated := b.bus.truncatedErrors, length := b.bus.lengthErrors }) →
        (10 ≤ b.bus.errorAge → noteError e b = r)
        ∧ (b.bus.errorAge < 10 → noteError e b = b.setBus { b.bus with errorPending := true })
        ∧ (10 ≤ b.bus.errorAge → b.bus.errorPending = true → exec .frameErrorReport ⟨⟨e, b⟩, q⟩ = .next ⟨⟨e, r⟩, q⟩)))
  ∧ ∀ (e : Env) (b x : Blocks) (q : List Instr) (source cls : Byte) (payload : List Byte) (check : Check), payload.length ≤ 48 →
    b.bus.rx.accepts ([0x96, source, cls, char payload.length] ++ payload ++ checkChars check) = true →
    x = b.setBus { b.bus with rx := .skip, idleCount := 0 } →
    (check ≠ crc ([source, cls, char payload.length] ++ payload) →
      exec (.linebusFrameDiscarded source cls payload check) ⟨⟨e, b⟩, q⟩ = .next ⟨⟨e,
        noteError e (x.setBus { x.bus with checkErrors := countUp 65535 b.bus.checkErrors })⟩, q⟩)
    ∧ (check = crc ([source, cls, char payload.length] ++ payload) → (∀ c : FrameClass, c.code ≠ cls) →
      exec (.linebusFrameDiscarded source cls payload check) ⟨⟨e, b⟩, q⟩ = .next ⟨⟨e,
        noteError e (x.setBus { x.bus with classErrors := countUp 65535 b.bus.classErrors })⟩, q⟩)
    ∧ (check = crc ([source, cls, char payload.length] ++ payload) → ∀ c : FrameClass, c.code = cls →
      parseFrame e.lineCount source.toNat c payload = none →
      exec (.linebusFrameDiscarded source cls payload check) ⟨⟨e, b⟩, q⟩ = .next ⟨⟨e,
        noteError e (x.setBus { x.bus with contentErrors := countUp 65535 b.bus.contentErrors })⟩, q⟩)

/-- A valid frame of any class from another node counts as valid, leaves the assembly in SKIP, and makes its source CURRENT with its
silence at 0 and its last-heard time at now, whatever its class owner then does (R45, R46, R51). One that names this node's own
number as its source is not delivered and puts this node in SILENT: the transmitter OFF, its queue empty, with a report (R47).
A silence count that an advance had already brought to 25 or 60 comes first: the peer is STALE or LOST with all that PEER_STALE or
PEER_LOST brings, and then heard (R52). -/
def Obligations.ForeignFramesAreHeard : Prop :=
  ∀ (e : Env) (b : Blocks) (q : List Instr) (source : Byte) (payload : List Byte) (f : Frame), arrives e b source payload f →
    (source.toNat ≠ e.nodeNumber → source.toNat < b.peers.table.length →
      ∃ b' p, exec (frameCommand f.cls source payload) ⟨⟨e, b⟩, q⟩ = .next ⟨⟨e, b'⟩, q⟩
        ∧ b'.bus.rx = .skip ∧ b'.bus.idleCount = 0 ∧ b'.bus.validFrames = countUp 65535 b.bus.validFrames
        ∧ b'.bus.silent = b.bus.silent
        ∧ b'.peers.table[source.toNat]? = some p ∧ p.liveness = .current ∧ p.silence = 0 ∧ p.lastHeard = some e.time.service
        ∧ (∀ i, i ≠ source.toNat → b'.peers.table[i]? = b.peers.table[i]?))
    ∧ (∀ p x, b.peers.table[source.toNat]? = some p →
        (p.liveness ≠ .stale → p.liveness ≠ .current ∨ p.silence < 25 → heardFrom e b source = hear e (counted b) source.toNat)
        ∧ (p.liveness = .stale → p.silence < 60 → heardFrom e b source = hear e (counted b) source.toNat)
        ∧ (p.liveness = .current → 25 ≤ p.silence → p.silence < 60 →
          exec (.peerStale source.toNat) ⟨⟨e, counted b⟩, q⟩ = .next ⟨⟨e, x⟩, q⟩ → heardFrom e b source = hear e x source.toNat)
        ∧ (p.liveness = .stale → 60 ≤ p.silence →
          exec (.peerLost source.toNat) ⟨⟨e, counted b⟩, q⟩ = .next ⟨⟨e, x⟩, q⟩ → heardFrom e b source = hear e x source.toNat))
    ∧ (source.toNat = e.nodeNumber → ∀ x : Blocks,
        x = b.setBus { b.bus with rx := .skip, idleCount := 0, validFrames := countUp 65535 b.bus.validFrames } →
        exec (frameCommand f.cls source payload) ⟨⟨e, b⟩, q⟩ = .next ⟨⟨e,
          if b.bus.silent = true then x
          else queueReport e (x.setBus { x.bus with silent := true, tx := .off, waiting := [] }) (.silent e.nodeNumber)⟩, q⟩)

/-- A STATUS frame becomes the last STATUS of its source with the service time at which it was taken, and writes a report of each
breaker whose state it gives, keeping the lockout fields, and takes the report of any other (R53). A POWER frame writes the report
of its breaker with the lockout fields, and the other three stay (R54). It is then read by the Power Controller: with refusal reason
LOCAL it makes every PENDING item of the section it feeds FAILED, every other PENDING item is CONFIRMED where both ends of its section
are known OPEN, and no item changes else (R132); with any reason it ends the restore wait of this node's high end of that section
with RESTORE_INCOMPLETE, in a POWER frame and a report, whatever stands in the items (R138). That the refusal is read before the
confirming check, so that an item whose two ends are known OPEN fails all the same, and that the wait ends after both, is the model's
own order (log entries 16 and 55). Where either frame brings the far-end report of a high end that waits to CLOSED, or its low end becomes
LOST, the close conditions are checked again and the wait ends: the breaker is CLOSING with its CLOSE coil driven, or the close waiting
for an open pulse to end, where they hold, and the first that fails is told with its reason where they do not (R137). A far-end report
that changes goes to the section, then to its items, then to the wait: the model's order (log entry 55). -/
def Obligations.StatusAndPowerFrames : Prop :=
  (∀ (e : Env) (b x : Blocks) (q : List Instr) (source : Byte) (payload : List Byte) (p : PeerEntry),
    source.toNat ≠ e.nodeNumber → x = heardFrom e b source → x.peers.table[source.toNat]? = some p →
    (∀ c, arrives e b source payload (.status c) → ∃ b' p',
      exec (.statusFrame source payload) ⟨⟨e, b⟩, q⟩ = .next ⟨⟨e, b'⟩, q⟩ ∧ b' = peerStatus e x source.toNat c
        ∧ b'.peers.table[source.toNat]? = some p' ∧ p'.lastStatus = some { contents := c, takenAt := e.time.service }
        ∧ (∀ br st, c.breakers.get br = .known st → ∃ r, p'.reports.get br = some r ∧ r.state = st ∧ r.keyLocal = c.keyLocal
          ∧ r.byPower = false ∧ r.lockout = (p.reports.get br).bind (·.lockout) ∧ r.reason = (p.reports.get br).bind (·.reason))
        ∧ ∀ br, (∀ st, c.breakers.get br ≠ .known st) → p'.reports.get br = none)
    ∧ (∀ c, arrives e b source payload (.power c) → ∃ b' p',
      exec (.powerFrame source payload) ⟨⟨e, b⟩, q⟩ = .next ⟨⟨e, b'⟩, q⟩
        ∧ b' = takePower e (peerPower e x source.toNat c) source.toNat c
        ∧ b'.peers.table[source.toNat]? = some p' ∧ p'.lastStatus = p.lastStatus
        ∧ p'.reports.get c.breaker = some
          { state := c.state, keyLocal := c.keyLocal, lockout := some { count := c.lockoutCount, overlock := c.overlock }
            reason := c.reason, byPower := true }
        ∧ ∀ br, br ≠ c.breaker → p'.reports.get br = p.reports.get br)
    ∧ ∀ (y : Blocks) (s : Nat) (c : PowerContents) (sec : TractionSection), sec = c.breaker.fed s →
      (∀ id r i, y.incidents.proper → y.incidents.find id = some r → (r.items.map (·.sec)).Nodup → i ∈ r.items →
        (i.state = .pending → c.reason = some 1 → i.sec = sec →
          (takePower e y s c).item id i.sec = some { i with state := .failed })
        ∧ (i.state = .pending → c.reason ≠ some 1 ∨ i.sec ≠ sec → (takePower e y s c).item id i.sec =
          some (if bothOpen e y i.sec = true then { i with state := .confirmed } else i))
        ∧ (i.state ≠ .pending → (takePower e y s c).item id i.sec = some i))
      ∧ ((∀ r ∈ y.incidents.records, ∀ i ∈ r.items, i.state ≠ .pending) →
        (∀ br r w, e.ownBreaker sec = some br → br.atHighEnd = true → c.reason ≠ none → y.power.breakers.get br = some r →
          r.wait = some w → takePower e y s c = queueReport e
            (queuePowerFrame e (y.setBreaker br { r with wait := none }) br (some .restoreIncomplete))
            (.restoreRefused sec w.requester 7))
        ∧ (c.reason = none ∨ (∀ br, e.ownBreaker sec = some br → br.atHighEnd = true → y.waitOf br = none) →
          takePower e y s c = y))
      ∧ (∀ br r w, e.ownBreaker sec = some br → br.atHighEnd = true → c.reason ≠ none → y.power.breakers.get br = some r →
        r.wait = some w → ∃ z : Blocks, z.power = y.power ∧ z.field.filters = y.field.filters ∧ z.peers = y.peers
          ∧ z.incidents = (takePower e y s c).incidents ∧ takePower e y s c = queueReport e
            (queuePowerFrame e (z.setBreaker br { r with wait := none }) br (some .restoreIncomplete))
            (.restoreRefused sec w.requester 7))
      ∧ ∀ br, e.ownBreaker sec = some br → br.atHighEnd = true → c.reason ≠ none → (takePower e y s c).waitOf br = none)
  ∧ (∀ (e : Env) (b x : Blocks) (q : List Instr) (source : Byte) (payload : List Byte) (p : PeerEntry) (br : Breaker) (r : BreakerRecord)
      (w : RestoreWait) (c : Instr), source.toNat ≠ e.nodeNumber → x = heardFrom e b source → x.peers.table[source.toNat]? = some p →
      br.atHighEnd = true → e.farNode br = source.toNat → x.power.breakers.get br = some r → r.wait = some w →
      (farReport e x br).map (·.1) ≠ some .closed →
      (∃ f, c = .powerFrame source payload ∧ arrives e b source payload (.power f) ∧ f.breaker = br.far ∧ f.state = .closed)
        ∨ (∃ f, c = .statusFrame source payload ∧ arrives e b source payload (.status f) ∧ f.breakers.get br.far = .known .closed) →
      ∃ b' z, exec c ⟨⟨e, b⟩, q⟩ = .next ⟨⟨e, b'⟩, q⟩ ∧ b'.power.breakers.get br = some z ∧ z.wait = none
        ∧ (closeRefusal e x br w.fromPort = none →
          z.condition = some (.closing { count := 0, limit := e.timeLimit, overtook := false, passing := false })
          ∧ b'.field.coils.get br = (if (x.field.coils.get br).openLine = true then { x.field.coils.get br with pendingClose := true }
            else { x.field.coils.get br with closeLine := true }))
        ∧ (closeRefusal e x br w.fromPort ≠ none → z.condition = r.condition ∧ b'.field.coils.get br = x.field.coils.get br))
  ∧ ∀ (e : Env) (y u : Blocks) (br : Breaker) (r : BreakerRecord),
    y.power.breakers.get br = some r → u = confirmItems e (sectionUpdate e y br) (fun sec => decide (sec = e.fed br)) →
    toldFarEnd e y br = (if br.atHighEnd = true ∧ (farReport e y br).map (·.1) = some .closed then tryWait e u br else u)
    ∧ (r.wait = none → tryWait e y br = y)
    ∧ ∀ (w : RestoreWait) (z : Blocks), r.wait = some w → z = y.setBreaker br { r with wait := none } →
      (closeRefusal e y br w.fromPort = none → tryWait e y br = setCondition e (closeCoil z br) br
        (.closing { count := 0, limit := e.timeLimit, overtook := false, passing := false }) none)
      ∧ (∀ reason, closeRefusal e y br w.fromPort = some reason → tryWait e y br =
        queueReport e (queuePowerFrame e z br (some reason)) (.restoreRefused (e.fed br) w.requester reason.code))
      ∧ (br.atHighEnd = true → 1 ≤ e.nodeNumber → (∀ other, other ≠ br → other.atHighEnd = true → y.waitOf other = none) →
        toldLost e y (e.nodeNumber - 1) = tryWait e y br)

/-- An ISOLATE frame at an end of its section: with LOCAL set a POWER frame refuses it, otherwise its id joins the breaker's lockout set,
which gives the breaker an open command (R118) and ends a close pulse still running or pending, and a POWER frame follows;
elsewhere it changes nothing (R133, R125). The POWER frame is queued where the breaker has a state that a frame can carry (the
model's reading for an input that has not settled, log entry 13). A station-port ISOLATE of a local incident adds an item for its
section, or restarts the item that stands there and reports its return to PENDING, adds the id at this node's own end and sends
the ISOLATE frame, or is refused by the first of R131's cases that applies (their order is the model's choice, log entry 56, and so is
the first frame of an item that the addition has just confirmed, log entry 62). An open command makes a CLOSED, CLOSING or FAILED
breaker whose input is CLOSED OPENING, with count 0, the limit in force, and the mark that it overtook a close at CLOSING, and drives
its OPEN coil, which ends the close pulse; a FAILED one with input OPEN becomes OPEN; and a restore wait is abandoned (R116, R118, R138,
R24). Its report carries no cause, the model's reading (log entry 14). -/
def Obligations.IsolateFramesAndRequests : Prop :=
  ∀ (e : Env) (b : Blocks) (q : List Instr),
    (∀ source payload sec id x, source.toNat ≠ e.nodeNumber → arrives e b source payload (.isolate sec id) → x = heardFrom e b source →
      (e.ownBreaker sec = none → exec (.isolateFrame source payload) ⟨⟨e, b⟩, q⟩ = .next ⟨⟨e, x⟩, q⟩)
      ∧ ∀ br, e.ownBreaker sec = some br →
        (x.power.keyLocal = true →
          exec (.isolateFrame source payload) ⟨⟨e, b⟩, q⟩ = .next ⟨⟨e, queuePowerFrame e x br (some .keyLocal)⟩, q⟩)
        ∧ (x.power.keyLocal = false → exec (.isolateFrame source payload) ⟨⟨e, b⟩, q⟩ =
          .next ⟨⟨e, queuePowerFrame e (lockoutAdd e x br id false) br none⟩, q⟩))
    ∧ (∀ (br : Breaker) (r : BreakerRecord) (id : IncidentId), b.power.breakers.get br = some r →
        (id ∈ r.lockout → lockoutAdd e b br id false = b)
        ∧ (id ∉ r.lockout → ∃ y, (lockoutAdd e b br id false).power.breakers.get br = some y
          ∧ (r.lockout.length < 4 → y.lockout = r.lockout ++ [id] ∧ y.overlock = r.overlock)
          ∧ (4 ≤ r.lockout.length → y.lockout = r.lockout ∧ y.overlock = true)
          ∧ y.wait = none ∧ y.condition = (openCommand e b br).condition br
          ∧ ((lockoutAdd e b br id false).field.coils.get br) =
            { ((openCommand e b br).field.coils.get br) with closeLine := false, pendingClose := false }))
    ∧ (∀ (br : Breaker) (r : BreakerRecord) (cmd : Bool → Condition) (moves : Option Condition) (x : Blocks),
        b.power.breakers.get br = some r →
        (∀ overtook, cmd overtook = .opening
          { count := 0, limit := (e.config.map (·.timeLimit)).getD 100, overtook := overtook, passing := false }) →
        moves = (match r.condition with
          | some .closed => some (cmd false)
          | some (.closing _) => some (cmd true)
          | some .failed => if r.inputClosed = some true then some (cmd false) else none
          | _ => none) →
        x = (match moves with
          | some c => setCondition e (b.setCoils br { openLine := true, closeLine := false, pendingClose := false }) br c none
          | none => if r.condition = some .failed then setCondition e b br .opened none else b) →
        (r.wait = none → openCommand e b br = x)
        ∧ (∀ w, r.wait = some w → openCommand e b br = queueReport e
          (queuePowerFrame e (modifyBreaker x br fun y => { y with wait := none }) br (some .abandoned))
          (.restoreRefused (e.fed br) w.requester 8))
        ∧ (openCommand e b br).condition br =
          (if moves ≠ none then moves else if r.condition = some .failed then some .opened else r.condition)
        ∧ (openCommand e b br).field.coils.get br =
          if moves ≠ none then { openLine := true, closeLine := false, pendingClose := false } else b.field.coils.get br)
    ∧ (∀ (tag c1 c2 c3 c4 : Byte) (sec : TractionSection) (id : IncidentId), takes b .power 1 tag [c1, c2, c3, c4] →
        e.nodeState ≠ .configuring → b.incidents.proper → sec.track.code = c1.toNat → sec.gap = c2.toNat → id = ⟨c3.toNat, c4.toNat⟩ →
        (e.lineCount < sec.gap + 2 →
          exec (.isolate tag [c1, c2, c3, c4]) ⟨⟨e, b⟩, q⟩ = .next (answered e (received b) q .power tag [2]))
        ∧ (sec.gap + 2 ≤ e.lineCount → (b.incidents.find id = none ∨ ∃ r, b.incidents.find id = some r ∧ r.isLocal = false) →
          exec (.isolate tag [c1, c2, c3, c4]) ⟨⟨e, b⟩, q⟩ = .next (answered e (received b) q .power tag [10]))
        ∧ ∀ r o, sec.gap + 2 ≤ e.lineCount → b.incidents.find id = some r → r.holding = .owned o →
          (2 ≤ o.isolation.length → (∀ i ∈ o.isolation, i.sec ≠ sec) →
            exec (.isolate tag [c1, c2, c3, c4]) ⟨⟨e, b⟩, q⟩ = .next (answered e (received b) q .power tag [5]))
          ∧ ((∃ i ∈ o.isolation, i.sec = sec) → ∀ (x x' y : Blocks),
            x = (received b).modifyRecord id (fun r => r.setItems
              (r.items.map fun i => if i.sec = sec then { i with sends := 0, repeats := 0, state := .pending } else i)) →
            x' = (if o.isolation.any fun i => decide (i.sec = sec ∧ i.state ≠ .pending) then
              queueReport e x (.itemChange id sec .pending) else x) →
            y = (match e.ownBreaker sec with
              | some br => lockoutAdd e x' br id false
              | none => x') →
            exec (.isolate tag [c1, c2, c3, c4]) ⟨⟨e, b⟩, q⟩ = .next (answered e
              (setItem (queueFrame e y (.isolate sec id)) id sec fun i => { i with sends := i.sends + 1, repeats := 0 }) q .power tag [0]))
          ∧ (o.isolation.length < 2 → (∀ i ∈ o.isolation, i.sec ≠ sec) → ∀ (x y : Blocks),
            x = (received b).modifyRecord id (fun r => r.setItems
              (r.items ++ [{ sec := sec, sends := 0, repeats := 0, state := .pending }])) →
            y = (match e.ownBreaker sec with
              | some br => lockoutAdd e x br id false
              | none => x) →
            exec (.isolate tag [c1, c2, c3, c4]) ⟨⟨e, b⟩, q⟩ = .next (answered e
              (setItem (queueFrame e y (.isolate sec id)) id sec fun i => { i with sends := i.sends + 1, repeats := 0 }) q .power tag [0])))

/-- A RESTORE at an end: the cleanup of R135 takes the named id out of the lockout set where it stands there and no record of it is held;
then a CLOSED or CLOSING breaker is only reported again; the first condition of R135 that fails refuses with its reason; with every
condition held the low end closes, and the high end closes alone where the low end is not heard or is
CLOSED, and otherwise begins its wait (R135 to R137). A station-port RESTORE in a node that is an end acts there and then sends
the frame, one at an OPENING breaker is BUSY, and FORCE first
empties the lockout set but for the id of a set latch and clears OVERLOCK, at an end alone (R134, R126; the places of FORCE are log
entry 11). That the report of a breaker that a command moves carries no cause is the model's reading (log entry 14), and so is RANGE
for an id outside the line (log entry 39); that RANGE answers where STATE applies too, and RANGE for another FORCE character, are its
choices (log entries 56 and 11). -/
def Obligations.RestoreAtAnEnd : Prop :=
  ∀ (e : Env) (b : Blocks) (q : List Instr),
    (∀ source payload sec requester id x, source.toNat ≠ e.nodeNumber → arrives e b source payload (.restore sec requester id) →
      x = heardFrom e b source →
      (e.nodeState = .configuring ∨ e.ownBreaker sec = none →
        exec (.restoreFrame source payload) ⟨⟨e, b⟩, q⟩ = .next ⟨⟨e, x⟩, q⟩)
      ∧ ∀ br, e.nodeState ≠ .configuring → e.ownBreaker sec = some br →
        exec (.restoreFrame source payload) ⟨⟨e, b⟩, q⟩ = .next ⟨⟨e, meetRestore e x br false requester id⟩, q⟩)
    ∧ (∀ (br : Breaker) (fromPort : Bool) (requester : Nat) (id : Option IncidentId) (x : Blocks) (r : BreakerRecord),
        x = namedCleanup e b br id → x.power.breakers.get br = some r →
        (r.condition = some .closed ∨ (∃ c, r.condition = some (.closing c)) →
          meetRestore e b br fromPort requester id = queuePowerFrame e x br none)
        ∧ closeRefusal e x br fromPort =
          (if x.power.keyLocal = true ∧ fromPort = false then some .keyLocal
           else if r.lockout ≠ [] then some .lockout
           else if r.overlock = true then some .overlock
           else if r.condition ≠ some .opened then some .notOpen
           else if ∃ i ∈ x.incidents.records, 3 ≤ i.severity ∧ i.span.covers (e.fed br) = true then some .incident
           else if (x.power.latches.get br.track).isSet = true then some .estop
           else none)
        ∧ (∀ reason y, r.condition ≠ some .closed → (∀ c, r.condition ≠ some (.closing c)) → closeRefusal e x br fromPort = some reason →
          y = (if br.atHighEnd then x.setBreaker br { r with wait := none } else x) →
          meetRestore e b br fromPort requester id =
            queueReport e (queuePowerFrame e y br (some reason)) (.restoreRefused (e.fed br) requester reason.code))
        ∧ (closeRefusal e x br fromPort = none → br.atHighEnd = false → meetRestore e b br fromPort requester id =
          setCondition e (closeCoil x br) br (.closing { count := 0, limit := e.timeLimit, overtook := false, passing := false }) none)
        ∧ (closeRefusal e x br fromPort = none → br.atHighEnd = true →
          (x.peers.entry (e.farNode br)).liveness = .unheard ∨ (x.peers.entry (e.farNode br)).liveness = .lost
            ∨ (farReport e x br).map (·.1) = some .closed → meetRestore e b br fromPort requester id =
          setCondition e (closeCoil (x.setBreaker br { r with wait := none }) br) br
            (.closing { count := 0, limit := e.timeLimit, overtook := false, passing := false }) none)
        ∧ (closeRefusal e x br fromPort = none → br.atHighEnd = true →
          (x.peers.entry (e.farNode br)).liveness = .current ∨ (x.peers.entry (e.farNode br)).liveness = .stale →
          (farReport e x br).map (·.1) ≠ some .closed →
          ∃ y, (meetRestore e b br fromPort requester id).power.breakers.get br = some y ∧ y.condition = some .opened
            ∧ y.wait = some { fromPort := fromPort, requester := requester, id := id, count := 0 }))
    ∧ (∀ (br : Breaker) (r : BreakerRecord) (id : IncidentId) (l : List IncidentId), b.power.breakers.get br = some r →
        l = r.lockout.filter (fun i => decide (i ≠ id)) →
        namedCleanup e b br none = b
        ∧ (id ∉ r.lockout ∨ b.incidents.find id ≠ none → namedCleanup e b br (some id) = b)
        ∧ (id ∈ r.lockout → b.incidents.find id = none → namedCleanup e b br (some id) =
          queueReport e (b.setBreaker br { r with lockout := l }) (.lockoutChange br l.length r.overlock)))
    ∧ [RefusalReason.keyLocal, .lockout, .overlock, .notOpen, .incident, .estop, .restoreIncomplete, .abandoned].map RefusalReason.code
      = [1, 2, 3, 4, 5, 6, 7, 8]
    ∧ (∀ (br : Breaker) (r : BreakerRecord), b.power.breakers.get br = some r → ∃ y,
        (forceLockout e b br).power.breakers.get br = some y ∧ y.overlock = false ∧ y.condition = r.condition
        ∧ ∀ id, id ∈ y.lockout ↔ id ∈ r.lockout ∧ ∃ t, (b.power.latches.get t).isSet = true ∧ (b.power.latches.get t).id = some id)
    ∧ (∀ (tag c1 c2 c3 c4 force : Byte) (p : List Byte) (sec : TractionSection) (id : Option IncidentId) (br : Breaker) (z : Blocks),
        p = [c1, c2, c3, c4, force] → takes b .power 2 tag p → e.nodeState ≠ .configuring → sec.track.code = c1.toNat →
        sec.gap = c2.toNat → id = (if c3 = 0xFF ∧ c4 = 0xFF then none else some ⟨c3.toNat, c4.toNat⟩) →
        (e.lineCount < sec.gap + 2 ∨ 1 < force.toNat ∨ (∃ i ∈ id, e.lineCount ≤ i.origin ∨ i.serial = 0) →
          exec (.restore tag p) ⟨⟨e, b⟩, q⟩ = .next (answered e (received b) q .power tag [2]))
        ∧ (sec.gap + 2 ≤ e.lineCount → (∀ i ∈ id, i.origin < e.lineCount ∧ 1 ≤ i.serial) →
          force = 0 ∧ z = received b ∨ force = 1 ∧ z = forceLockout e (received b) br →
          (e.ownBreaker sec = none → exec (.restore tag p) ⟨⟨e, b⟩, q⟩ = .next
            (if force = 0 then answered e (queueFrame e (received b) (.restore sec e.nodeNumber id)) q .power tag [0]
             else answered e (received b) q .power tag [3]))
          ∧ (e.ownBreaker sec = some br →
            ((∃ c, b.condition br = some (.opening c)) → exec (.restore tag p) ⟨⟨e, b⟩, q⟩ =
              .next (answered e (received b) q .power tag [4]))
            ∧ ((∀ c, b.condition br ≠ some (.opening c)) → exec (.restore tag p) ⟨⟨e, b⟩, q⟩ =
              .next (answered e (queueFrame e (meetRestore e z br true e.nodeNumber id) (.restore sec e.nodeNumber id))
                q .power tag [0])))))

/-- An INCIDENT frame. For an id not held: a CLOSE is told to the Power Controller alone; a frame that names this node as owner, or lies
outside the interest range and is of another origin, is ignored; otherwise a copy is stored at the end of the table, with its report and
what its entry makes known; a full table first evicts its lightest copy, the oldest among equals, that is lighter than the newcomer and
holds no lockout, or without one refuses the copy with a report (R157, R148, R159). A copy is removed by any CLOSE, and takes the fields of
a frame of its owner (R158, R159). A local record is kept against a claim that does not prevail, with a REFRESH, and is yielded or removed
to one that does (R161); a copy takes the fields of a claim of another owner that prevails, and stands against one that does not (R158,
R160). The model's own: where no row of R160 decides, the claim held stands (log entry 20); a CLOSE for an id not held locally acts whoever
its owner field names, and a frame that names this node is answered for a local record as a claim that does not prevail (log entry 30); the
copy-stored report comes before what the entry makes known (log entry 55), and a refused copy is reported with admission number 0 (log entry
59). -/
def Obligations.IncidentFrames : Prop :=
  (∀ (e : Env) (b x : Blocks) (q : List Instr) (source : Byte) (payload : List Byte) (c : IncidentContents),
    source.toNat ≠ e.nodeNumber → arrives e b source payload (.incident c) → x = heardFrom e b source → ∃ b',
      exec (.incidentFrame source payload) ⟨⟨e, b⟩, q⟩ = .next ⟨⟨e, b'⟩, q⟩
      ∧ (x.incidents.find c.id = none →
          (c.action = .close → b' = powerIdLeft e x c.id)
          ∧ (c.action ≠ .close →
            c.owner = e.nodeNumber ∨ c.id.origin ≠ e.nodeNumber ∧ (∀ sec : TractionSection, c.span.covers sec = true →
              sec.gap + 2 ≤ e.lineCount → sec.gap + 2 < e.nodeNumber ∨ e.nodeNumber + 1 < sec.gap) → b' = x)
          ∧ (c.action ≠ .close → c.owner ≠ e.nodeNumber → c.id.origin = e.nodeNumber ∨
              (∃ sec : TractionSection, c.span.covers sec = true ∧ sec.gap + 2 ≤ e.lineCount ∧ e.nodeNumber ≤ sec.gap + 2
                ∧ sec.gap ≤ e.nodeNumber + 1) →
            x.incidents.records.length < 32 → ∃ r, b'.incidents.records = x.incidents.records ++ [r] ∧ r.id = c.id ∧ r.kind = c.kind
              ∧ r.severity = c.severity ∧ r.span = c.span ∧ r.platform = c.platform ∧ r.trip = c.trip ∧ r.owner = c.owner
              ∧ r.adoptedFrom = c.adoptedFrom ∧ r.raised = c.raised ∧ r.acked = c.acked ∧ r.isolationFailed = c.isolationFailed
              ∧ r.holding = .copy { orphan := false, silence := 0 } ∧ r.admission = x.incidents.nextAdmission)
          ∧ ∀ (k : Incident) (y : Blocks), c.action ≠ .close → c.owner ≠ e.nodeNumber → c.id.origin = e.nodeNumber ∨
              (∃ sec : TractionSection, c.span.covers sec = true ∧ sec.gap + 2 ≤ e.lineCount ∧ e.nodeNumber ≤ sec.gap + 2
                ∧ sec.gap ≤ e.nodeNumber + 1) →
            k = { id := c.id, kind := c.kind, severity := c.severity, span := c.span, platform := c.platform, trip := c.trip
                  owner := c.owner, adoptedFrom := c.adoptedFrom, raised := c.raised, acked := c.acked
                  isolationFailed := c.isolationFailed, holding := .copy { orphan := false, silence := 0 }, admission := 0 } →
            (x.incidents.records.length < 32 → y = x → b' = tellEntry e (queueReport e (enterRecord y k)
              (.incident .copyStored { k with admission := y.incidents.nextAdmission })) k none)
            ∧ (32 ≤ x.incidents.records.length →
              ((∀ v ∈ x.incidents.records, x.looseCopy v → c.severity ≤ v.severity) →
                b' = queueReport e x (.incident .copyRefused k))
              ∧ ∀ v, lightestOf x.incidents.records (fun r => x.looseCopy r ∧ r.severity < c.severity) v →
                y = queueReport e (tellDeparture e (leaveTable x v.id) v.id) (.incident .evicted v) →
                b' = tellEntry e (queueReport e (enterRecord y k)
                  (.incident .copyStored { k with admission := y.incidents.nextAdmission })) k none
                ∧ b'.incidents.records.map (·.id) =
                  (x.incidents.records.map (·.id)).filter (fun i => decide (i ≠ v.id)) ++ [c.id]))
      ∧ (∀ r p, x.incidents.find c.id = some r → r.holding = .copy p →
          (c.action = .close → b' = removeCopy e x c.id)
          ∧ (c.action ≠ .close → c.owner = e.nodeNumber
              ∨ c.owner ≠ r.owner ∧ c.claim.prevails r.claim r.kind r.id.origin = false → b' = x)
          ∧ (c.action ≠ .close → c.owner ≠ e.nodeNumber → c.owner = r.owner ∨ c.claim.prevails r.claim r.kind r.id.origin = true →
              ∃ r', b'.incidents.find c.id = some r'
              ∧ r'.severity = c.severity ∧ r'.span = c.span ∧ r'.platform = c.platform ∧ r'.trip = c.trip ∧ r'.owner = c.owner
              ∧ r'.adoptedFrom = c.adoptedFrom ∧ r'.acked = c.acked ∧ r'.isolationFailed = c.isolationFailed
              ∧ r'.holding = .copy { orphan := false, silence := 0 } ∧ r'.kind = r.kind ∧ r'.raised = r.raised))
      ∧ (∀ r o, x.incidents.find c.id = some r → r.holding = .owned o →
          (c.owner = e.nodeNumber ∨ c.claim.prevails r.claim r.kind r.id.origin = false →
            b' = if c.action = .close then x else queueIncidentFrame e x c.id .refresh none)
          ∧ (c.owner ≠ e.nodeNumber → c.claim.prevails r.claim r.kind r.id.origin = true → c.action = .close → b' = removeCopy e x c.id)
          ∧ (c.owner ≠ e.nodeNumber → c.claim.prevails r.claim r.kind r.id.origin = true → c.action ≠ .close →
            b'.incidents.find c.id = some
              { r with
                severity := c.severity, span := c.span, platform := c.platform, trip := c.trip, owner := c.owner
                adoptedFrom := c.adoptedFrom, acked := c.acked, isolationFailed := c.isolationFailed
                holding := .copy { orphan := false, silence := 0 } })))
  ∧ ∀ (a h : Claim) (kind : IncidentKind) (origin : Nat) (wins : Bool), wins = a.prevails h kind origin →
    (kind = .emergencyStop → a.owner = origin → h.owner ≠ origin → wins = true)
    ∧ (kind = .emergencyStop → h.owner = origin → a.owner ≠ origin → wins = false)
    ∧ (kind ≠ .emergencyStop ∨ (a.owner = origin ↔ h.owner = origin) →
      (a.adoptedFrom = some h.owner → h.adoptedFrom ≠ some a.owner → wins = true)
      ∧ (h.adoptedFrom = some a.owner → a.adoptedFrom ≠ some h.owner → wins = false)
      ∧ ((a.adoptedFrom = some h.owner ↔ h.adoptedFrom = some a.owner) →
        (a.adoptedFrom ≠ none → h.adoptedFrom = none → wins = true)
        ∧ (a.adoptedFrom = none → h.adoptedFrom ≠ none → wins = false)
        ∧ (a.adoptedFrom ≠ none → h.adoptedFrom ≠ none → (wins = true ↔ a.owner < h.owner))
        ∧ (a.adoptedFrom = none → h.adoptedFrom = none → wins = false)))

/-- A DEPART frame gives its start to the recent-starts table (R59). In READY and SERVICE one from the upstream node of its platform, with
TERMINATES clear, joins the approaching queue, in order of U behind every entry not above it, with source HEARD (R76), and one that
repeats a queued trip or finds 8 entries is refused with DESCRIPTION_ERROR, unless a local one names the platform, and a report (R77),
which names the duplicate where both hold (the model's choice, log entry 50). After an addition come its report, the regulator's
recomputation of the target for the first follower of a REGULATED train in DWELL (R97), in SERVICE the APPROACH offer with its expiry
U + Rup and its minutes, the ceiling of what is left of it in 600 ds brought into 1 to 30 (R198), and the stall check of a new head
(R79). INJECT adds a train in the same way with source INJECTED, or answers RANGE, DUPLICATE or FULL (R78), the first of these that
applies (the model's choice, log entry 56). -/
def Obligations.DepartFramesAndInject : Prop :=
  ∀ (e : Env) (b : Blocks) (q : List Instr),
    (∀ (source : Byte) (payload : List Byte) (c : DepartContents) (x y : Blocks), source.toNat ≠ e.nodeNumber → arrives e b source payload (.depart c) → x = heardFrom e b source →
      y = (match c.entered with
        | some sec => offerStart e x sec c.dact
        | none => x) →
      (e.nodeState = .configuring ∨ e.upstream c.track ≠ some source.toNat ∨ c.terminates = true →
        exec (.departFrame source payload) ⟨⟨e, b⟩, q⟩ = .next ⟨⟨e, y⟩, q⟩)
      ∧ (e.nodeState ≠ .configuring → e.upstream c.track = some source.toNat → c.terminates = false →
        ((y.describer.get c.track).length < 8 → (∀ a ∈ y.describer.get c.track, a.trip ≠ c.trip) →
          exec (.departFrame source payload) ⟨⟨e, b⟩, q⟩ = .next ⟨⟨e, addApproach e y c.track c.trip c.dact .heard⟩, q⟩)
        ∧ (∀ a ∈ y.describer.get c.track, a.trip = c.trip → exec (.departFrame source payload) ⟨⟨e, b⟩, q⟩ =
          .next ⟨⟨e, queueReport e (describeError e y c.track c.trip) (.offerRefused c.track true c.trip c.dact)⟩, q⟩)
        ∧ (8 ≤ (y.describer.get c.track).length → (∀ a ∈ y.describer.get c.track, a.trip ≠ c.trip) →
          exec (.departFrame source payload) ⟨⟨e, b⟩, q⟩ =
            .next ⟨⟨e, queueReport e (describeError e y c.track c.trip) (.offerRefused c.track false c.trip c.dact)⟩, q⟩)))
    ∧ (∀ (t : Track) (trip u : Nat) (source : ApproachSource),
        ((addApproach e b t trip u source).describer.get t).map (fun a => (a.trip, a.upstream, a.source))
        = (((b.describer.get t).takeWhile fun a => a.upstream ≤ u).map fun a => (a.trip, a.upstream, a.source))
          ++ (trip, u, source) :: (((b.describer.get t).dropWhile fun a => a.upstream ≤ u).map fun a => (a.trip, a.upstream, a.source)))
    ∧ (∀ (t : Track) (trip u : Nat) (source : ApproachSource) (l : List Approach) (s : List Entry) (phrase : Option Nat) (x y z : Blocks),
        l = b.describer.get t → s = b.timetable.sequences.get t → (∀ a ∈ l, a.trip ≠ trip) →
        ((∀ w ∈ s, w.trip = trip → w.state ≠ .pending) → phrase = none) →
        (∀ before w after, s = before ++ w :: after → w.trip = trip → w.state = .pending → (s.map (·.trip)).Nodup → phrase = some w.phrase) →
        (s.map (·.trip)).Nodup →
        x = queueReport e (b.setApproach t ((l.takeWhile fun a => a.upstream ≤ u)
            ++ { trip := trip, upstream := u, source := source, stallRaised := false, stallId := none }
              :: l.dropWhile fun a => a.upstream ≤ u)) (.queueAddition t trip u source (l.length + 1)) →
        y = toldAddition e x t l.isEmpty → z = (if e.nodeState = .service then offerApproach e y t u phrase else y) →
        addApproach e b t trip u source = if ∃ a, l.head? = some a ∧ a.upstream ≤ u then z else stallCheck e z t)
    ∧ (∀ (t : Track) (wasEmpty : Bool),
        (wasEmpty = false ∨ (∀ d, (b.platforms.get t).standing ≠ .occupied .dwell d) → toldAddition e b t wasEmpty = b)
        ∧ ∀ d, (b.platforms.get t).standing = .occupied .dwell d →
          (d.mode = .manual ∨ d.followerAvailable = false → toldAddition e b t wasEmpty = b)
          ∧ ∀ (g : Nat) (i : DwellInput) (d' : Dwell) (y : Blocks), d.mode = .regulated → d.followerAvailable = true →
            g = effectiveGain e b t d.entry.isNone →
            i = { arrival := d.arrival, scheduled := d.scheduled, wmin := (e.platformConfig t).wmin, wmax := (e.platformConfig t).wmax
                  rup := (e.platformConfig t).rup, previous := (b.platforms.get t).lastDeparture.map (·.dact), headway := d.headway
                  follower := ((b.describer.get t).head?).map (·.upstream), gain := g } →
            d' = { d with
              followerAvailable := false, target := some i.target
              deviation := d.scheduled.map fun s : Nat => (i.target : Int) - (s : Int) } →
            y = queueReport e (b.setPlatform t { b.platforms.get t with standing := .occupied .dwell d' })
              (.recomputation t i.target d'.deviation g) →
            toldAddition e b t true =
              if i.target ≤ e.time.service then releaseCheck e y t { d' with targetOver := true } else y)
    ∧ (∀ (t : Track) (u expiry m : Nat) (phrase : Option Nat), expiry = min (u + (e.platformConfig t).rup) 1048575 →
        m = min (max ((expiry - e.time.service + 599) / 600) 1) 30 → offerApproach e b t u phrase = admitOrDrop e b
          { zone := .ofTrack t, priority := 2, repeats := 0, interval := 50, notBefore := none, expiry := some expiry, link := none
            origin := .timetable, kind := some .approach
            members := [e.templates.approach ++ phrase.toList ++ [e.numberBase + m]] })
    ∧ (∀ (t : Track) (trip : Nat) (sec : TractionSection),
        e.sectionBehind t = some sec ∨ e.sectionBehind t = none ∧ e.sectionAhead t = some sec →
        ((∃ r ∈ b.incidents.records, r.isLocal = true ∧ r.kind = .descriptionError ∧ r.platform = some ⟨e.nodeNumber, t⟩) →
          describeError e b t trip = b)
        ∧ ((∀ r ∈ b.incidents.records, r.isLocal = true → r.kind = .descriptionError → r.platform ≠ some ⟨e.nodeNumber, t⟩) →
          describeError e b t trip = (raiseIncident e b
            { kind := .descriptionError, severity := 1, span := .one sec, platform := some ⟨e.nodeNumber, t⟩
              trip := if trip = 0 then none else some trip } none).1))
    ∧ (∀ (tag c1 : Byte) (p : List Byte), takes b .timetable 3 tag (c1 :: p) → p.length = 5 → e.nodeState ≠ .configuring → 1 < c1.toNat →
        exec (.inject tag (c1 :: p)) ⟨⟨e, b⟩, q⟩ = .next (answered e (received b) q .timetable tag [2]))
    ∧ ∀ (tag c1 c2 c3 u1 u2 u3 : Byte) (t : Track) (trip u : Nat), takes b .timetable 3 tag [c1, c2, c3, u1, u2, u3] →
        e.nodeState ≠ .configuring → t.code = c1.toNat → trip = c2.toNat * 256 + c3.toNat →
        u = (if u1 = 0xFF ∧ u2 = 0xFF ∧ u3 = 0xFF then e.time.service else u1.toNat * 65536 + u2.toNat * 256 + u3.toNat) →
        (trip < 1 ∨ 9999 < trip ∨ e.time.service < u →
          exec (.inject tag [c1, c2, c3, u1, u2, u3]) ⟨⟨e, b⟩, q⟩ = .next (answered e (received b) q .timetable tag [2]))
        ∧ (1 ≤ trip → trip ≤ 9999 → u ≤ e.time.service →
          (∀ a ∈ b.describer.get t, a.trip = trip →
            exec (.inject tag [c1, c2, c3, u1, u2, u3]) ⟨⟨e, b⟩, q⟩ = .next (answered e (received b) q .timetable tag [8]))
          ∧ ((∀ a ∈ b.describer.get t, a.trip ≠ trip) → 8 ≤ (b.describer.get t).length →
            exec (.inject tag [c1, c2, c3, u1, u2, u3]) ⟨⟨e, b⟩, q⟩ = .next (answered e (received b) q .timetable tag [5]))
          ∧ ((∀ a ∈ b.describer.get t, a.trip ≠ trip) → (b.describer.get t).length < 8 →
            exec (.inject tag [c1, c2, c3, u1, u2, u3]) ⟨⟨e, b⟩, q⟩ =
              .next (answered e (addApproach e (received b) t trip u .injected) q .timetable tag [0])))

/-! ### Counts and times -/

/-- A CURRENT peer whose silence has reached 25 becomes STALE, and a STALE one at 60 becomes LOST, its breaker reports absent; both are
reported with the peer, the liveness before and the liveness after, before the Incident Table and, of a LOST neighbour, the Power
Controller are told, and a LOST neighbour raises NODE_LOST over the gap between; the far ends that this changes are then told (R52, R55,
R56, R61). The order of the report, the Incident Table, the Power Controller, NODE_LOST and the far ends is the model's (log entry 41): the
rules give the consequences and not their whole order. A start older than 600 advances counts as absent, and its lapse is made known
once, so that both regulators evaluate STAGGER again (R58, R60). -/
def Obligations.PeersGrowStaleAndLost : Prop :=
  ∀ (e : Env) (b : Blocks) (q : List Instr) (n : Nat) (p : PeerEntry), b.peers.table[n]? = some p →
    (p.liveness = .current → 25 ≤ p.silence → ∃ b', exec (.peerStale n) ⟨⟨e, b⟩, q⟩ = .next ⟨⟨e, b'⟩, q⟩
      ∧ b' = tellLiveness e (modifyPeer b n fun p => { p with liveness := .stale }) n .current .stale
      ∧ b'.peers.table[n]? = some { p with liveness := .stale })
    ∧ (∀ (x z : Blocks) (before after : Liveness), z = toldLiveness e (queueReport e x (.peerLiveness n before after)) n after →
      tellLiveness e x n before after = if after = .lost ∧ e.isNeighbour n = true then toldLost e z n else z)
    ∧ (p.liveness = .stale → 60 ≤ p.silence → ∃ b', exec (.peerLost n) ⟨⟨e, b⟩, q⟩ = .next ⟨⟨e, b'⟩, q⟩
      ∧ b'.peers.table[n]? = some { p with liveness := .lost, reports := ⟨none, none, none, none⟩ }
      ∧ (b' = withFarEnds e b fun x => raiseLost e (tellLiveness e
        (modifyPeer x n fun p => { p with liveness := .lost, reports := ⟨none, none, none, none⟩ }) n .stale .lost) n)
      ∧ (∀ br, e.farNode br = n → farReport e b' br = none)
      ∧ (e.isNeighbour n = true → ∀ br, br.atHighEnd = true → e.farNode br = n → b'.waitOf br = none)
      ∧ (e.nodeState ≠ .configuring → e.isNeighbour n = true → b.peers.lostId e n = none →
          b.incidents.records.length < 32 → ∃ id r, b'.peers.lostId e n = some id ∧ b'.incidents.find id = some r
            ∧ r.kind = .nodeLost ∧ r.severity = 2 ∧ r.isLocal = true
            ∧ r.span = { tracks := .both, first := e.gapTo n, last := e.gapTo n }))
    ∧ ∀ s, b.peers.starts[n]? = some s →
      (s.age > 600 → b.peers.start n = none)
      ∧ (s.start.isSome → s.age > 600 → s.lapsed = false → exec (.lapse n) ⟨⟨e, b⟩, q⟩ = .next ⟨⟨e,
          toldStarts e (b.setPeers { b.peers with starts := b.peers.starts.set n { s with lapsed := true } })⟩, q⟩)
      ∧ (s.lapsed = true → exec (.lapse n) ⟨⟨e, b⟩, q⟩ = .next ⟨⟨e, b⟩, q⟩)

/-- The head of an approaching queue whose overdue instant U + Rup + margin is reached raises TRAIN_STALLED over the section behind, once,
and holds its id (R80). FLUSH removes the entry of its trip, closes its stall incident and is reported, or answers RANGE or
UNKNOWN_ID, in this order (the model's choice, log entry 56); the new head is then checked (R81, R82). -/
def Obligations.OverdueTrainsAndFlush : Prop :=
  ∀ (e : Env) (b : Blocks) (q : List Instr) (t : Track),
    (∀ a rest sec x, b.describer.get t = a :: rest → e.sectionBehind t = some sec → e.nodeState ≠ .configuring →
      x = raiseIncident e b
        { kind := .trainStalled, severity := 3, span := { tracks := .one t, first := sec.gap, last := sec.gap }
          platform := some ⟨e.nodeNumber, t⟩, trip := if a.trip = 0 then none else some a.trip } none →
      (a.stallRaised = false →
        min (a.upstream + (e.platformConfig t).rup + (e.platformConfig t).stallMargin) Config.serviceTimeMax ≤ e.time.service →
        exec (.overdueInstant t) ⟨⟨e, b⟩, q⟩ =
          .next ⟨⟨e, x.1.setApproach t ({ a with stallRaised := true, stallId := x.2 } :: rest)⟩, q⟩)
      ∧ (a.stallRaised = true → exec (.overdueInstant t) ⟨⟨e, b⟩, q⟩ = .next ⟨⟨e, b⟩, q⟩))
    ∧ ∀ (tag c1 c2 c3 : Byte), takes b .timetable 4 tag [c1, c2, c3] → e.nodeState ≠ .configuring →
      (1 < c1.toNat ∨ 9999 < c2.toNat * 256 + c3.toNat →
        exec (.flush tag [c1, c2, c3]) ⟨⟨e, b⟩, q⟩ = .next (answered e (received b) q .timetable tag [2]))
      ∧ (t.code = c1.toNat → c2.toNat * 256 + c3.toNat ≤ 9999 → (∀ a ∈ b.describer.get t, a.trip ≠ c2.toNat * 256 + c3.toNat) →
        exec (.flush tag [c1, c2, c3]) ⟨⟨e, b⟩, q⟩ = .next (answered e (received b) q .timetable tag [10]))
      ∧ ∀ before after a y, t.code = c1.toNat → a.trip = c2.toNat * 256 + c3.toNat → a.trip ≤ 9999 →
        b.describer.get t = before ++ a :: after → ((b.describer.get t).map (·.trip)).Nodup →
        y = queueReport e (closeOwned e ((received b).setApproach t (before ++ after)) a.stallId .trainStalled) (.flushed t a.trip) →
        exec (.flush tag [c1, c2, c3]) ⟨⟨e, b⟩, q⟩ =
          .next (answered e (if before = [] then stallCheck e y t else y) q .timetable tag [0])

/-- A local record's refresh count of 100 outside CONFIGURING queues a REFRESH and starts again (R156); a local DESCRIPTION_ERROR
of age 6,000 closes with reason AUTO (R155), and any close but that of a CONFIGURE sends the CLOSE frame, which starts the refresh count
again, as the report shows (R154, R156, R165); a copy of silence age 350 leaves the table as at a CLOSE frame and is reported as
dropped (R159). Below its count the command changes nothing (the model's choice, log entry 2). An id that leaves the table leaves every
lockout set, with a report of each set, clears the latch that holds it, of which the regulator is told before the report, and a FAILED
breaker whose fail id it is takes its input as its state, with an open command where a lockout stands; the chains linked to it are
then withdrawn and both regulators told (R122, R126, R141, R163, R193). That the sets and latches lose the id before the breaker takes
its input is the model's choice (log entry 52), as are UL, UH, DL, DH among the sets (log entry 54) and the one run of the arbiter
after withdrawals (log entry 24). -/
def Obligations.RecordsOfAge : Prop :=
  (∀ (e : Env) (b : Blocks) (q : List Instr) (id : IncidentId) (r : Incident), b.incidents.find id = some r →
    (∀ o, r.holding = .owned o →
      (e.nodeState ≠ .configuring → 100 ≤ o.refresh → exec (.refresh id) ⟨⟨e, b⟩, q⟩ = .next ⟨⟨e,
        (queueFrame e b (.incident (r.contents .refresh none))).modifyRecord id Incident.refreshed⟩, q⟩)
      ∧ (e.nodeState = .configuring ∨ o.refresh < 100 → exec (.refresh id) ⟨⟨e, b⟩, q⟩ = .next ⟨⟨e, b⟩, q⟩)
      ∧ (r.kind = .descriptionError → 6000 ≤ o.age → exec (.localAgeClose id) ⟨⟨e, b⟩, q⟩ = .next ⟨⟨e, closeRecord e b r .auto⟩, q⟩)
      ∧ (r.kind ≠ .descriptionError ∨ o.age < 6000 → exec (.localAgeClose id) ⟨⟨e, b⟩, q⟩ = .next ⟨⟨e, b⟩, q⟩))
    ∧ (∀ p, r.holding = .copy p →
      (350 ≤ p.silence → exec (.copyDrop id) ⟨⟨e, b⟩, q⟩ = .next ⟨⟨e,
        queueReport e (tellDeparture e (leaveTable b id) id) (.incident .dropped r)⟩, q⟩)
      ∧ (p.silence < 350 → exec (.copyDrop id) ⟨⟨e, b⟩, q⟩ = .next ⟨⟨e, b⟩, q⟩))
    ∧ (∀ reason, reason ≠ .configure → closeRecord e b r reason = queueReport e
        (tellDeparture e (leaveTable (queueFrame e b (.incident (r.contents .close (some reason)))) r.id) r.id)
        (.incident (.closed reason.code) r.refreshed)))
  ∧ (∀ (e : Env) (b x : Blocks) (id : IncidentId), x = powerIdLeft e b id →
      tellDeparture e b id = toldIncident e (withdrawIncident e x id)
      ∧ (∀ br r, b.power.breakers.get br = some r → ∃ y l, x.power.breakers.get br = some y
        ∧ l = r.lockout.filter (fun i => decide (i ≠ id)) ∧ y.lockout = l ∧ y.overlock = r.overlock ∧ y.inputClosed = r.inputClosed
        ∧ y.failId = (if r.failId = some id then none else r.failId)
        ∧ y.condition = (if r.failId = some id ∧ r.condition = some .failed then
            if r.inputClosed ≠ some true then some .opened
            else if l ≠ [] ∨ r.overlock = true then
              some (.opening { count := 0, limit := e.timeLimit, overtook := false, passing := false })
            else some .closed
          else r.condition))
      ∧ (∀ t l, b.power.latches.get t = l → x.power.latches.get t =
        if l.isSet = true ∧ l.id = some id then { isSet := false, id := none, ignored := l.ignored } else l))
  ∧ (∀ (e : Env) (b : Blocks) (id : IncidentId) (locked latched failed : Prop),
      (locked ↔ ∃ br r, b.power.breakers.get br = some r ∧ id ∈ r.lockout) →
      (latched ↔ ∃ t, (b.power.latches.get t).isSet = true ∧ (b.power.latches.get t).id = some id) →
      (failed ↔ ∃ br r, b.power.breakers.get br = some r ∧ r.failId = some id) →
      (¬locked → ¬latched → ¬failed → powerIdLeft e b id = b)
      ∧ (∀ br r l, ¬latched → ¬failed → b.power.breakers.get br = some r → id ∈ r.lockout →
        (∀ br' r', br' ≠ br → b.power.breakers.get br' = some r' → id ∉ r'.lockout) → l = r.lockout.filter (fun i => decide (i ≠ id)) →
        powerIdLeft e b id = queueReport e (b.setBreaker br { r with lockout := l }) (.lockoutChange br l.length r.overlock))
      ∧ (∀ t l, ¬locked → ¬failed → b.power.latches.get t = l → l.isSet = true → l.id = some id →
        (∀ t', t' ≠ t → (b.power.latches.get t').isSet = false ∨ (b.power.latches.get t').id ≠ some id) →
        powerIdLeft e b id = queueReport e (toldLatch e (b.setLatch t { l with isSet := false, id := none }) t) (.latchCleared t (some id)))
      ∧ ∀ br r x u, ¬locked → ¬latched → b.power.breakers.get br = some r → r.failId = some id →
        (∀ br' r', br' ≠ br → b.power.breakers.get br' = some r' → r'.failId ≠ some id) → x = b.setBreaker br { r with failId := none } →
        (r.condition ≠ some .failed → powerIdLeft e b id = x)
        ∧ (r.condition = some .failed →
          u = setCondition e x br (if r.inputClosed = some true then .closed else .opened) (some .followInput) →
          powerIdLeft e b id =
            if r.inputClosed = some true ∧ (r.lockout ≠ [] ∨ r.overlock = true) then openCommand e u br else u))
  ∧ ∀ (e : Env) (x : Blocks) (id : IncidentId),
    (∀ z, ∀ c ∈ (withdrawIncident e x id).announce.queues.get z, c.link ≠ some (.incident id))
    ∧ ((∀ z, ∀ c ∈ x.announce.queues.get z, c.link ≠ some (.incident id)) → withdrawIncident e x id = x)
    ∧ ∀ (z : Zone) (c : Chain) (y : Blocks), c.place = .waiting → y = discardChain e x z c .withdrawn →
      (∀ z', (x.announce.queues.get z').filter (fun d => decide (d.link = some (.incident id))) = if z' = z then [c] else []) →
      withdrawIncident e x id = if x.announce.mask = true ∧ y.announce.mask = false then arbiter e y else y

/-- A chain's not-before, whose coming the chain's mark tells (the model's mark, log entry 1), lets the arbiter run once (R181); a waiting
chain's expiry, once reached, discards the chain with its report and frees its blocks, the arbiter running where the mask lifts
(R181, R183, R171); before it MESSAGE_EXPIRY changes nothing (the model's choice, log entry 2). WITHDRAW discards the chain that
holds a message, stops it where it plays, changes the cause of a stop to WITHDRAW, and answers OK, or UNKNOWN_ID where no chain
holds it (R193, R194, R191): that the message-dropped report of the discard comes before the STOP report is the model's choice (log entry
55). The arbiter gives the lowest-numbered IDLE channel to the first-ranked ready chain whose zone holds none
and goes on, until no channel is IDLE or no such chain is left (R183, R184, R186); with no channel IDLE and none STOPPING the
first-ranked ready chain that may take a channel by force stops it (R185). -/
def Obligations.ChainsInTime : Prop :=
  ∀ (e : Env) (b : Blocks) (q : List Instr),
    (∀ (i : Nat) (z : Zone) (c : Chain) (m : Member) (rest : List Member), b.announce.channel i = some .idle →
      (∀ j, j < i → b.announce.channel j ≠ some .idle) → b.ready e z c → b.zoneFree z →
      (∀ z' c', b.ready e z' c' → b.zoneFree z' → z' = z ∨ ranksBefore z c z' c') → c.members = m :: rest →
      arbiter e b = arbiter e (queueReport e
        (placeChain (b.setChannel i (.playing z m.id 0 e.time.service)) z { c with place := .onChannel }) (.play i z m.id m.phrases)))
    ∧ ((∃ i, b.announce.channel i = some .idle) → (∀ z c, b.ready e z c → ¬b.zoneFree z) → arbiter e b = b)
    ∧ ((∀ i, b.announce.channel i ≠ some .idle) →
      ((∃ i z m cause n began, b.announce.channel i = some (.stopping z m cause n began)) → arbiter e b = b)
      ∧ ((∀ z c i, b.ready e z c → ¬b.preempts z c i) → arbiter e b = b)
      ∧ ∀ z c i z' m n began, (∀ i z m cause n began, b.announce.channel i ≠ some (.stopping z m cause n began)) →
        b.ready e z c → b.preempts z c i → (∀ z' c' j, b.ready e z' c' → b.preempts z' c' j → z' = z ∨ ranksBefore z c z' c') →
        b.announce.channel i = some (.playing z' m n began) →
        arbiter e b = queueReport e (b.setChannel i (.stopping z' m .preempt 0 began)) (.stop i z' m (some .preempt)))
    ∧
    (∀ (message : Nat) (z : Zone) (c : Chain), b.announce.findMessage message = some (z, c) →
      (c.notBeforeDue = true → exec (.notBeforeReached message) ⟨⟨e, b⟩, q⟩ = .next ⟨⟨e,
        arbiter e (placeChain b z { c with notBeforeDue := false })⟩, q⟩)
      ∧ (∀ expiry x, c.place = .waiting → c.expiry = some expiry →
        x = queueReport e ((c.members.map (·.id)).foldl releaseMessage
            (b.setQueue z ((b.announce.queues.get z).filter fun d => d.headId ≠ c.headId)))
          (.messageDropped (some c.headId) z c.origin c.kind .expired) →
        (expiry ≤ e.time.service → exec (.messageExpiry message) ⟨⟨e, b⟩, q⟩ = .next ⟨⟨e,
          if b.announce.mask = true ∧ x.announce.mask = false then arbiter e x else x⟩, q⟩)
        ∧ (e.time.service < expiry → exec (.messageExpiry message) ⟨⟨e, b⟩, q⟩ = .next ⟨⟨e, b⟩, q⟩)))
    ∧ (∀ (id : Nat) (i : Nat) (h : Holder), b.store.blocks[i]? = some (some h) →
        (releaseMessage b id).store.blocks[i]? = some (match h with
          | .message m part => if m = id then none else some (.message m part)
          | .incident r => some (.incident r)))
    ∧ (∀ (tag c1 c2 : Byte), takes b .announce 2 tag [c1, c2] → e.nodeState ≠ .configuring →
      (b.announce.findMessage (c1.toNat * 256 + c2.toNat) = none →
        exec (.withdraw tag [c1, c2]) ⟨⟨e, b⟩, q⟩ = .next (answered e (received b) q .announce tag [10]))
      ∧ ∀ z c x, b.announce.findMessage (c1.toNat * 256 + c2.toNat) = some (z, c) →
        x = discardChain e (received b) z c .withdrawn →
        (c.place = .waiting → exec (.withdraw tag [c1, c2]) ⟨⟨e, b⟩, q⟩ = .next (answered e
          (if b.announce.mask = true ∧ x.announce.mask = false then arbiter e x else x) q .announce tag [0]))
        ∧ (∀ i cz m n began y, c.place = .onChannel → b.announce.channelOf c = some (i, .playing cz m n began) →
          y = stopChannel e x i .withdraw →
          exec (.withdraw tag [c1, c2]) ⟨⟨e, b⟩, q⟩ = .next (answered e
            (if b.announce.mask = true ∧ y.announce.mask = false then arbiter e y else y) q .announce tag [0]))
        ∧ ∀ i cz m cause n began y, c.place = .onChannel → b.announce.channelOf c = some (i, .stopping cz m cause n began) →
          y = x.setChannel i (.stopping cz m .withdraw n began) →
          exec (.withdraw tag [c1, c2]) ⟨⟨e, b⟩, q⟩ = .next (answered e
            (if b.announce.mask = true ∧ y.announce.mask = false then arbiter e y else y) q .announce tag [0]))

/-- A play whose count reaches its deadline of 10 ds a phrase and 50 ds fails and its channel stops, with a STOP report (R186, R189). At its
first failure a member's attempts become 1 and its chain returns to the front of its priority; at the second the chain is discarded with
cause FAILED; either counts for the zone, which enters FAULT, with a report, when the run reaches 2 (R176, R189, R190). AUDIO FAILED at a
PLAYING channel frees it after the same failure; a stop ends at its count of 20, at AUDIO STOPPED and at AUDIO FAILED: a preempted chain
returns to WAITING, the channel becomes IDLE and the arbiter runs (R189, R191, R192). AUDIO FAILED and AUDIO STOPPED answer RANGE for a
channel outside 1 to C, and STATE, with no effect, for one that is IDLE or has another message, and AUDIO STOPPED for one that is PLAYING
(R192). Below their counts PLAY_DEADLINE and STOP_TIMEOUT change nothing (the model's choice, log entry 2). -/
def Obligations.PlaysAndStops : Prop :=
  (∀ (e : Env) (b : Blocks) (q : List Instr) (i : Nat) (z : Zone) (m n began : Nat),
    (∀ (c c' : Chain) (member : Member) (order : Int) (others : List Chain), member ∈ c.members → member.id = m →
      (c.members.map (·.id)).Nodup →
      (1 ≤ member.attempts → failMember e b z c m = countFailure e (discardChain e b z c .failed) z)
      ∧ (member.attempts = 0 →
        others = (b.announce.queues.get z).filter (fun d => decide (d.headId ≠ c.headId ∧ d.priority = c.priority)) →
        (others = [] → order = c.order) → (∀ d ∈ others, order < d.order) → (others ≠ [] → ∃ d ∈ others, d.order = order + 1) →
        c' = { c with members := c.members.map (fun x => if x.id = m then { x with attempts := 1 } else x), order := order } →
        failMember e b z c m = countFailure e (returnChain e b z c') z))
    ∧ (∀ (f : FaultRecord) (x : Blocks), f = b.announce.faults.get z →
      (f.run = 0 → countFailure e b z = b.setAnnounce { b.announce with faults := b.announce.faults.set z { f with run := 1 } })
      ∧ (f.run = 1 ∨ f.run = 2 →
        x = b.setAnnounce { b.announce with faults := b.announce.faults.set z { fault := true, run := 2 } } →
        countFailure e b z = if f.fault = true then x else queueReport e x (.zoneFaultBegun z)))
    ∧ (∀ cause, b.announce.channel i = some (.playing z m n began) →
      stopChannel e b i cause = queueReport e (b.setChannel i (.stopping z m cause 0 began)) (.stop i z m (some cause)))
    ∧
    (∀ (c : Chain) (member : Member) (failed : Blocks → Blocks), b.announce.channel i = some (.playing z m n began) → b.announce.chainOf z m = some c →
      c.members.find? (fun x => x.id = m) = some member → (∀ x, failed x = failMember e x z c m) →
      (10 * member.phrases.length + 50 ≤ n → exec (.playDeadline i) ⟨⟨e, b⟩, q⟩ = .next ⟨⟨e,
        arbiter e (stopChannel e (failed b) i .deadline)⟩, q⟩)
      ∧ (n < 10 * member.phrases.length + 50 → exec (.playDeadline i) ⟨⟨e, b⟩, q⟩ = .next ⟨⟨e, b⟩, q⟩)
      ∧ ∀ (tag c1 c2 c3 : Byte), takes b .announce 4 tag [c1, c2, c3] → e.nodeState ≠ .configuring → c1.toNat = i →
        (c2.toNat * 256 + c3.toNat = m → exec (.audioFailed tag [c1, c2, c3]) ⟨⟨e, b⟩, q⟩ = .next (answered e
          (arbiter e ((failed (received b)).setChannel i .idle)) q .announce tag [0]))
        ∧ (c2.toNat * 256 + c3.toNat ≠ m → exec (.audioFailed tag [c1, c2, c3]) ⟨⟨e, b⟩, q⟩ =
          .next (answered e (received b) q .announce tag [3])))
    ∧ (∀ cause x, b.announce.channel i = some (.stopping z m cause n began) →
      (cause ≠ .preempt ∨ b.announce.chainOf z m = none → x = b)
        ∧ (∀ c, cause = .preempt → b.announce.chainOf z m = some c → x = returnChain e b z c) →
      (20 ≤ n → exec (.stopTimeout i) ⟨⟨e, b⟩, q⟩ = .next ⟨⟨e, arbiter e (x.setChannel i .idle)⟩, q⟩)
      ∧ (n < 20 → exec (.stopTimeout i) ⟨⟨e, b⟩, q⟩ = .next ⟨⟨e, b⟩, q⟩))
    ∧ ∀ cause (tag c1 c2 c3 : Byte), b.announce.channel i = some (.stopping z m cause n began) → c1.toNat = i →
      c2.toNat * 256 + c3.toNat = m → e.nodeState ≠ .configuring → ∀ x,
      (cause ≠ .preempt ∨ b.announce.chainOf z m = none → x = received b)
        ∧ (∀ c, cause = .preempt → b.announce.chainOf z m = some c → x = returnChain e (received b) z c) →
      (takes b .announce 5 tag [c1, c2, c3] → exec (.audioStopped tag [c1, c2, c3]) ⟨⟨e, b⟩, q⟩ = .next (answered e
        (arbiter e (x.setChannel i .idle)) q .announce tag [0]))
      ∧ (takes b .announce 4 tag [c1, c2, c3] → exec (.audioFailed tag [c1, c2, c3]) ⟨⟨e, b⟩, q⟩ = .next (answered e
        (arbiter e (x.setChannel i .idle)) q .announce tag [0])))
  ∧ ∀ (e : Env) (b : Blocks) (q : List Instr) (tag c1 c2 c3 : Byte) (i m : Nat) (failed stopped : Nat → Prop),
    e.nodeState ≠ .configuring → i = c1.toNat → m = c2.toNat * 256 + c3.toNat →
    (∀ status : Nat, failed status ↔ (takes b .announce 4 tag [c1, c2, c3] →
      exec (.audioFailed tag [c1, c2, c3]) ⟨⟨e, b⟩, q⟩ = .next (answered e (received b) q .announce tag [BitVec.ofNat 8 status]))) →
    (∀ status : Nat, stopped status ↔ (takes b .announce 5 tag [c1, c2, c3] →
      exec (.audioStopped tag [c1, c2, c3]) ⟨⟨e, b⟩, q⟩ = .next (answered e (received b) q .announce tag [BitVec.ofNat 8 status]))) →
    (i = 0 ∨ b.announce.channels.length < i → failed 2 ∧ stopped 2)
    ∧ (b.announce.channel i = some .idle → failed 3 ∧ stopped 3)
    ∧ (∀ z m' n began, b.announce.channel i = some (.playing z m' n began) → stopped 3 ∧ (m' ≠ m → failed 3))
    ∧ ∀ z m' cause n began, b.announce.channel i = some (.stopping z m' cause n began) → m' ≠ m → failed 3 ∧ stopped 3

/-- AUDIO DONE at the channel that plays the message clears the zone's failure run; a chain with a next member goes on with it on the
same channel, with its PLAY report; at its last member a chain without repeats leaves, with its blocks, and the channel goes
through IDLE to the arbiter (R187, R188); at a channel that a withdrawal or a deadline stops it completes the stop, and at one that a
preemption stops it also clears the failure run, and the chain returns to WAITING or, where the member was its last, ends its play
(R191). A chain that returns takes its place by priority and order number, unless its expiry is reached, at which it is discarded with
its report (R181, R177, R180). AUDIO RESET ends a zone's FAULT with its report and the arbiter, and clears the run (R190);
each answers RANGE outside its range, and AUDIO DONE STATE where the channel is IDLE or plays or stops another message (R192). -/
def Obligations.AudioDoneAndReset : Prop :=
  ∀ (e : Env) (b : Blocks) (q : List Instr) (tag c1 c2 c3 : Byte) (i m : Nat) (z : Zone), e.nodeState ≠ .configuring →
    i = c1.toNat → m = c2.toNat * 256 + c3.toNat →
    (∀ (c w : Chain) (others : List Chain), w = { c with place := .waiting } →
      others = (b.announce.queues.get z).filter (fun d => decide (d.headId ≠ c.headId)) →
      (∀ expiry, c.expiry = some expiry → expiry ≤ e.time.service → returnChain e b z c = queueReport e
        ((c.members.map (·.id)).foldl releaseMessage (b.setQueue z others)) (.messageDropped (some c.headId) z c.origin c.kind .expired))
      ∧ ((∀ expiry, c.expiry = some expiry → e.time.service < expiry) → returnChain e b z c = b.setQueue z
        (others.takeWhile (fun d => decide (c.priority < d.priority ∨ c.priority = d.priority ∧ d.order ≤ c.order)) ++ w
          :: others.dropWhile (fun d => decide (c.priority < d.priority ∨ c.priority = d.priority ∧ d.order ≤ c.order)))))
    ∧
    (takes b .announce 3 tag [c1, c2, c3] →
      (i = 0 ∨ b.announce.channels.length < i →
        exec (.audioDone tag [c1, c2, c3]) ⟨⟨e, b⟩, q⟩ = .next (answered e (received b) q .announce tag [2]))
      ∧ (b.announce.channel i = some .idle ∨ (∃ m' n began, m' ≠ m ∧ b.announce.channel i = some (.playing z m' n began))
          ∨ (∃ m' cause n began, m' ≠ m ∧ b.announce.channel i = some (.stopping z m' cause n began)) →
        exec (.audioDone tag [c1, c2, c3]) ⟨⟨e, b⟩, q⟩ = .next (answered e (received b) q .announce tag [3]))
      ∧ ∀ n began c x, b.announce.channel i = some (.playing z m n began) → b.announce.chainOf z m = some c →
        x = (received b).setAnnounce
          { b.announce with faults := b.announce.faults.set z { b.announce.faults.get z with run := 0 } } →
        (∀ next, c.nextMember m = some next → exec (.audioDone tag [c1, c2, c3]) ⟨⟨e, b⟩, q⟩ = .next (answered e
          (queueReport e (placeChain (x.setChannel i (.playing z next.id 0 began)) z { c with place := .onChannel })
            (.play i z next.id next.phrases)) q .announce tag [0]))
        ∧ (c.nextMember m = none → c.repeats = 0 → exec (.audioDone tag [c1, c2, c3]) ⟨⟨e, b⟩, q⟩ = .next (answered e
          (arbiter e ((dropChain x z c).setChannel i .idle)) q .announce tag [0]))
        ∧ (c.nextMember m = none → 1 ≤ c.repeats → ∀ c', c' = { c with
            repeats := c.repeats - 1, notBefore := some (min (e.time.service + c.interval) Config.serviceTimeMax)
            notBeforeDue := false, order := b.announce.nextOrder } →
          exec (.audioDone tag [c1, c2, c3]) ⟨⟨e, b⟩, q⟩ = .next (answered e (arbiter e
            ((returnChain e (x.setAnnounce { x.announce with nextOrder := b.announce.nextOrder + 1 }) z c').setChannel i .idle))
            q .announce tag [0])))
      ∧ (takes b .announce 3 tag [c1, c2, c3] → ∀ cause n began, b.announce.channel i = some (.stopping z m cause n began) →
        (cause ≠ .preempt → exec (.audioDone tag [c1, c2, c3]) ⟨⟨e, b⟩, q⟩ = .next (answered e
          (arbiter e ((received b).setChannel i .idle)) q .announce tag [0]))
        ∧ ∀ x, cause = .preempt → x = (received b).setAnnounce
            { b.announce with faults := b.announce.faults.set z { b.announce.faults.get z with run := 0 } } →
          (b.announce.chainOf z m = none → exec (.audioDone tag [c1, c2, c3]) ⟨⟨e, b⟩, q⟩ = .next (answered e
            (arbiter e (x.setChannel i .idle)) q .announce tag [0]))
          ∧ ∀ c y, b.announce.chainOf z m = some c →
            (c.nextMember m ≠ none → y = returnChain e x z c)
              ∧ (c.nextMember m = none → c.repeats = 0 → y = dropChain x z c)
              ∧ (c.nextMember m = none → 1 ≤ c.repeats → y = returnChain e
                (x.setAnnounce { x.announce with nextOrder := b.announce.nextOrder + 1 }) z { c with
                  repeats := c.repeats - 1, notBefore := some (min (e.time.service + c.interval) Config.serviceTimeMax)
                  notBeforeDue := false, order := b.announce.nextOrder }) →
            exec (.audioDone tag [c1, c2, c3]) ⟨⟨e, b⟩, q⟩ = .next (answered e (arbiter e (y.setChannel i .idle)) q .announce tag [0]))
    ∧ (takes b .announce 6 tag [c1] →
      (2 < c1.toNat → exec (.audioReset tag [c1]) ⟨⟨e, b⟩, q⟩ = .next (answered e (received b) q .announce tag [2]))
      ∧ ∀ x, z.code = c1.toNat → x = (received b).setAnnounce
          { b.announce with faults := b.announce.faults.set z { fault := false, run := 0 } } →
        exec (.audioReset tag [c1]) ⟨⟨e, b⟩, q⟩ = .next (answered e
          (if (b.announce.faults.get z).fault = true then arbiter e (queueReport e x (.zoneFaultEnded z)) else x)
          q .announce tag [0]))

/-! ### The station port -/

/-- The framer: with a frame not yet whole, 5 ms of quiet lead from SKIP to SEEK and end a frame as truncated, as a character error does,
which leads to SKIP (R209). A length character above 96 and a complete frame that fails its check, channel or kind, in that order, are
counted under their NAK code and answered with a NAK where the answer queue has room, else counted as an overrun (R210). At the end of a
frame on SPTX it is counted, and the oldest answer, else the oldest report with the discard count, is taken (R214, R215). That a NAK sent
counts under the answers sent is the model's reading (log entry 23). -/
def Obligations.PortEventsAndNaks : Prop :=
  ∀ (e : Env) (b : Blocks) (q : List Instr),
    (∀ heard quiet x, 5000 ≤ quiet → x = b.setPort { b.port with framer := .seek, quietTime := quiet } →
      (b.port.framer.portFeed heard = .skip ∨ b.port.framer.portFeed heard = .seek →
        exec (.portFrameGap heard quiet) ⟨⟨e, b⟩, q⟩ = .next ⟨⟨e, x⟩, q⟩)
      ∧ ∀ taken, b.port.framer.portFeed heard = .frame taken → taken.length < 2
          ∨ (∃ start len rest, taken = start :: len :: rest ∧ len.toNat ≤ 96 ∧ rest.length < len.toNat + 5) →
        exec (.portFrameGap heard quiet) ⟨⟨e, b⟩, q⟩ = .next ⟨⟨e, x.setPort { x.port with truncated := countUp 65535 b.port.truncated }⟩, q⟩)
    ∧ (∀ heard, (∀ a, a = b.port.framer.portFeed heard → (a = .skip ∨ a = .seek → exec (.portCharacterError heard) ⟨⟨e, b⟩, q⟩ =
          .next ⟨⟨e, b.setPort { b.port with framer := a, quietTime := 0 }⟩, q⟩)
        ∧ ∀ taken, a = .frame taken → taken.length < 2
            ∨ (∃ start len rest, taken = start :: len :: rest ∧ len.toNat ≤ 96 ∧ rest.length < len.toNat + 5) →
          exec (.portCharacterError heard) ⟨⟨e, b⟩, q⟩ = .next ⟨⟨e, b.setPort
          { b.port with framer := .skip, quietTime := 0, truncated := countUp 65535 b.port.truncated }⟩, q⟩))
    ∧ (∀ len p, 96 < len.toNat → b.port.framer.accepts [0xD4, len] = true →
        p = { b.port with framer := .skip, quietTime := 0, nakLength := countUp 65535 b.port.nakLength } →
        exec (.portLengthError len) ⟨⟨e, b⟩, q⟩ = .next ⟨⟨e, b.setPort
          (if 4 ≤ p.answers.length then { p with overrun := countUp 65535 p.overrun }
           else p.pushAnswer { isNak := true, channel := 1, tag := 0, payload := [1, 0, 0] })⟩, q⟩)
    ∧ (∀ (channel kind tag : Byte) (payload : List Byte) (check : Check) (code : Byte) (p : Port), payload.length ≤ 96 →
        b.port.framer.accepts (0xD4 :: char payload.length :: channel :: kind :: tag :: (payload ++ checkChars check)) = true →
        (check ≠ crc (char payload.length :: channel :: kind :: tag :: payload) ∧ code = 2
            ∧ p = { b.port with framer := .seek, quietTime := 0, nakCheck := countUp 65535 b.port.nakCheck }
          ∨ check = crc (char payload.length :: channel :: kind :: tag :: payload) ∧ (channel = 0 ∨ 6 < channel.toNat) ∧ code = 3
            ∧ p = { b.port with framer := .seek, quietTime := 0, nakChannel := countUp 65535 b.port.nakChannel }
          ∨ check = crc (char payload.length :: channel :: kind :: tag :: payload) ∧ channel ≠ 0 ∧ channel.toNat ≤ 6
            ∧ (kind = 0 ∨ requestKinds channel.toNat < kind.toNat) ∧ code = 4
            ∧ p = { b.port with framer := .seek, quietTime := 0, nakKind := countUp 65535 b.port.nakKind }) →
        exec (.nak channel kind tag payload check) ⟨⟨e, b⟩, q⟩ = .next ⟨⟨e, b.setPort
          (if 4 ≤ p.answers.length then { p with overrun := countUp 65535 p.overrun }
           else p.pushAnswer { isNak := true, channel := 1, tag := tag, payload := [code, channel, kind] })⟩, q⟩)
    ∧ ∀ (out : PortOut) (p : Port), b.port.tx = some out →
        p = (match out with
          | .answer _ => { b.port with answersSent := countUp 65535 b.port.answersSent }
          | .report _ _ => { b.port with reportsSent := countUp 65535 b.port.reportsSent }) →
        (∀ f rest, b.port.answers = f :: rest → exec .portFrameEnd ⟨⟨e, b⟩, q⟩ =
          .next ⟨⟨e, b.setPort { p with tx := some (.answer f), answers := rest }⟩, q⟩)
        ∧ (∀ r rest, b.port.answers = [] → b.port.reports = r :: rest → exec .portFrameEnd ⟨⟨e, b⟩, q⟩ =
          .next ⟨⟨e, b.setPort { p with tx := some (.report r p.discard), reports := rest, discard := 0 }⟩, q⟩)
        ∧ (b.port.answers = [] → b.port.reports = [] → exec .portFrameEnd ⟨⟨e, b⟩, q⟩ =
          .next ⟨⟨e, b.setPort { p with tx := none }⟩, q⟩)

/-- Every request: one that the framer does not take changes nothing (log entry 2); one that finds four answers waiting is counted as
received, counted and reported as an overrun, and changes nothing else; then a wrong shape is answered RANGE and a node state that
does not take it STATE, with nothing else changed (R211, R10); that this holds of a TIMETABLE PART's entry count beside R65 is the
model's reading (log entry 49). -/
def Obligations.RequestsAreCheckedInOrder : Prop :=
  ∀ (c : Instr) (r : RequestRow) (e : Env) (b : Blocks) (q : List Instr), requestOf c = some r →
    (takesRequest b.port (char r.channel.code) (char r.kind) r.tag r.payload = false → exec c ⟨⟨e, b⟩, q⟩ = .next ⟨⟨e, b⟩, q⟩)
    ∧ (takesRequest b.port (char r.channel.code) (char r.kind) r.tag r.payload = true → 4 ≤ b.port.answers.length →
      exec c ⟨⟨e, b⟩, q⟩ = .next ⟨⟨e, queueReport e
        (b.setPort { (received b).port with overrun := countUp 65535 b.port.overrun })
        (.requestOverrun (char r.channel.code) (char r.kind) r.tag)⟩, q⟩)
    ∧ (takes b r.channel r.kind r.tag r.payload →
      (r.shape = false → exec c ⟨⟨e, b⟩, q⟩ = .next (answered e (received b) q r.channel r.tag [2]))
      ∧ (r.shape = true → r.allowed.permits e.nodeState = false →
        exec c ⟨⟨e, b⟩, q⟩ = .next (answered e (received b) q r.channel r.tag [3]))
      ∧ ∃ (n' : Node) (status : Byte) (fields : List Byte), exec c ⟨⟨e, b⟩, q⟩ = .next (answered n'.env n'.blk q r.channel r.tag (status :: fields)))

/-- CONFIGURE in CONFIGURING: a node count below 2, above 32 or not above k answers RANGE and applies nothing. Otherwise every field is
held within its range, read at its place in the payload, the answer is OK or CLAMPED with the numbers of the fields changed, and the node
is in READY: occupancy
filters start to settle, the transmitter leaves OFF unless SILENT, breakers and peers past the line's end are discarded, no record
reaches past it, there are C audio channels, and the next STATUS point is the next at which the advance count returns to 0 (R11, R4,
R20, R42, R49, R57, R166, R203, R218, R219). What the inputs accepted in CONFIGURING is handled first, under the provisional count
(R11): here what the model had still to deliver (log entry 6). -/
def Obligations.ConfigureIsTaken : Prop :=
  ∀ (e : Env) (b : Blocks) (q : List Instr) (tag : Byte) (p : List Byte) (raw : RawConfig) (held : NodeConfig),
    takes b .node 1 tag p → p.length = 96 → e.nodeState = .configuring → raw = readConfig p → held = raw.held →
    raw.nodeCount = field p 0 1 ∧ raw.timeLimit = field p 1 1 ∧ raw.occupancyFilter = field p 2 1 ∧ raw.channelCount = field p 3 1
    ∧ (∀ (t : Track) (at_ : Nat), t = .up ∧ at_ = 4 ∨ t = .down ∧ at_ = 19 → raw.platforms.get t =
        { wmin := field p at_ 2, wmax := field p (at_ + 2) 2, rup := field p (at_ + 4) 2, gain := field p (at_ + 6) 1
          stagger := field p (at_ + 7) 2, ldelay := field p (at_ + 9) 2, stallMargin := field p (at_ + 11) 2
          hdefault := field p (at_ + 13) 2 })
    ∧ raw.templates.length = 6 ∧ raw.numberBase = field p 94 2
    ∧ (∀ (i j : Nat) (x : RawTemplate), raw.templates[i]? = some x → x.count = field p (34 + 10 * i) 1 ∧ x.slots.length = 6
      ∧ (j < 3 → x.slots[2 * j]? = some (field p (35 + 10 * i + 3 * j) 3 / 4096)
        ∧ x.slots[2 * j + 1]? = some (field p (35 + 10 * i + 3 * j) 3 % 4096)))
    ∧ held.nodeCount = raw.nodeCount ∧ held.timeLimit = min (max raw.timeLimit 5) 100
    ∧ held.occupancyFilter = min (max raw.occupancyFilter 1) 15 ∧ held.channelCount = min (max raw.channelCount 1) 3
    ∧ (∀ t, (held.platforms.get t).wmin = min (max (raw.platforms.get t).wmin 50) 1200
      ∧ (held.platforms.get t).wmax = min (max (raw.platforms.get t).wmax (held.platforms.get t).wmin) 3000
      ∧ (held.platforms.get t).rup = min (max (raw.platforms.get t).rup 200) 6000
      ∧ (held.platforms.get t).gain = min (raw.platforms.get t).gain 8
      ∧ (held.platforms.get t).stagger = min (raw.platforms.get t).stagger 300
      ∧ (held.platforms.get t).ldelay = min (max (raw.platforms.get t).ldelay 300) 6000
      ∧ (held.platforms.get t).stallMargin = min (max (raw.platforms.get t).stallMargin 100) 3000
      ∧ (held.platforms.get t).hdefault = min (max (raw.platforms.get t).hdefault 600) 6000)
    ∧ held.numberBase = min raw.numberBase 4000
    ∧ [held.templates.approach, held.templates.delay, held.templates.suspend, held.templates.evacuate, held.templates.stalled,
        held.templates.held] = raw.templates.map (fun x => x.slots.take (min (max x.count 1) 6))
    ∧ raw.changed.Pairwise (· < ·)
    ∧ (∀ n, n ∈ raw.changed ↔ n = 2 ∧ raw.timeLimit ≠ held.timeLimit ∨ n = 3 ∧ raw.occupancyFilter ≠ held.occupancyFilter
      ∨ n = 4 ∧ raw.channelCount ≠ held.channelCount
      ∨ (∃ t first r h, (t = .up ∧ first = 5 ∨ t = .down ∧ first = 13) ∧ r = raw.platforms.get t ∧ h = held.platforms.get t
        ∧ (n = first ∧ r.wmin ≠ h.wmin ∨ n = first + 1 ∧ r.wmax ≠ h.wmax ∨ n = first + 2 ∧ r.rup ≠ h.rup
          ∨ n = first + 3 ∧ r.gain ≠ h.gain ∨ n = first + 4 ∧ r.stagger ≠ h.stagger ∨ n = first + 5 ∧ r.ldelay ≠ h.ldelay
          ∨ n = first + 6 ∧ r.stallMargin ≠ h.stallMargin ∨ n = first + 7 ∧ r.hdefault ≠ h.hdefault))
      ∨ (∃ i x, raw.templates[i]? = some x ∧ n = 21 + i ∧ (x.count < 1 ∨ 6 < x.count))
      ∨ n = 27 ∧ raw.numberBase ≠ held.numberBase)
    ∧ (raw.nodeCount < 2 ∨ 32 < raw.nodeCount ∨ raw.nodeCount ≤ e.nodeNumber →
      exec (.configure tag p) ⟨⟨e, b⟩, q⟩ = .next (answered e (received b) q .node tag [2]))
    ∧ (2 ≤ raw.nodeCount → raw.nodeCount ≤ 32 → e.nodeNumber < raw.nodeCount → ∀ x, x = deliverAll e (received b) → ∃ b',
      exec (.configure tag p) ⟨⟨e, b⟩, q⟩ = .next (answered { e with config := some held, nodeState := .ready } b' q .node tag
        (if raw.changed = [] then [0] else 1 :: char raw.changed.length :: raw.changed.map char))
      ∧ (∀ t, b'.field.filters.occupancy.get t = { level := none, candidate := none, run := 0 })
      ∧ (x.bus.silent = false → b'.bus.tx ≠ .off)
      ∧ b'.bus.statusDue = x.bus.statusDue ∧ b'.bus.advances = x.bus.advances
      ∧ (e.nodeNumber + 1 = raw.nodeCount → b'.power.breakers.uh = none ∧ b'.power.breakers.dh = none
        ∧ b'.field.coils.uh = .rest ∧ b'.field.coils.dh = .rest)
      ∧ (∀ (i : Nat) (y : PeerEntry), raw.nodeCount ≤ i → b'.peers.table[i]? = some y → y = .unheard)
      ∧ (∀ (i : Nat) (y : PeerEntry), i < raw.nodeCount → x.peers.table[i]? = some y → b'.peers.table[i]? = some y)
      ∧ (x.incidents.proper → ∀ r ∈ b'.incidents.records, r.span.last + 2 ≤ raw.nodeCount)
      ∧ b'.announce.channels.length = held.channelCount
      ∧ b'.timetable = x.timetable ∧ b'.describer = x.describer)

/-- DAY START in READY: NO_TIMETABLE unless the timetable is LOADED, RANGE for a start above the limit; otherwise service time and day
number are set, the last departures and the recent starts become absent, and the node is in SERVICE (R12, R113, R58); a start at the
limit sets the overrun flag (the model's reading, log entry 9). DAY END in
SERVICE: PLATFORM_BUSY unless both platforms are VACANT; otherwise the timetable is EMPTY, the approaching queues clear, no local
DELAY, TRAIN_STALLED or DESCRIPTION_ERROR is left, the DELAY ids clear, and the node is in READY (R13, R86, R113, R167). What the
inputs accepted before a DAY END is met first, and a rise accepted at a VACANT platform so leaves it occupied and the DAY END refused
(R13; log entry 6). That the emptied store shows no last part is the model's reading (log entry 32). -/
def Obligations.DayStartAndEnd : Prop :=
  ∀ (e : Env) (b : Blocks) (q : List Instr) (tag : Byte),
    (∀ (d1 d2 s1 s2 s3 : Byte) (start : Nat), takes b .node 2 tag [d1, d2, s1, s2, s3] → e.nodeState = .ready →
      start = s1.toNat * 65536 + s2.toNat * 256 + s3.toNat →
      (b.timetable.load ≠ .loaded →
        exec (.dayStart tag [d1, d2, s1, s2, s3]) ⟨⟨e, b⟩, q⟩ = .next (answered e (received b) q .node tag [11]))
      ∧ (b.timetable.load = .loaded → 1048575 < start →
        exec (.dayStart tag [d1, d2, s1, s2, s3]) ⟨⟨e, b⟩, q⟩ = .next (answered e (received b) q .node tag [2]))
      ∧ (b.timetable.load = .loaded → start ≤ 1048575 → ∃ b',
        exec (.dayStart tag [d1, d2, s1, s2, s3]) ⟨⟨e, b⟩, q⟩ = .next (answered
          { e with
            nodeState := .service
            time :=
              { e.time with service := start, day := d1.toNat * 256 + d2.toNat, overrun := decide (start = 1048575) } } b' q .node tag [0])
        ∧ (∀ t, (b'.platforms.get t).lastDeparture = none ∧ (b'.platforms.get t).delayId = (b.platforms.get t).delayId)
        ∧ (∀ (i : Nat) (s : StartEntry), b'.peers.starts[i]? = some s → s.start = none) ∧ b'.timetable = b.timetable ∧ b'.describer = b.describer
        ∧ b'.peers.table = b.peers.table ∧ b'.power = b.power ∧ b'.incidents = b.incidents))
    ∧ (takes b .node 3 tag [] → e.nodeState = .service → ∀ x, x = deliverAll e (received b) →
      ((∃ t, (x.platforms.get t).standing ≠ .vacant) →
        exec (.dayEnd tag []) ⟨⟨e, b⟩, q⟩ = .next (answered e x q .node tag [12]))
      ∧ (∀ t stamp, (b.platforms.get t).standing = .vacant →
        b.field.waiting = { Deliveries.empty with occupancy := Deliveries.empty.occupancy.set t (some ⟨true, stamp⟩) } →
        exec (.dayEnd tag []) ⟨⟨e, b⟩, q⟩ = .next (answered e x q .node tag [12]))
      ∧ ((∀ t, (x.platforms.get t).standing = .vacant) → ∃ b',
        exec (.dayEnd tag []) ⟨⟨e, b⟩, q⟩ = .next (answered { e with nodeState := .ready } b' q .node tag [0])
        ∧ b'.timetable = { sequences := ⟨[], []⟩, load := .empty, lastPart := none }
        ∧ (∀ t, b'.describer.get t = [] ∧ (b'.platforms.get t).standing = .vacant ∧ (b'.platforms.get t).delayId = none
          ∧ (b'.platforms.get t).lastDeparture = (x.platforms.get t).lastDeparture)
        ∧ (∀ r ∈ b'.incidents.records, r.isLocal = true →
          r.kind ≠ .delay ∧ r.kind ≠ .trainStalled ∧ r.kind ≠ .descriptionError)
        ∧ (∀ r ∈ b'.incidents.records, ∃ s ∈ x.incidents.records, s.id = r.id) ∧ b'.peers = x.peers))

/-- SERVICE RESET: ESTOP_ACTIVE while a latch is SET; otherwise the node is in READY with its configuration and Time Base, the timetable,
the approaching queues and the zone queues are empty, every channel is IDLE and every zone NORMAL, both platforms are VACANT with nothing
remembered and their starters INACTIVE, occupancy filters start to settle, no DEPART or ANNOUNCE frame waits, one in hand leaves from
BACKOFF and is marked in SENDING to leave at a collision, any other in hand stays, no breaker is FAILED or holds a restore wait, no local
record is left but NODE_LOST, of severity 2 over the gap between this node and a LOST neighbour, one of which stands for each such neighbour
where the table has room for both, and no message holds a block (R14, R20, R49, R62, R87, R114, R144, R167, R173, R204). What the inputs
accepted before is met first, so that a press accepted at a CLEAR latch refuses the reset (R14; log entry 6). That the emptied timetable
shows no last part is the model's reading (log entry 32). -/
def Obligations.ServiceResetClears : Prop :=
  ∀ (e : Env) (b x : Blocks) (q : List Instr) (tag : Byte), takes b .node 4 tag [] → e.nodeState ≠ .configuring →
    x = deliverAll e (received b) →
    ((∃ t, (x.power.latches.get t).isSet = true) →
      exec (.serviceReset tag []) ⟨⟨e, b⟩, q⟩ = .next (answered e x q .node tag [13]))
    ∧ (∀ t stamp, b.field.waiting = { Deliveries.empty with plunger := Deliveries.empty.plunger.set t (some ⟨true, stamp⟩) } →
      exec (.serviceReset tag []) ⟨⟨e, b⟩, q⟩ = .next (answered e x q .node tag [13]))
    ∧ ((∀ t, (x.power.latches.get t).isSet = false) → ∃ b',
      exec (.serviceReset tag []) ⟨⟨e, b⟩, q⟩ = .next (answered { e with nodeState := .ready } b' q .node tag [0])
      ∧ b'.timetable = { sequences := ⟨[], []⟩, load := .empty, lastPart := none }
      ∧ (∀ t, b'.describer.get t = [] ∧ b'.field.starters.get t = false
        ∧ b'.platforms.get t = { standing := .vacant, lastDeparture := none, delayId := none, amendment := none }
        ∧ b'.field.filters.occupancy.get t = { level := none, candidate := none, run := 0 }
        ∧ b'.field.waiting.occupancy.get t = none)
      ∧ (∀ br r, x.power.breakers.get br = some r → r.condition = some .failed → r.lockedOut = false →
        b'.condition br = some (if r.inputClosed = some true then .closed else .opened))
      ∧ (∀ z, b'.announce.queues.get z = [] ∧ b'.announce.faults.get z = { fault := false, run := 0 })
      ∧ b'.announce.channels = x.announce.channels.map (fun _ => .idle)
      ∧ ((∀ id part, some (.message id part) ∈ x.store.blocks → id ∈ x.announce.heldIds) →
        ∀ id part, some (.message id part) ∉ b'.store.blocks)
      ∧ b'.store.refusals = x.store.refusals
      ∧ (∀ f ∈ b'.bus.waiting, f.cls ≠ .depart ∧ f.cls ≠ .announce)
      ∧ (∀ h, h.frame.cls = .depart ∨ h.frame.cls = .announce →
        (x.bus.tx = .backoff h → b'.bus.tx = .idle ∨ b'.bus.tx = .waiting)
        ∧ (x.bus.tx = .sending h → b'.bus.tx = .sending { h with doomed := true }))
      ∧ (∀ h, h.frame.cls ≠ .depart → h.frame.cls ≠ .announce →
        (x.bus.tx = .sending h → b'.bus.tx = .sending h)
        ∧ (x.bus.tx = .backoff h → h.frame.cls ≠ .status → b'.bus.tx = .backoff h)
        ∧ (x.bus.tx = .backoff h → h.frame.cls = .status → ∃ c, b'.bus.tx = .backoff { h with frame := .status c }))
      ∧ (∀ br r, b'.power.breakers.get br = some r → r.condition ≠ some .failed ∧ r.wait = none)
      ∧ (∀ r ∈ b'.incidents.records, r.isLocal = true → r.kind = .nodeLost ∧ r.owner = e.nodeNumber ∧ r.adoptedFrom = none
        ∧ r.severity = 2 ∧ r.platform = none ∧ r.trip = none
        ∧ ∃ p pe, e.isNeighbour p = true ∧ x.peers.table[p]? = some pe ∧ pe.liveness = .lost
          ∧ r.span = { tracks := .both, first := e.gapTo p, last := e.gapTo p })
      ∧ (∀ p pe, e.isNeighbour p = true → x.peers.table[p]? = some pe → pe.liveness = .lost → x.incidents.records.length < 31 →
        ∃ id r, b'.peers.lostId e p = some id ∧ b'.incidents.find id = some r ∧ r.kind = .nodeLost ∧ r.isLocal = true
          ∧ r.span = { tracks := .both, first := e.gapTo p, last := e.gapTo p })
      ∧ (∀ r ∈ b'.incidents.records, r.isLocal = false → r ∈ x.incidents.records)
      ∧ b'.peers.table = x.peers.table ∧ b'.peers.starts = x.peers.starts
      ∧ b'.field.filters.plunger = b.field.filters.plunger ∧ b'.field.filters.status = b.field.filters.status)

/-- The four READs change nothing but the answer that is queued: OK with a page of their items from the item asked for, or RANGE where the
group or platform does not exist; a page holds as many items as fit its room of 91 characters, at least one where one exists, and names the
next item (R213). ALARM ACK puts the alarm and its line OFF (R164). The items hold what R213 lists, coded as R208 gives: of READ STATUS the
groups NODE, TIME, FIELD, TIMETABLE and the counters of LINEBUS; of READ PLATFORM the platform record, the cursor and amendment, and the
approaching queue (R88, R73, R79); of READ POWER the breaker and section records, far-end reports, latches and restore waits (R116, R127,
R55, R139, R137); of READ INCIDENTS the summary and every record with its isolation list (R145, R165). Places, widths, counts and absent
markers that no rule states are the model's choice (log entries 12, 57 and 59). -/
def Obligations.ReadsAndAlarmAck : Prop :=
  ∀ (e : Env) (b : Blocks) (q : List Instr) (tag g f : Byte),
    (takes b .node 5 tag [g, f] → exec (.readStatus tag [g, f]) ⟨⟨e, b⟩, q⟩ = .next (answered e (received b) q .node tag
      (match statusItems e (received b) g.toNat with
        | some items => 0 :: page g.toNat f.toNat items
        | none => [2])))
    ∧ ((statusItems e b g.toNat).isSome = decide (g.toNat ≤ 10))
    ∧ (takes b .platform 4 tag [g, f] → e.nodeState ≠ .configuring →
      (∀ t : Track, t.code = g.toNat → exec (.readPlatform tag [g, f]) ⟨⟨e, b⟩, q⟩ = .next (answered e (received b) q .platform tag
        (0 :: page g.toNat f.toNat (platformItems (received b) t))))
      ∧ (1 < g.toNat → exec (.readPlatform tag [g, f]) ⟨⟨e, b⟩, q⟩ = .next (answered e (received b) q .platform tag [2])))
    ∧ (takes b .power 3 tag [f] → exec (.readPower tag [f]) ⟨⟨e, b⟩, q⟩ = .next (answered e (received b) q .power tag
      (0 :: page 0 f.toNat (powerItems e (received b)))))
    ∧ (takes b .incident 6 tag [f] → exec (.readIncidents tag [f]) ⟨⟨e, b⟩, q⟩ = .next (answered e (received b) q .incident tag
      (0 :: page 0 f.toNat (incidentItems (received b)))))
    ∧ (∀ (group first : Nat) (items : List (List Byte)), ∃ n,
      page group first items = [char group, char first, char n]
        ++ opt1 (if first + n < items.length then some (first + n) else none) ++ ((items.drop first).take n).flatten
      ∧ (first < items.length ↔ 1 ≤ n) ∧ (2 ≤ n → ((items.drop first).take n).flatten.length ≤ 91)
      ∧ (first + n < items.length → 91 < ((items.drop first).take (n + 1)).flatten.length))
    ∧ (takes b .node 6 tag [] → exec (.alarmAck tag []) ⟨⟨e, b⟩, q⟩ = .next (answered e
      (((received b).setIncidents { b.incidents with alarm := false }).setField { b.field with alarmLine := false }) q .node tag [0]))
    -- READ STATUS
    ∧ statusItems e b 0 = some [[char (match e.nodeState with | .configuring => 0 | .ready => 1 | .service => 2), char e.nodeNumber,
        match e.config with | some c => char c.nodeCount | none => 0xFF, if b.incidents.alarm then 0 else 1,
        if b.bus.silent then 1 else 0]]
    ∧ statusItems e b 2 = some [chars3 e.time.service ++ chars2 e.time.day
        ++ ([if e.time.mode = .pulsed then 0 else 1, char e.time.run, if e.time.overrun then 1 else 0] : List Byte)]
    ∧ (∀ level : Option Bool → Byte, level none = 0 → level (some true) = 1 → level (some false) = 2 →
      ∀ input : Nat → FilterRecord → List Byte, (∀ n r, input n r = [char n, level r.level,
        match r.candidate with | none => 0xFF | some true => 0 | some false => 1, char r.run]) →
      ∀ line : Bool → Byte, line true = 0 → line false = 1 →
      statusItems e b 3 = some ([input 0 b.field.filters.occupancy.up, input 1 b.field.filters.occupancy.down,
          input 2 b.field.filters.plunger.up, input 3 b.field.filters.plunger.down]
        ++ (([(Breaker.ul, 4), (.uh, 5), (.dl, 6), (.dh, 7)].filter fun x => (b.power.breakers.get x.1).isSome).map fun x =>
            input x.2 (b.field.filters.status.get x.1))
        ++ [input 8 b.field.filters.key,
          [line b.field.coils.ul.openLine, line b.field.coils.uh.openLine, line b.field.coils.dl.openLine,
            line b.field.coils.dh.openLine, line b.field.coils.ul.closeLine, line b.field.coils.uh.closeLine,
            line b.field.coils.dl.closeLine, line b.field.coils.dh.closeLine, line b.field.starters.up, line b.field.starters.down,
            line b.field.alarmLine, if b.field.coils.ul.pendingClose then 1 else 0, if b.field.coils.uh.pendingClose then 1 else 0,
            if b.field.coils.dl.pendingClose then 1 else 0, if b.field.coils.dh.pendingClose then 1 else 0]]))
    ∧ ((statusItems e b 4).bind (·[1]?) = some (chars2 b.bus.sent ++ chars2 b.bus.collisions ++ chars2 b.bus.dropped
        ++ chars2 b.bus.checkErrors ++ chars2 b.bus.classErrors ++ chars2 b.bus.contentErrors ++ chars2 b.bus.truncatedErrors
        ++ chars2 b.bus.lengthErrors ++ chars2 b.bus.validFrames))
    ∧ (statusItems e b 7 = some [match b.timetable.load with
        | .empty => [0, 0xFF] ++ opt1 b.timetable.lastPart ++ chars2 b.timetable.sequences.up.length
          ++ chars2 b.timetable.sequences.down.length ++ chars2 b.timetable.total
        | .loading total _ => [1, char total] ++ opt1 b.timetable.lastPart ++ chars2 b.timetable.sequences.up.length
          ++ chars2 b.timetable.sequences.down.length ++ chars2 b.timetable.total
        | .loaded => [2, 0xFF] ++ opt1 b.timetable.lastPart ++ chars2 b.timetable.sequences.up.length
          ++ chars2 b.timetable.sequences.down.length ++ chars2 b.timetable.total
        | .failed => [3, 0xFF] ++ opt1 b.timetable.lastPart ++ chars2 b.timetable.sequences.up.length
          ++ chars2 b.timetable.sequences.down.length ++ chars2 b.timetable.total])
    -- READ PLATFORM
    ∧ (∀ (t : Track) (first second tail id : List Byte),
      (∀ d, (b.platforms.get t).lastDeparture = some d → tail = chars2 d.trip ++ chars3 d.dact) →
      ((b.platforms.get t).lastDeparture = none → tail = List.replicate 5 0xFF) →
      (∀ i, (b.platforms.get t).delayId = some i → id = [char i.origin, char i.serial]) →
      ((b.platforms.get t).delayId = none → id = [0xFF, 0xFF]) →
      ((b.platforms.get t).standing = .vacant → first = 0 :: List.replicate 28 0xFF) →
      (∀ phase d, (b.platforms.get t).standing = .occupied phase d →
        first = [char phase.state.code, if d.mode = .regulated then 0 else 1] ++ chars2 d.trip ++ opt2 d.entry
          ++ (match d.outcome with
            | some .identified => [0, char d.skipped]
            | some .unidentified => [1, char d.skipped]
            | none => [0xFF, 0xFF])
          ++ chars3 d.arrival ++ opt3 d.scheduled ++ opt3 d.target ++ optSigned3 d.deviation
          ++ ([if d.targetOver then 1 else 0, char d.reasons.code, if d.staggerOpen then 0 else 1] : List Byte) ++ opt3 d.staggerTime
          ++ ([if d.followerAvailable then 0 else 1] : List Byte) ++ opt1 d.grace ++ ([if d.heldLong then 1 else 0] : List Byte)) →
      (∀ whose : Option Entry → List Byte, whose none = List.replicate 5 0xFF →
        (∀ x, whose (some x) = chars2 x.trip ++ chars3 x.departure) →
        second = whose ((b.timetable.sequences.get t).find? fun x => x.state = .pending)
          ++ whose ((b.timetable.sequences.get t).find? fun x => x.state = .inUse)
          ++ (match (b.platforms.get t).amendment with
            | none => [0xFF, 0xFF, 0xFF, 0xFF]
            | some (.change d) => 0 :: chars3 d
            | some .cancel => [1, 0xFF, 0xFF, 0xFF])) →
      platformItems b t = (first ++ tail ++ id
          ++ ([match (b.field.filters.occupancy.get t).level with | none => 0 | some true => 1 | some false => 2] : List Byte))
        :: second :: (b.describer.get t).map fun a => chars2 a.trip ++ chars3 a.upstream ++ [char a.source.code,
          if a.stallRaised then 1 else 0] ++ (match a.stallId with | some i => [char i.origin, char i.serial] | none => [0xFF, 0xFF]))
    -- READ POWER
    ∧ (∀ state : Option BreakerState → Byte, state none = 5 → (∀ s, state (some s) = char s.code) →
      ∀ ids : Option IncidentId → List Byte, ids none = [0xFF, 0xFF] → (∀ i, ids (some i) = [char i.origin, char i.serial]) →
      ∀ held, held = [Breaker.ul, .uh, .dl, .dh].filterMap (fun br => (b.power.breakers.get br).map fun r => (br, r)) →
      powerItems e b =
        held.map (fun x => [char x.1.code, state (x.2.condition.map Condition.state),
            match x.2.inputClosed with | none => 0xFF | some true => 0 | some false => 1]
          ++ (match x.2.condition with
            | some (.opening c) => [char c.count, char c.limit, if c.passing then 1 else 0]
            | some (.closing c) => [char c.count, char c.limit, if c.passing then 1 else 0]
            | _ => [0xFF, 0xFF, 0])
          ++ [char x.2.lockout.length] ++ (x.2.lockout.flatMap fun i => [char i.origin, char i.serial])
          ++ ([if x.2.overlock then 1 else 0] : List Byte) ++ ids x.2.failId
          ++ ([if x.2.wait.isSome then 1 else 0, if (b.field.coils.get x.1).pendingClose then 1 else 0] : List Byte))
        ++ (held.filter fun x => x.2.sectionState.isSome).map (fun x => [char (e.fed x.1).track.code, char (e.fed x.1).gap,
            char x.1.code, char x.1.far.code] ++ opt1 (x.2.sectionState.map SectionState.code)
          ++ [state (b.breakerState x.1), state ((farReport e b x.1).map (·.1))])
        ++ held.map (fun x => [char x.1.code, state ((farReport e b x.1).map (·.1))]
          ++ (match (b.peers.entry (e.farNode x.1)).reports.get x.1.far with
            | none => [0xFF, 0xFF, 0xFF, 0xFF, 0xFF]
            | some r => [if r.keyLocal then 1 else 0]
              ++ (match r.lockout with | none => [0xFF, 0xFF] | some l => [char l.count, if l.overlock then 1 else 0])
              ++ opt1 r.reason ++ ([if r.byPower then 0 else 1] : List Byte)))
        ++ [.up, .down].map (fun t => [char t.code, if (b.power.latches.get t).isSet then 0 else 1]
          ++ ids (b.power.latches.get t).id ++ [char (b.power.latches.get t).ignored])
        ++ held.filterMap fun x => x.2.wait.map fun w => [char x.1.code, if w.fromPort then 0 else 1, char w.requester]
          ++ ids w.id ++ [char w.count])
    -- READ INCIDENTS
    ∧ (incidentItems b = ([char b.incidents.lastSerial, if b.incidents.alarm then 0 else 1, char b.incidents.records.length,
          char (b.incidents.records.filter (·.isLocal)).length, char (b.incidents.records.filter fun r => !r.isLocal).length]
        :: b.incidents.records.map Incident.fields))
    ∧ (∀ (r : Incident) (place : List Byte), (∀ p, r.platform = some p → place = [char p.node, char p.track.code]) →
      (r.platform = none → place = [0xFF, 0xFF]) →
      (∀ o, r.holding = .owned o → r.fields = [char r.id.origin, char r.id.serial, char r.kind.code, char r.severity, char o.floor,
          char r.span.tracks.code, char r.span.first, char r.span.last] ++ place ++ opt2 r.trip ++ [char r.owner]
        ++ opt1 r.adoptedFrom ++ ([if o.acknowledged then 1 else 0] : List Byte) ++ chars3 r.raised ++ opt3 r.acked
        ++ ([if r.isolationFailed then 1 else 0, char o.isolation.length] : List Byte)
        ++ (o.isolation.flatMap fun i => [char i.sec.track.code, char i.sec.gap, char i.sends, char i.repeats, char i.state.code])
        ++ [char o.refresh] ++ opt2 (if r.kind = .descriptionError then some o.age else none) ++ [0xFF, 0xFF] ++ chars3 r.admission)
      ∧ (∀ c, r.holding = .copy c → r.fields = [char r.id.origin, char r.id.serial, char r.kind.code, char r.severity, 0xFF,
          char r.span.tracks.code, char r.span.first, char r.span.last] ++ place ++ opt2 r.trip ++ [char r.owner]
        ++ opt1 r.adoptedFrom ++ ([if c.orphan then 3 else 2] : List Byte) ++ chars3 r.raised ++ opt3 r.acked
        ++ ([if r.isolationFailed then 1 else 0, 0, 0xFF, 0xFF, 0xFF] : List Byte) ++ chars2 c.silence ++ chars3 r.admission))
    ∧ ∀ (n : Nat) (i : Int), char n = BitVec.ofNat 8 n ∧ chars2 n = [char (n / 256), char n]
      ∧ chars3 n = [char (n / 65536), char (n / 256), char n] ∧ signed3 i = chars3 (i % 16777216).toNat
      ∧ opt1 (some n) = [char n] ∧ opt2 (some n) = chars2 n ∧ opt3 (some n) = chars3 n ∧ optSigned3 (some i) = signed3 i
      ∧ opt1 none = [0xFF] ∧ opt2 none = [0xFF, 0xFF] ∧ opt3 none = [0xFF, 0xFF, 0xFF] ∧ optSigned3 none = [0xFF, 0xFF, 0xFF]

/-! ### The timetable -/

/-- TIMETABLE PART in READY: a total outside 1 to 192 and an index that is not the one that follows answer RANGE and SEQUENCE; part 1
always starts afresh; entries are checked one at a time against range, order of departure and a trip held already, and the first
that fails answers its status with its position; every failure leaves the store empty in FAILED; the last part leaves it LOADED (R65
to R68). That a failed load shows no last part is the model's reading (log entry 32). -/
def Obligations.TimetableParts : Prop :=
  ∀ (e : Env) (b : Blocks) (q : List Instr) (tag : Byte) (p : List Byte) (r : PartRequest) (failed : Blocks),
    takes b .timetable 1 tag p → shapePart p = true → e.nodeState = .ready → r = readPart p →
    failed = (received b).setTimetable { sequences := ⟨[], []⟩, load := .failed, lastPart := none } →
    (r.total < 1 ∨ 192 < r.total →
      exec (.timetablePart tag p) ⟨⟨e, b⟩, q⟩ = .next (answered e failed q .timetable tag [2]))
    ∧ (1 ≤ r.total → r.total ≤ 192 → r.index ≠ 1 → b.timetable.load ≠ .loading r.total r.index →
      exec (.timetablePart tag p) ⟨⟨e, b⟩, q⟩ = .next (answered e failed q .timetable tag [7]))
    ∧ (∀ start, 1 ≤ r.total → r.total ≤ 192 →
      r.index = 1 ∧ start = ⟨[], []⟩ ∨ r.index ≠ 1 ∧ b.timetable.load = .loading r.total r.index ∧ start = b.timetable.sequences →
      (∀ s, checkEntries start 1 r.entries = .ok s → exec (.timetablePart tag p) ⟨⟨e, b⟩, q⟩ = .next (answered e
        ((received b).setTimetable
          { sequences := s, load := if r.index = r.total then .loaded else .loading r.total (r.index + 1)
            lastPart := some r.index }) q .timetable tag [0]))
      ∧ ∀ st n, checkEntries start 1 r.entries = .error (st, n) → exec (.timetablePart tag p) ⟨⟨e, b⟩, q⟩ =
        .next (answered e failed q .timetable tag [char st.code, char n]))
    ∧ (∀ (s : PerTrack (List Entry)) (x : EntryRequest),
      (x.entry = none → checkEntry s x = .error .range)
      ∧ ∀ t y, x.entry = some (t, y) →
        ((∃ z, (s.get t).getLast? = some z ∧ y.departure < z.departure) → checkEntry s x = .error .order)
        ∧ ((∀ z, (s.get t).getLast? = some z → z.departure ≤ y.departure) →
          ((∃ z ∈ s.get t, z.trip = y.trip) → checkEntry s x = .error .duplicate)
          ∧ ((∀ z ∈ s.get t, z.trip ≠ y.trip) → checkEntry s x = .ok (s.set t (s.get t ++ [y])))))
    ∧ ∀ (x : EntryRequest) (t : Track) (y : Entry), x.entry = some (t, y) ↔ x.platform = t.code ∧ 1 ≤ x.trip ∧ x.trip ≤ 9999
      ∧ (∀ a ∈ x.arrival, a ≤ x.departure) ∧ x.departure ≤ 1048575 ∧ x.phrase ≤ 4095
      ∧ ¬(x.terminates = true ∧ x.isFirst = true)
      ∧ y = { trip := x.trip, arrival := x.arrival, departure := x.departure, phrase := x.phrase, terminates := x.terminates
              isFirst := x.isFirst, state := .pending }

/-- The three kinds of AMEND: NO_TIMETABLE unless the timetable is LOADED, then RANGE for a platform, trip or time, or an INSERT's entry,
outside its range (R69). On a loaded timetable CANCEL makes a PENDING entry CANCELLED, CHANGE gives it a new departure that keeps the
order and does not lie before its arrival (ORDER, RANGE), either is held for the IN_USE entry, and CONSUMED refuses both for any other
(R70, R71, R73); INSERT places a new PENDING entry behind every entry not departing later, unless its trip stands in the
sequence, an entry in use or consumed departs later, or the store is full (R72). An unknown trip answers UNKNOWN_ID to CANCEL and
CHANGE (R69). The place of the platform in its character, the six lowest bits, is the model's choice (log entry 10), and so is ORDER
before RANGE where both conditions of R70 fail (log entry 48). -/
def Obligations.Amendments : Prop :=
  (∀ (e : Env) (b : Blocks) (q : List Instr) (tag : Byte) (p : List Byte) (c : Instr) (bad : Prop), takes b .timetable 2 tag p →
    e.nodeState ≠ .configuring →
    (c = .amendChange tag p ∧ p.length = 7 ∧ field p 0 1 = 0 ∧ (bad ↔ 1 < field p 1 1 % 64 ∨ field p 2 2 < 1 ∨ 9999 < field p 2 2
        ∨ 1048575 < field p 4 3)
      ∨ c = .amendCancel tag p ∧ p.length = 4 ∧ field p 0 1 = 1 ∧ (bad ↔ 1 < field p 1 1 % 64 ∨ field p 2 2 < 1 ∨ 9999 < field p 2 2)
      ∨ c = .amendInsert tag p ∧ p.length = 12 ∧ field p 0 1 = 2 ∧ (bad ↔ (fieldInsert p).entry = none)) →
    (b.timetable.load ≠ .loaded → exec c ⟨⟨e, b⟩, q⟩ = .next (answered e (received b) q .timetable tag [11]))
    ∧ (b.timetable.load = .loaded → bad → exec c ⟨⟨e, b⟩, q⟩ = .next (answered e (received b) q .timetable tag [2])))
  ∧ ∀ (e : Env) (b : Blocks) (q : List Instr) (tag c t1 t2 : Byte) (t : Track), b.timetable.load = .loaded → e.nodeState ≠ .configuring →
    c.toNat % 64 = t.code → 1 ≤ t1.toNat * 256 + t2.toNat → t1.toNat * 256 + t2.toNat ≤ 9999 →
    (takes b .timetable 2 tag [1, c, t1, t2] → (∀ x ∈ b.timetable.sequences.get t, x.trip ≠ t1.toNat * 256 + t2.toNat) →
      exec (.amendCancel tag [1, c, t1, t2]) ⟨⟨e, b⟩, q⟩ = .next (answered e (received b) q .timetable tag [10]))
    ∧ (∀ d1 d2 d3 : Byte, takes b .timetable 2 tag [0, c, t1, t2, d1, d2, d3] →
      d1.toNat * 65536 + d2.toNat * 256 + d3.toNat ≤ 1048575 →
      (∀ x ∈ b.timetable.sequences.get t, x.trip ≠ t1.toNat * 256 + t2.toNat) →
      exec (.amendChange tag [0, c, t1, t2, d1, d2, d3]) ⟨⟨e, b⟩, q⟩ = .next (answered e (received b) q .timetable tag [10]))
    ∧ (∀ before x after, b.timetable.sequences.get t = before ++ x :: after → (∀ y ∈ before, y.trip ≠ x.trip) →
      x.trip = t1.toNat * 256 + t2.toNat →
      (takes b .timetable 2 tag [1, c, t1, t2] →
        (x.state = .pending → exec (.amendCancel tag [1, c, t1, t2]) ⟨⟨e, b⟩, q⟩ = .next (answered e
          ((received b).setSequence t (before ++ { x with state := .cancelled } :: after)) q .timetable tag [0]))
        ∧ (x.state = .inUse → exec (.amendCancel tag [1, c, t1, t2]) ⟨⟨e, b⟩, q⟩ = .next (answered e
          ((received b).setPlatform t { b.platforms.get t with amendment := some .cancel }) q .timetable tag [0]))
        ∧ (x.state = .consumed ∨ x.state = .cancelled → exec (.amendCancel tag [1, c, t1, t2]) ⟨⟨e, b⟩, q⟩ =
          .next (answered e (received b) q .timetable tag [9])))
      ∧ ∀ (d1 d2 d3 : Byte) (d : Nat), takes b .timetable 2 tag [0, c, t1, t2, d1, d2, d3] →
        d = d1.toNat * 65536 + d2.toNat * 256 + d3.toNat → d ≤ 1048575 →
        (x.state = .consumed ∨ x.state = .cancelled → exec (.amendChange tag [0, c, t1, t2, d1, d2, d3]) ⟨⟨e, b⟩, q⟩ =
          .next (answered e (received b) q .timetable tag [9]))
        ∧ (x.state = .pending ∨ x.state = .inUse →
          (∃ y, before.getLast? = some y ∧ d < y.departure) ∨ (∃ y, after.head? = some y ∧ y.departure < d) →
          exec (.amendChange tag [0, c, t1, t2, d1, d2, d3]) ⟨⟨e, b⟩, q⟩ = .next (answered e (received b) q .timetable tag [6]))
        ∧ ((∀ y, before.getLast? = some y → y.departure ≤ d) → (∀ y, after.head? = some y → d ≤ y.departure) →
          (x.state = .pending ∨ x.state = .inUse → ∀ a, x.arrival = some a → d < a →
            exec (.amendChange tag [0, c, t1, t2, d1, d2, d3]) ⟨⟨e, b⟩, q⟩ = .next (answered e (received b) q .timetable tag [2]))
          ∧ ((∀ a, x.arrival = some a → a ≤ d) →
            (x.state = .pending → exec (.amendChange tag [0, c, t1, t2, d1, d2, d3]) ⟨⟨e, b⟩, q⟩ = .next (answered e
              ((received b).setSequence t (before ++ { x with departure := d } :: after)) q .timetable tag [0]))
            ∧ (x.state = .inUse → exec (.amendChange tag [0, c, t1, t2, d1, d2, d3]) ⟨⟨e, b⟩, q⟩ = .next (answered e
              ((received b).setPlatform t { b.platforms.get t with amendment := some (.change d) }) q .timetable tag [0])))))
    ∧ ∀ (p : List Byte) (y : Entry), takes b .timetable 2 tag p → p.length = 12 → field p 0 1 = 2 → field p 1 1 = c.toNat →
      (fieldInsert p).entry = some (t, y) →
      ((∃ x ∈ b.timetable.sequences.get t, x.trip = y.trip) →
        exec (.amendInsert tag p) ⟨⟨e, b⟩, q⟩ = .next (answered e (received b) q .timetable tag [8]))
      ∧ ((∀ x ∈ b.timetable.sequences.get t, x.trip ≠ y.trip) →
        ((∃ x ∈ b.timetable.sequences.get t, (x.state = .inUse ∨ x.state = .consumed) ∧ y.departure < x.departure) →
          exec (.amendInsert tag p) ⟨⟨e, b⟩, q⟩ = .next (answered e (received b) q .timetable tag [6]))
        ∧ ((∀ x ∈ b.timetable.sequences.get t, x.state = .inUse ∨ x.state = .consumed → x.departure ≤ y.departure) →
          (1536 ≤ b.timetable.total → exec (.amendInsert tag p) ⟨⟨e, b⟩, q⟩ = .next (answered e (received b) q .timetable tag [5]))
          ∧ (b.timetable.total < 1536 → exec (.amendInsert tag p) ⟨⟨e, b⟩, q⟩ = .next (answered e
            ((received b).setSequence t (((b.timetable.sequences.get t).takeWhile fun x => x.departure ≤ y.departure) ++ y
              :: (b.timetable.sequences.get t).dropWhile fun x => x.departure ≤ y.departure)) q .timetable tag [0]))))

/-! ### Incidents and announcements -/

/-- RAISE in range and with room: an OPERATOR incident under the next serial of this node that no record holds, OPEN, of the severity and
span asked, with floor 1; RANGE outside it, FULL without room (R147, R149, R150). A full table makes room by the steps of R148, and for a
local raise of severity 4 it always has it. CLOSE, ADOPT and CHANGE answer UNKNOWN_ID for no record and STATE for one that they do not fit;
CLOSE closes with reason OPERATOR what nothing stands against; ADOPT makes an ORPHAN copy local under this node, and a NODE_LOST whose node
is CURRENT closes at once with reason AUTO; CHANGE sets a severity from the floor to 3 (R152, R155, R162). That a RAISE answered FULL queues
no report of a lost raise is the model's reading of R148 (log entry 41); that STATE answers before RANGE in a CHANGE for a copy, and floor 4
of an adopted OPERATOR incident with ISOLATION_FAILED, are its choices (log entries 56 and 60), and so is that a NODE_LOST which this node
raised, yielded and adopted back closes as an adopted one (log entry 63). -/
def Obligations.OperatorIncidents : Prop :=
  ∀ (e : Env) (b : Blocks) (q : List Instr) (tag : Byte),
    (∀ held last, held.length < 255 → nextSerial held last ∉ held
      ∧ ∃ n, nextSerial held last = (last + n) % 255 + 1 ∧ ∀ m, m < n → (last + m) % 255 + 1 ∈ held)
    ∧ (∀ (severity : Nat) (isLocal : Bool) (evicted : Incident → Blocks),
      (∀ v, evicted v = queueReport e (tellDeparture e (leaveTable b v.id) v.id) (.incident .evicted v)) →
      (b.incidents.records.length < 32 → makeRoom e b severity isLocal = some b)
      ∧ (32 ≤ b.incidents.records.length →
        (∀ v, lightestOf b.incidents.records (fun r => b.looseCopy r ∧ r.severity < severity) v →
          makeRoom e b severity isLocal = some (evicted v))
        ∧ ((∀ r ∈ b.incidents.records, b.looseCopy r → severity ≤ r.severity) →
          (isLocal = false ∨ severity ≠ 4 → makeRoom e b severity isLocal = none)
          ∧ (isLocal = true → severity = 4 →
            (∀ v, lightestOf b.incidents.records (fun r => r.isLocal = true ∧ r.severity < 4) v →
              makeRoom e b severity isLocal = some (closeRecord e b v .evicted))
            ∧ ((∀ r ∈ b.incidents.records, r.isLocal = true → 4 ≤ r.severity) →
              (∀ v, oldestOf b.incidents.records (fun r => b.looseCopy r ∧ r.severity = 4) v →
                makeRoom e b severity isLocal = some (evicted v))
              ∧ ((∀ r ∈ b.incidents.records, b.looseCopy r → r.severity ≠ 4) →
                ∀ v, oldestOf b.incidents.records
                  (fun r => r.isLocal = true ∧ r.severity = 4 ∧ ∀ t, (b.power.latches.get t).isSet = true →
                    (b.power.latches.get t).id ≠ some r.id) v →
                  makeRoom e b severity isLocal = some (closeRecord e b v .evicted)))))))
    ∧ (b.incidents.proper → (∀ r ∈ b.incidents.records, r.severity ≤ 4) →
      (∀ br r, b.power.breakers.get br = some r → r.lockout.length ≤ 4) → makeRoom e b 4 true ≠ none)
    ∧ (∀ (sv tr first last node track t1 t2 : Byte) (x : Raise),
      readRaise e [sv, tr, first, last, node, track, t1, t2] = some x ↔
        x.kind = .operator ∧ x.severity = sv.toNat ∧ 1 ≤ sv.toNat ∧ sv.toNat ≤ 3 ∧ x.span.tracks.code = tr.toNat
        ∧ x.span.first = first.toNat ∧ x.span.last = last.toNat ∧ first.toNat ≤ last.toNat ∧ last.toNat + 2 ≤ e.lineCount
        ∧ (node = 0xFF ∧ track = 0xFF ∧ x.platform = none
          ∨ ∃ t : Track, t.code = track.toNat ∧ node.toNat < e.lineCount ∧ x.platform = some ⟨node.toNat, t⟩)
        ∧ (t1 = 0xFF ∧ t2 = 0xFF ∧ x.trip = none
          ∨ 1 ≤ t1.toNat * 256 + t2.toNat ∧ t1.toNat * 256 + t2.toNat ≤ 9999 ∧ x.trip = some (t1.toNat * 256 + t2.toNat)))
    ∧ (∀ p : List Byte, takes b .incident 1 tag p → p.length = 8 → e.nodeState ≠ .configuring →
      (readRaise e p = none → exec (.raise tag p) ⟨⟨e, b⟩, q⟩ = .next (answered e (received b) q .incident tag [2]))
      ∧ ∀ x, readRaise e p = some x →
        (makeRoom e (received b) x.severity true = none →
          exec (.raise tag p) ⟨⟨e, b⟩, q⟩ = .next (answered e (received b) q .incident tag [5]))
        ∧ ∀ y, b.incidents.records.length < 32 ∧ y = received b
            ∨ b.incidents.proper ∧ makeRoom e (received b) x.severity true = some y →
          (∃ b' id r, exec (.raise tag p) ⟨⟨e, b⟩, q⟩ =
            .next (answered e b' q .incident tag [0, char id.origin, char id.serial])
          ∧ id = ⟨e.nodeNumber, nextSerial (y.incidents.serials e.nodeNumber) b.incidents.lastSerial⟩
          ∧ b'.incidents.lastSerial = id.serial ∧ b'.incidents.find id = some r ∧ r.kind = .operator ∧ r.severity = x.severity
          ∧ r.span = x.span ∧ r.platform = x.platform ∧ r.trip = x.trip
          ∧ r.owner = e.nodeNumber ∧ r.adoptedFrom = none ∧ r.raised = e.time.service ∧ r.acked = none
          ∧ r.holding = .owned { acknowledged := false, floor := 1, isolation := [], refresh := 0, age := 0 }))
    ∧ ∀ (c1 c2 : Byte) (id : IncidentId) (x : Blocks), id = ⟨c1.toNat, c2.toNat⟩ → x = received b →
      (takes b .incident 3 tag [c1, c2] →
        (b.incidents.find id = none → exec (.close tag [c1, c2]) ⟨⟨e, b⟩, q⟩ = .next (answered e x q .incident tag [10]))
        ∧ ∀ r, b.incidents.find id = some r →
          (r.isLocal = false → exec (.close tag [c1, c2]) ⟨⟨e, b⟩, q⟩ = .next (answered e x q .incident tag [3]))
          ∧ (r.isLocal = true →
            (r.kind ≠ .emergencyStop → (r.kind = .nodeLost → r.adoptedFrom ≠ none) → exec (.close tag [c1, c2]) ⟨⟨e, b⟩, q⟩ =
              .next (answered e (closeRecord e x r .operator) q .incident tag [0]))
            ∧ (r.kind = .nodeLost → r.adoptedFrom = none → exec (.close tag [c1, c2]) ⟨⟨e, b⟩, q⟩ =
              .next (answered e x q .incident tag [3]))
            ∧ (∀ pl, r.kind = .emergencyStop → r.id.origin = e.nodeNumber → r.platform = some pl → exec (.close tag [c1, c2]) ⟨⟨e, b⟩, q⟩ =
              .next (if b.power.isLatched r.id = true ∧ (b.field.filters.plunger.get pl.track).level = some true
                then answered e x q .incident tag [14] else answered e (closeRecord e x r .operator) q .incident tag [0]))
            ∧ (∀ pl s, r.kind = .emergencyStop → r.id.origin ≠ e.nodeNumber → r.platform = some pl →
              (b.peers.entry r.id.origin).lastStatus = some s → exec (.close tag [c1, c2]) ⟨⟨e, b⟩, q⟩ =
              .next (if (b.peers.entry r.id.origin).liveness = .current ∧ s.contents.latches.get pl.track = false
                then answered e (closeRecord e x r .operator) q .incident tag [0] else answered e x q .incident tag [3]))))
      ∧ (takes b .incident 4 tag [c1, c2] → e.nodeState ≠ .configuring →
        (b.incidents.find id = none → exec (.adopt tag [c1, c2]) ⟨⟨e, b⟩, q⟩ = .next (answered e x q .incident tag [10]))
        ∧ ∀ r, b.incidents.find id = some r →
          ((∀ c, r.holding = .copy c → c.orphan = false) →
            exec (.adopt tag [c1, c2]) ⟨⟨e, b⟩, q⟩ = .next (answered e x q .incident tag [3]))
          ∧ (∀ c, r.holding = .copy c → c.orphan = true → b.incidents.proper → r.kind ≠ .nodeLost → ∃ b',
            exec (.adopt tag [c1, c2]) ⟨⟨e, b⟩, q⟩ = .next (answered e b' q .incident tag [0])
            ∧ b'.incidents.find id = some
              { r with
                acked := none, owner := e.nodeNumber, adoptedFrom := some r.owner
                holding := .owned
                  { acknowledged := false
                    floor := if r.isolationFailed then 4 else if r.kind = .operator then 1 else r.kind.raiseSeverity
                    isolation := [], refresh := 0, age := 0 } })
          ∧ ∀ (c : CopyPart) (a : Incident) (lost : Nat) (y : Blocks), r.holding = .copy c → c.orphan = true → b.incidents.proper →
            r.kind = .nodeLost → (∀ w ∈ b.incidents.records, w.isLocal = true → w.kind ≠ .nodeLost) →
            lost = (if r.id.origin = r.span.first then r.span.first + 1 else r.span.first) →
            a = { r with
              acked := none, owner := e.nodeNumber, adoptedFrom := some r.owner
              holding := .owned
                { acknowledged := false, floor := if r.isolationFailed then 4 else 2, isolation := [], refresh := 0, age := 0 } } →
            y = queueReport e (queueFrame e (x.modifyRecord id fun _ => a) (.incident (a.contents .adopt none))) (.incident .adopted a) →
            exec (.adopt tag [c1, c2]) ⟨⟨e, b⟩, q⟩ = .next (answered e
              (if (b.peers.entry lost).liveness = .current then closeRecord e y a .auto else y) q .incident tag [0]))
      ∧ ∀ severity : Byte, takes b .incident 5 tag [c1, c2, severity] → e.nodeState ≠ .configuring →
        (b.incidents.find id = none → exec (.change tag [c1, c2, severity]) ⟨⟨e, b⟩, q⟩ = .next (answered e x q .incident tag [10]))
        ∧ ∀ r, b.incidents.find id = some r →
          (r.isLocal = false → exec (.change tag [c1, c2, severity]) ⟨⟨e, b⟩, q⟩ = .next (answered e x q .incident tag [3]))
          ∧ ∀ o, r.holding = .owned o →
            (severity.toNat < 1 ∨ 3 < severity.toNat ∨ severity.toNat < o.floor →
              exec (.change tag [c1, c2, severity]) ⟨⟨e, b⟩, q⟩ = .next (answered e x q .incident tag [2]))
            ∧ (1 ≤ severity.toNat → severity.toNat ≤ 3 → o.floor ≤ severity.toNat →
              (severity.toNat = r.severity →
                exec (.change tag [c1, c2, severity]) ⟨⟨e, b⟩, q⟩ = .next (answered e x q .incident tag [0]))
              ∧ (severity.toNat ≠ r.severity → exec (.change tag [c1, c2, severity]) ⟨⟨e, b⟩, q⟩ = .next (answered e
                (tellChange e (reportIncident e (queueIncidentFrame e (x.modifyRecord id fun r => { r with severity := severity.toNat })
                  id .change none) .changed id) r.severity severity.toNat) q .incident tag [0])))

/-- ACKNOWLEDGE (R151): UNKNOWN_ID for no record of the id, STATE for a copy and for an ACKED record; a local OPEN record becomes ACKED with
the service time now held as its acked time, in every node state; an INCIDENT frame with action CHANGE and a report of the
acknowledgement are queued, and nothing else changes: the table keeps its other records, their order, its serials, admission numbers
and alarm, and the other blocks stand. A record adopted later is OPEN again. -/
def Obligations.AcknowledgeMarksTheRecord : Prop :=
  ∀ (e : Env) (b : Blocks) (q : List Instr) (tag c1 c2 : Byte) (id : IncidentId), takes b .incident 2 tag [c1, c2] →
    id = ⟨c1.toNat, c2.toNat⟩ →
    (b.incidents.find id = none →
      exec (.acknowledge tag [c1, c2]) ⟨⟨e, b⟩, q⟩ = .next (answered e (received b) q .incident tag [10]))
    ∧ (∀ r, b.incidents.find id = some r →
      (∀ c, r.holding = .copy c →
        exec (.acknowledge tag [c1, c2]) ⟨⟨e, b⟩, q⟩ = .next (answered e (received b) q .incident tag [3]))
      ∧ ∀ o, r.holding = .owned o →
        (o.acknowledged = true →
          exec (.acknowledge tag [c1, c2]) ⟨⟨e, b⟩, q⟩ = .next (answered e (received b) q .incident tag [3]))
        ∧ (o.acknowledged = false → ∃ b' b'' r',
          r' = { r with acked := some e.time.service, holding := .owned { o with acknowledged := true, refresh := 0 } }
          ∧ exec (.acknowledge tag [c1, c2]) ⟨⟨e, b⟩, q⟩ = .next (answered e b' q .incident tag [0])
          ∧ b'.incidents.find id = some r' ∧ b'.incidents.records.length = b.incidents.records.length
          ∧ (b.incidents.proper → b'.incidents =
            { b.incidents with records := b.incidents.records.map fun x => if x.id = id then r' else x })
          ∧ (∀ r ∈ b.incidents.records, r.id ≠ id → r ∈ b'.incidents.records) ∧ b'.incidents.alarm = b.incidents.alarm
          ∧ (∀ sec, b'.incidents.coverage sec = b.incidents.coverage sec) ∧ b'.incidents.disruption = b.incidents.disruption
          ∧ b'' = queueFrame e (received b) (.incident (r'.contents .change none)) ∧ b'.bus = b''.bus
          ∧ b'.port = (queueReport e b'' (.incident .acknowledged r')).port
          ∧ b'.field = b.field ∧ b'.peers = b.peers ∧ b'.timetable = b.timetable ∧ b'.describer = b.describer
          ∧ b'.platforms = b.platforms ∧ b'.power = b.power ∧ b'.store = b.store ∧ b'.announce = b.announce))
    ∧ ∀ x r, (adoptIncident e b id) = (x, .ok) → x.incidents.find id = some r →
      ∃ o, r.holding = .owned o ∧ o.acknowledged = false ∧ r.acked = none

/-- An ANNOUNCE frame whose range takes in this node, outside CONFIGURING, admits one chain of origin PEER to each of its zones in zone
order, each refusal dropped with a report; any other is ignored (R202). An ANNOUNCE request, whatever its zones, members, not-before,
expiry, link and range, answers RANGE where a value lies outside its range, a linked section outside the line, or an expiry is reached,
and else UNKNOWN_ID where a linked incident is not held; otherwise it offers the chain of its members, of origin OPERATOR, to each zone in
zone order and answers each zone's head id or cause of refusal, with OK where one was admitted and FULL where none was (R195); one with a
range is first queued as a frame, and makes no chain where the range leaves this node out (R196). A chain of one phrase list with room in
the zone and the store is admitted under an id that no message holds (R176, R178, R170). An admitted chain carries what was offered,
under the next order number, and every member of it holds its one or two blocks, also where it displaced chains and takes an id that one of
them held (R168, R176, R178, R179). RANGE before UNKNOWN_ID, the two link characters behind code 0, an incident id of any value sought in
the table, and RANGE for one end of a range without the other are the model's choices (log entries 56, 64 and 42). -/
def Obligations.AnnounceFramesAndRequests : Prop :=
  ∀ (e : Env) (b x : Blocks) (q : List Instr),
    (∀ source payload c, source.toNat ≠ e.nodeNumber → arrives e b source payload (.announce c) → x = heardFrom e b source →
      (e.nodeState = .configuring ∨ e.nodeNumber < c.first ∨ c.last < e.nodeNumber →
        exec (.announceFrame source payload) ⟨⟨e, b⟩, q⟩ = .next ⟨⟨e, x⟩, q⟩)
      ∧ (e.nodeState ≠ .configuring → c.first ≤ e.nodeNumber → e.nodeNumber ≤ c.last →
        exec (.announceFrame source payload) ⟨⟨e, b⟩, q⟩ = .next ⟨⟨e, c.zones.zones.foldl (fun y z => admitOrDrop e y
          { zone := z, priority := c.priority, repeats := c.repeats, interval := c.interval, notBefore := none, expiry := none
            link := none, origin := .peer, kind := none, members := [c.phrases] }) x⟩, q⟩))
    ∧ (∀ (o : Offer) (b' : Blocks) (h : Nat), admitChain e b o = (b', .admitted h) → 1 ≤ o.members.length → o.members.length ≤ 3 →
        b.announce.heldIds.Nodup → b.announce.heldIds.length ≤ 60000 → (∀ id ∈ b.announce.heldIds, 1 ≤ id ∧ id ≤ 65535) →
        (∀ id part, some (.message id part) ∈ b.store.blocks → id ∈ b.announce.heldIds) →
        ∃ c ∈ b'.announce.queues.get o.zone, c.headId = h ∧ c.members.map (·.phrases) = o.members ∧ c.priority = o.priority
          ∧ c.repeats = o.repeats ∧ c.interval = o.interval ∧ c.notBefore = o.notBefore ∧ c.expiry = o.expiry ∧ c.link = o.link
          ∧ c.origin = o.origin ∧ c.kind = o.kind ∧ c.order = b.announce.nextOrder
          ∧ ∀ m ∈ c.members, 1 ≤ m.id ∧ m.id ≤ 65535 ∧ b'.store.blocks.count (some (.message m.id 1)) = 1
            ∧ b'.store.blocks.count (some (.message m.id 2)) = if m.phrases.length ≤ 8 then 0 else 1)
    ∧ (∀ (tag zones priority repeats i1 i2 k0 k1 k2 : Byte) (notBefore expiry first last : Option Nat) (members : List (List Nat))
        (p : List Byte) (interval : Nat) (link : Option Link) (bad : Prop),
      takes b .announce 1 tag p → e.nodeState ≠ .configuring →
      p = [zones, priority, repeats, i1, i2] ++ opt3 notBefore ++ opt3 expiry ++ [k0, k1, k2] ++ opt1 first ++ opt1 last
        ++ [char members.length] ++ (members.flatMap fun m => char m.length :: m.flatMap chars2) →
      p.length ≤ 92 → 1 ≤ members.length → members.length ≤ 3 → (∀ m ∈ members, 1 ≤ m.length ∧ m.length ≤ 16 ∧ ∀ v ∈ m, v ≤ 65535) →
      (∀ n ∈ notBefore, n ≤ 16777214) → (∀ n ∈ expiry, n ≤ 16777214) → (∀ n ∈ first, n ≤ 254) → (∀ n ∈ last, n ≤ 254) →
      interval = i1.toNat * 256 + i2.toNat →
      link = (if k0 = 1 then some (.incident ⟨k1.toNat, k2.toNat⟩)
        else if k0 = 2 then some (.traction ⟨if k1 = 0 then .up else .down, k2.toNat⟩) else none) →
      (bad ↔ zones = 0 ∨ 7 < zones.toNat ∨ 7 < priority.toNat ∨ 15 < repeats.toNat ∨ interval < 50 ∨ 6000 < interval
        ∨ (∃ n ∈ notBefore, 1048575 < n) ∨ (∃ n ∈ expiry, 1048575 < n ∨ n ≤ e.time.service) ∨ (∃ m ∈ members, ∃ v ∈ m, 4095 < v)
        ∨ 36 < (members.map List.length).sum ∨ 2 < k0.toNat ∨ k0 = 2 ∧ (1 < k1.toNat ∨ e.lineCount < k2.toNat + 2)
        ∨ first.isSome ≠ last.isSome
        ∨ ∃ f ∈ first, ∃ l ∈ last, l < f ∨ 31 < l ∨ members.length ≠ 1 ∨ k0 ≠ 0) →
      (bad → exec (.announce tag p) ⟨⟨e, b⟩, q⟩ = .next (answered e (received b) q .announce tag [2]))
      ∧ (¬ bad → (∃ id, link = some (.incident id) ∧ b.incidents.find id = none) →
        exec (.announce tag p) ⟨⟨e, b⟩, q⟩ = .next (answered e (received b) q .announce tag [10]))
      ∧ (¬ bad → (∀ id, link = some (.incident id) → b.incidents.find id ≠ none) → ∀ (zs : ZoneSet) (sent : Blocks),
        zs = ⟨zones.toNat % 2 = 1, zones.toNat / 2 % 2 = 1, zones.toNat / 4 % 2 = 1⟩ →
        sent = (match first, last with
          | some f, some l => queueFrame e (received b) (.announce
            { first := f, last := l, zones := zs, priority := priority.toNat, repeats := repeats.toNat, interval := interval
              phrases := members.flatten })
          | _, _ => received b) →
        ((∃ f ∈ first, ∃ l ∈ last, e.nodeNumber < f ∨ l < e.nodeNumber) →
          exec (.announce tag p) ⟨⟨e, b⟩, q⟩ = .next (answered e sent q .announce tag [0]))
        ∧ ((∀ f ∈ first, ∀ l ∈ last, f ≤ e.nodeNumber ∧ e.nodeNumber ≤ l) → ∀ (b' : Blocks) (results : List Admission),
          (b', results) = zs.zones.foldl (fun acc z =>
            ((admitChain e acc.1
              { zone := z, priority := priority.toNat, repeats := repeats.toNat, interval := interval, notBefore := notBefore
                expiry := expiry, link := link, origin := .operator, kind := none, members := members }).1,
             acc.2 ++ [(admitChain e acc.1
              { zone := z, priority := priority.toNat, repeats := repeats.toNat, interval := interval, notBefore := notBefore
                expiry := expiry, link := link, origin := .operator, kind := none, members := members }).2])) (sent, []) →
          ∃ status : Byte, exec (.announce tag p) ⟨⟨e, b⟩, q⟩ = .next (answered e b' q .announce tag (status :: results.flatMap fun
            | .admitted h => 0 :: chars2 h
            | .refused .store => [1, 0, 0]
            | _ => [2, 0, 0]))
            ∧ ((∃ h, .admitted h ∈ results) → status = 0) ∧ ((∀ h, .admitted h ∉ results) → status = 5))))
    ∧ ∀ (tag priority repeats i1 i2 first last ph1 ph2 zones : Byte) (z : Zone) (p : List Byte) (phrase interval : Nat),
      takes b .announce 1 tag p → e.nodeState ≠ .configuring →
      p = [zones, priority, repeats, i1, i2, 0xFF, 0xFF, 0xFF, 0xFF, 0xFF, 0xFF, 0, 0, 0, first, last, 1, 1, ph1, ph2] →
      phrase = ph1.toNat * 256 + ph2.toNat → interval = i1.toNat * 256 + i2.toNat → zones = 1 ∧ z = .up ∨ zones = 2 ∧ z = .down ∨
        zones = 4 ∧ z = .concourse →
      (7 < priority.toNat ∨ 15 < repeats.toNat ∨ interval < 50 ∨ 6000 < interval ∨ 4095 < phrase →
        exec (.announce tag p) ⟨⟨e, b⟩, q⟩ = .next (answered e (received b) q .announce tag [2]))
      ∧ (priority.toNat ≤ 7 → repeats.toNat ≤ 15 → 50 ≤ interval → interval ≤ 6000 → phrase ≤ 4095 →
        (first = 0xFF → last = 0xFF → ∃ (b' : Blocks) (result : Admission), exec (.announce tag p) ⟨⟨e, b⟩, q⟩ =
            .next (answered e b' q .announce tag (match result with
              | .admitted h => [0, 0] ++ chars2 h
              | .refused .store => [5, 1, 0, 0]
              | _ => [5, 2, 0, 0]))
          ∧ (messageCount (b.announce.queues.get z) ≤ 11 → b.store.reserve + 1 ≤ b.store.free → b.announce.heldIds.length < 65535 →
            ∃ h c, result = .admitted h ∧ 1 ≤ h ∧ h ≤ 65535 ∧ h ∉ b.announce.heldIds ∧ c ∈ b'.announce.queues.get z ∧ c.headId = h
              ∧ c.members = [{ id := h, phrases := [phrase], attempts := 0 }] ∧ c.priority = priority.toNat ∧ c.repeats = repeats.toNat
              ∧ c.interval = interval ∧ c.origin = .operator ∧ c.link = none ∧ c.expiry = none))
        ∧ (first.toNat ≤ last.toNat → last.toNat ≤ 31 → e.nodeNumber < first.toNat ∨ last.toNat < e.nodeNumber → ∃ zs,
          ZoneSet.code zs = zones.toNat ∧ exec (.announce tag p) ⟨⟨e, b⟩, q⟩ = .next (answered e (queueFrame e (received b)
            (.announce
              { first := first.toNat, last := last.toNat, zones := zs, priority := priority.toNat, repeats := repeats.toNat
                interval := interval, phrases := [phrase] })) q .announce tag [0])))

/-! ### Headline results -/

/-- Every frame whose fields lie in their ranges is read back from its payload as it was sent, in every class (R30 to R34); and a payload
that is read as a frame is that frame's payload character for character, so that no bit of it is passed over. -/
def Obligations.FramesReadBackWhole : Prop :=
  (∀ (n s : Nat) (f : Frame), n ≤ 32 → s < n → f.fits n s → parseFrame n s f.cls f.payload = some f)
  ∧ ∀ (n s : Nat) (cls : FrameClass) (p : List Byte) (f : Frame), parseFrame n s cls p = some f → f.cls = cls ∧ f.payload = p

/-- Every step keeps the lines true: no breaker's coils are driven together, no close pulse runs or is pending while a lockout set holds an
id or OVERLOCK is set (R119), the alarm line stands at the alarm state, a starter line is
ACTIVE exactly while its platform is RELEASED, and service time stays within its limit. -/
def Obligations.StepKeepsLinesTrue : Prop := ∀ s t : State, s.node.LinesTrue → step s = .next t → t.node.LinesTrue

/-- Every step keeps the releases clear: no platform is RELEASED against a DEAD section ahead, an incident of severity 3 or more over that
section, a set latch or a hold, and the set of a HELD platform follows its sources; the table holds at most 32 records of
different ids; a set latch holds a local EMERGENCY_STOP whose id stands in the lockout sets of its track (R139). -/
def Obligations.StepKeepsReleasesClear : Prop := ∀ s t : State, s.node.ReleasesClear → step s = .next t → t.node.ReleasesClear

/-- Every step keeps the queues of both links within their bounds and in order: at most 16 frames by rank with at most one STATUS, a
transmitter that agrees with its queue and is OFF exactly in CONFIGURING and SILENT, at most 4 answers and 32 reports. -/
def Obligations.StepKeepsLinksProper : Prop := ∀ s t : State, s.node.LinksProper → step s = .next t → t.node.LinksProper

/-- Every step keeps the Record Store true: each record of the Incident Table holds exactly one block, no block names another
incident, and messages hold at most 64 of the 96 blocks, so that an incident always finds one. -/
def Obligations.StepKeepsStoreTrue : Prop := ∀ s t : State, s.node.StoreTrue → step s = .next t → t.node.StoreTrue

/-- Every step keeps the tables proper: timetable sequences in order of departure with no trip twice and at most 1,536 entries, approaching
queues of at most 8 trains in order, zone queues of at most 12 messages in order, at most 3 channels, at most 4 ids in a lockout set; the
one IN_USE entry is that of the train at the platform and no PENDING entry stands before an IN_USE or CONSUMED one (R63), and a zone
holds at most one channel (R182). -/
def Obligations.StepKeepsTablesProper : Prop := ∀ s t : State, s.node.TablesProper → step s = .next t → t.node.TablesProper

/-- A node right after power-on reset, with any node number the straps can give, meets every invariant; so does `State.reset`. -/
def Obligations.ResetMeetsInvariants : Prop :=
  (∀ k, k < 32 → (Node.atReset k).LinesTrue ∧ (Node.atReset k).ReleasesClear ∧ (Node.atReset k).LinksProper
    ∧ (Node.atReset k).StoreTrue ∧ (Node.atReset k).TablesProper)
  ∧ State.reset.node = Node.atReset 0 ∧ State.reset.pending = []
end

