-- ==== Sys2Proof/Laws/Commands.lean ====
section
/-! SUPPORT. One lemma per command: the next state it answers. A command that acts under the `Env` that stands is written on
`⟨⟨e, b⟩, q⟩`, one that acts on the whole node on `⟨n, q⟩`. -/

namespace Sys2Proof.Machine

@[simp] theorem exec_powerOnReset (straps : BitVec 5) (n : Node) (q : List Instr) :
    exec (.powerOnReset straps) ⟨n, q⟩ =
      .next ⟨Node.atReset straps.toNat, q⟩ := rfl

@[simp] theorem exec_clockPulse (sincePulseMs : Nat) (n : Node) (q : List Instr) :
    exec (.clockPulse sincePulseMs) ⟨n, q⟩ =
      .next ⟨clockPulse n sincePulseMs, q⟩ := rfl

@[simp] theorem exec_pulseTimeout (n : Node) (q : List Instr) :
    exec (.pulseTimeout) ⟨n, q⟩ =
      .next ⟨pulseTimeout n, q⟩ := rfl

@[simp] theorem exec_oscillatorAdvance (n : Node) (q : List Instr) :
    exec (.oscillatorAdvance) ⟨n, q⟩ =
      .next ⟨oscillatorAdvance n, q⟩ := rfl

@[simp] theorem exec_occupancyRise (t : Track) (e : Env) (b : Blocks) (q : List Instr) :
    exec (.occupancyRise t) ⟨⟨e, b⟩, q⟩ =
      .next ⟨⟨e, occupancyRise e b t⟩, q⟩ := rfl

@[simp] theorem exec_departure (t : Track) (e : Env) (b : Blocks) (q : List Instr) :
    exec (.departure t) ⟨⟨e, b⟩, q⟩ =
      .next ⟨⟨e, occupancyFall e b t⟩, q⟩ := rfl

@[simp] theorem exec_plungerPress (t : Track) (e : Env) (b : Blocks) (q : List Instr) :
    exec (.plungerPress t) ⟨⟨e, b⟩, q⟩ =
      .next ⟨⟨e, plungerRise e b t⟩, q⟩ := rfl

@[simp] theorem exec_plungerRelease (t : Track) (e : Env) (b : Blocks) (q : List Instr) :
    exec (.plungerRelease t) ⟨⟨e, b⟩, q⟩ =
      .next ⟨⟨e, plungerFall e b t⟩, q⟩ := rfl

@[simp] theorem exec_breakerSettlement (br : Breaker) (isClosed : Bool) (e : Env) (b : Blocks) (q : List Instr) :
    exec (.breakerSettlement br isClosed) ⟨⟨e, b⟩, q⟩ =
      .next ⟨⟨e, breakerSettles e b br isClosed⟩, q⟩ := rfl

@[simp] theorem exec_breakerStatusChange (br : Breaker) (isClosed : Bool) (e : Env) (b : Blocks) (q : List Instr) :
    exec (.breakerStatusChange br isClosed) ⟨⟨e, b⟩, q⟩ =
      .next ⟨⟨e, breakerMoves e b br isClosed⟩, q⟩ := rfl

@[simp] theorem exec_localKeyChange (isSet : Bool) (e : Env) (b : Blocks) (q : List Instr) :
    exec (.localKeyChange isSet) ⟨⟨e, b⟩, q⟩ =
      .next ⟨⟨e, keyMoves e b isSet⟩, q⟩ := rfl

@[simp] theorem exec_pulseEnd (br : Breaker) (e : Env) (b : Blocks) (q : List Instr) :
    exec (.pulseEnd br) ⟨⟨e, b⟩, q⟩ =
      .next ⟨⟨e, endPulse b br⟩, q⟩ := rfl

@[simp] theorem exec_thirdAdvanceOpen (br : Breaker) (e : Env) (b : Blocks) (q : List Instr) :
    exec (.thirdAdvanceOpen br) ⟨⟨e, b⟩, q⟩ =
      .next ⟨⟨e, thirdStep e b br⟩, q⟩ := rfl

@[simp] theorem exec_breakerTimeLimit (br : Breaker) (e : Env) (b : Blocks) (q : List Instr) :
    exec (.breakerTimeLimit br) ⟨⟨e, b⟩, q⟩ =
      .next ⟨⟨e, limitStep e b br⟩, q⟩ := rfl

@[simp] theorem exec_isolateRepeat (id : IncidentId) (sec : TractionSection) (e : Env) (b : Blocks) (q : List Instr) :
    exec (.isolateRepeat id sec) ⟨⟨e, b⟩, q⟩ =
      .next ⟨⟨e, repeatStep e b id sec⟩, q⟩ := rfl

@[simp] theorem exec_restoreWaitTimeout (br : Breaker) (e : Env) (b : Blocks) (q : List Instr) :
    exec (.restoreWaitTimeout br) ⟨⟨e, b⟩, q⟩ =
      .next ⟨⟨e, waitStep e b br⟩, q⟩ := rfl

@[simp] theorem exec_attemptBegin (idle : Nat) (e : Env) (b : Blocks) (q : List Instr) :
    exec (.attemptBegin idle) ⟨⟨e, b⟩, q⟩ =
      .next ⟨⟨e, attemptBegin e b idle⟩, q⟩ := rfl

@[simp] theorem exec_backoffRetry (idle : Nat) (e : Env) (b : Blocks) (q : List Instr) :
    exec (.backoffRetry idle) ⟨⟨e, b⟩, q⟩ =
      .next ⟨⟨e, backoffRetry e b idle⟩, q⟩ := rfl

@[simp] theorem exec_collision (cause : CollisionCause) (heard : List Byte) (e : Env) (b : Blocks) (q : List Instr) :
    exec (.collision cause heard) ⟨⟨e, b⟩, q⟩ =
      .next ⟨⟨e, collide e b cause heard⟩, q⟩ := rfl

@[simp] theorem exec_frameSent (e : Env) (b : Blocks) (q : List Instr) :
    exec (.frameSent) ⟨⟨e, b⟩, q⟩ =
      .next ⟨⟨e, frameSent e b⟩, q⟩ := rfl

@[simp] theorem exec_statusPoint (e : Env) (b : Blocks) (q : List Instr) :
    exec (.statusPoint) ⟨⟨e, b⟩, q⟩ =
      .next ⟨⟨e, statusStep e b⟩, q⟩ := rfl

@[simp] theorem exec_lineIdle (heard : List Byte) (idle : Nat) (e : Env) (b : Blocks) (q : List Instr) :
    exec (.lineIdle heard idle) ⟨⟨e, b⟩, q⟩ =
      .next ⟨⟨e, lineIdle e b heard idle⟩, q⟩ := rfl

@[simp] theorem exec_linebusCharacterError (heard : List Byte) (e : Env) (b : Blocks) (q : List Instr) :
    exec (.linebusCharacterError heard) ⟨⟨e, b⟩, q⟩ =
      .next ⟨⟨e, characterError e b heard⟩, q⟩ := rfl

@[simp] theorem exec_linebusLengthError (source cls len : Byte) (e : Env) (b : Blocks) (q : List Instr) :
    exec (.linebusLengthError source cls len) ⟨⟨e, b⟩, q⟩ =
      .next ⟨⟨e, lengthError e b source cls len⟩, q⟩ := rfl

@[simp] theorem exec_linebusFrameDiscarded (source cls : Byte) (payload : List Byte) (check : Check) (e : Env) (b : Blocks) (q : List Instr) :
    exec (.linebusFrameDiscarded source cls payload check) ⟨⟨e, b⟩, q⟩ =
      .next ⟨⟨e, discardFrame e b source cls payload check⟩, q⟩ := rfl

@[simp] theorem exec_frameErrorReport (e : Env) (b : Blocks) (q : List Instr) :
    exec (.frameErrorReport) ⟨⟨e, b⟩, q⟩ =
      .next ⟨⟨e, errorReportStep e b⟩, q⟩ := rfl

@[simp] theorem exec_statusFrame (source : Byte) (payload : List Byte) (e : Env) (b : Blocks) (q : List Instr) :
    exec (.statusFrame source payload) ⟨⟨e, b⟩, q⟩ =
      .next ⟨⟨e, receiveFrame e b source .status payload⟩, q⟩ := rfl

@[simp] theorem exec_powerFrame (source : Byte) (payload : List Byte) (e : Env) (b : Blocks) (q : List Instr) :
    exec (.powerFrame source payload) ⟨⟨e, b⟩, q⟩ =
      .next ⟨⟨e, receiveFrame e b source .power payload⟩, q⟩ := rfl

@[simp] theorem exec_isolateFrame (source : Byte) (payload : List Byte) (e : Env) (b : Blocks) (q : List Instr) :
    exec (.isolateFrame source payload) ⟨⟨e, b⟩, q⟩ =
      .next ⟨⟨e, receiveFrame e b source .isolate payload⟩, q⟩ := rfl

@[simp] theorem exec_restoreFrame (source : Byte) (payload : List Byte) (e : Env) (b : Blocks) (q : List Instr) :
    exec (.restoreFrame source payload) ⟨⟨e, b⟩, q⟩ =
      .next ⟨⟨e, receiveFrame e b source .restore payload⟩, q⟩ := rfl

@[simp] theorem exec_incidentFrame (source : Byte) (payload : List Byte) (e : Env) (b : Blocks) (q : List Instr) :
    exec (.incidentFrame source payload) ⟨⟨e, b⟩, q⟩ =
      .next ⟨⟨e, receiveFrame e b source .incident payload⟩, q⟩ := rfl

@[simp] theorem exec_departFrame (source : Byte) (payload : List Byte) (e : Env) (b : Blocks) (q : List Instr) :
    exec (.departFrame source payload) ⟨⟨e, b⟩, q⟩ =
      .next ⟨⟨e, receiveFrame e b source .depart payload⟩, q⟩ := rfl

@[simp] theorem exec_announceFrame (source : Byte) (payload : List Byte) (e : Env) (b : Blocks) (q : List Instr) :
    exec (.announceFrame source payload) ⟨⟨e, b⟩, q⟩ =
      .next ⟨⟨e, receiveFrame e b source .announce payload⟩, q⟩ := rfl

@[simp] theorem exec_peerStale (node : Nat) (e : Env) (b : Blocks) (q : List Instr) :
    exec (.peerStale node) ⟨⟨e, b⟩, q⟩ =
      .next ⟨⟨e, staleStep e b node⟩, q⟩ := rfl

@[simp] theorem exec_peerLost (node : Nat) (e : Env) (b : Blocks) (q : List Instr) :
    exec (.peerLost node) ⟨⟨e, b⟩, q⟩ =
      .next ⟨⟨e, lostStep e b node⟩, q⟩ := rfl

@[simp] theorem exec_lapse (node : Nat) (e : Env) (b : Blocks) (q : List Instr) :
    exec (.lapse node) ⟨⟨e, b⟩, q⟩ =
      .next ⟨⟨e, lapseStep e b node⟩, q⟩ := rfl

@[simp] theorem exec_overdueInstant (t : Track) (e : Env) (b : Blocks) (q : List Instr) :
    exec (.overdueInstant t) ⟨⟨e, b⟩, q⟩ =
      .next ⟨⟨e, stallCheck e b t⟩, q⟩ := rfl

@[simp] theorem exec_dwellTargetReached (t : Track) (e : Env) (b : Blocks) (q : List Instr) :
    exec (.dwellTargetReached t) ⟨⟨e, b⟩, q⟩ =
      .next ⟨⟨e, targetStep e b t⟩, q⟩ := rfl

@[simp] theorem exec_staggerTimeReached (t : Track) (e : Env) (b : Blocks) (q : List Instr) :
    exec (.staggerTimeReached t) ⟨⟨e, b⟩, q⟩ =
      .next ⟨⟨e, staggerStep e b t⟩, q⟩ := rfl

@[simp] theorem exec_graceExpiry (t : Track) (e : Env) (b : Blocks) (q : List Instr) :
    exec (.graceExpiry t) ⟨⟨e, b⟩, q⟩ =
      .next ⟨⟨e, graceStep b t⟩, q⟩ := rfl

@[simp] theorem exec_wmaxReached (t : Track) (e : Env) (b : Blocks) (q : List Instr) :
    exec (.wmaxReached t) ⟨⟨e, b⟩, q⟩ =
      .next ⟨⟨e, wmaxStep e b t⟩, q⟩ := rfl

@[simp] theorem exec_refresh (id : IncidentId) (e : Env) (b : Blocks) (q : List Instr) :
    exec (.refresh id) ⟨⟨e, b⟩, q⟩ =
      .next ⟨⟨e, refreshStep e b id⟩, q⟩ := rfl

@[simp] theorem exec_localAgeClose (id : IncidentId) (e : Env) (b : Blocks) (q : List Instr) :
    exec (.localAgeClose id) ⟨⟨e, b⟩, q⟩ =
      .next ⟨⟨e, localAgeStep e b id⟩, q⟩ := rfl

@[simp] theorem exec_copyDrop (id : IncidentId) (e : Env) (b : Blocks) (q : List Instr) :
    exec (.copyDrop id) ⟨⟨e, b⟩, q⟩ =
      .next ⟨⟨e, copyDropStep e b id⟩, q⟩ := rfl

@[simp] theorem exec_notBeforeReached (message : Nat) (e : Env) (b : Blocks) (q : List Instr) :
    exec (.notBeforeReached message) ⟨⟨e, b⟩, q⟩ =
      .next ⟨⟨e, notBeforeStep e b message⟩, q⟩ := rfl

@[simp] theorem exec_messageExpiry (message : Nat) (e : Env) (b : Blocks) (q : List Instr) :
    exec (.messageExpiry message) ⟨⟨e, b⟩, q⟩ =
      .next ⟨⟨e, expiryStep e b message⟩, q⟩ := rfl

@[simp] theorem exec_playDeadline (channel : Nat) (e : Env) (b : Blocks) (q : List Instr) :
    exec (.playDeadline channel) ⟨⟨e, b⟩, q⟩ =
      .next ⟨⟨e, deadlineStep e b channel⟩, q⟩ := rfl

@[simp] theorem exec_stopTimeout (channel : Nat) (e : Env) (b : Blocks) (q : List Instr) :
    exec (.stopTimeout channel) ⟨⟨e, b⟩, q⟩ =
      .next ⟨⟨e, stopStep e b channel⟩, q⟩ := rfl

@[simp] theorem exec_portFrameGap (heard : List Byte) (quietUs : Nat) (e : Env) (b : Blocks) (q : List Instr) :
    exec (.portFrameGap heard quietUs) ⟨⟨e, b⟩, q⟩ =
      .next ⟨⟨e, portGap b heard quietUs⟩, q⟩ := rfl

@[simp] theorem exec_portCharacterError (heard : List Byte) (e : Env) (b : Blocks) (q : List Instr) :
    exec (.portCharacterError heard) ⟨⟨e, b⟩, q⟩ =
      .next ⟨⟨e, portError b heard⟩, q⟩ := rfl

@[simp] theorem exec_portLengthError (len : Byte) (e : Env) (b : Blocks) (q : List Instr) :
    exec (.portLengthError len) ⟨⟨e, b⟩, q⟩ =
      .next ⟨⟨e, portLength b len⟩, q⟩ := rfl

@[simp] theorem exec_nak (channel kind tag : Byte) (payload : List Byte) (check : Check) (e : Env) (b : Blocks) (q : List Instr) :
    exec (.nak channel kind tag payload check) ⟨⟨e, b⟩, q⟩ =
      .next ⟨⟨e, portNak b channel kind tag payload check⟩, q⟩ := rfl

@[simp] theorem exec_portFrameEnd (e : Env) (b : Blocks) (q : List Instr) :
    exec (.portFrameEnd) ⟨⟨e, b⟩, q⟩ =
      .next ⟨⟨e, portEnd b⟩, q⟩ := rfl

@[simp] theorem exec_configure (tag : Byte) (payload : List Byte) (n : Node) (q : List Instr) :
    exec (.configure tag payload) ⟨n, q⟩ =
      .next ⟨request n .node 1 tag payload (payload.length = 96) .configuringOnly (configure · (readConfig payload)), q⟩ := rfl

@[simp] theorem exec_dayStart (tag : Byte) (payload : List Byte) (n : Node) (q : List Instr) :
    exec (.dayStart tag payload) ⟨n, q⟩ =
      .next ⟨request n .node 2 tag payload (payload.length = 5) .readyOnly (dayStart · (field payload 0 2) (field payload 2 3)), q⟩ := rfl

@[simp] theorem exec_dayEnd (tag : Byte) (payload : List Byte) (n : Node) (q : List Instr) :
    exec (.dayEnd tag payload) ⟨n, q⟩ =
      .next ⟨request n .node 3 tag payload (payload.length = 0) .serviceOnly dayEnd, q⟩ := rfl

@[simp] theorem exec_serviceReset (tag : Byte) (payload : List Byte) (n : Node) (q : List Instr) :
    exec (.serviceReset tag payload) ⟨n, q⟩ =
      .next ⟨request n .node 4 tag payload (payload.length = 0) .configured serviceReset, q⟩ := rfl

@[simp] theorem exec_readStatus (tag : Byte) (payload : List Byte) (n : Node) (q : List Instr) :
    exec (.readStatus tag payload) ⟨n, q⟩ =
      .next ⟨request n .node 5 tag payload (payload.length = 2) .always (fieldOwner fun e b => (b, pageReply (field payload 0 1) (field payload 1 1) (statusItems e b (field payload 0 1)))), q⟩ := rfl

@[simp] theorem exec_alarmAck (tag : Byte) (payload : List Byte) (n : Node) (q : List Instr) :
    exec (.alarmAck tag payload) ⟨n, q⟩ =
      .next ⟨request n .node 6 tag payload (payload.length = 0) .always (plainOwner fun _ b => ackAlarm b), q⟩ := rfl

@[simp] theorem exec_timetablePart (tag : Byte) (payload : List Byte) (n : Node) (q : List Instr) :
    exec (.timetablePart tag payload) ⟨n, q⟩ =
      .next ⟨request n .timetable 1 tag payload (shapePart payload) .readyOnly (fieldOwner fun _ b => ownPart (readPart payload) b), q⟩ := rfl

@[simp] theorem exec_amendChange (tag : Byte) (payload : List Byte) (n : Node) (q : List Instr) :
    exec (.amendChange tag payload) ⟨n, q⟩ =
      .next ⟨request n .timetable 2 tag payload (shapeAmend amendKindChange 7 payload) .configured (plainOwner fun _ b => amendChange b (fieldPlatformFlags (field payload 1 1)).1 (field payload 2 2) (field payload 4 3)), q⟩ := rfl

@[simp] theorem exec_amendCancel (tag : Byte) (payload : List Byte) (n : Node) (q : List Instr) :
    exec (.amendCancel tag payload) ⟨n, q⟩ =
      .next ⟨request n .timetable 2 tag payload (shapeAmend amendKindCancel 4 payload) .configured (plainOwner fun _ b => amendCancel b (fieldPlatformFlags (field payload 1 1)).1 (field payload 2 2)), q⟩ := rfl

@[simp] theorem exec_amendInsert (tag : Byte) (payload : List Byte) (n : Node) (q : List Instr) :
    exec (.amendInsert tag payload) ⟨n, q⟩ =
      .next ⟨request n .timetable 2 tag payload (shapeAmend amendKindInsert 12 payload) .configured (plainOwner fun _ b => amendInsert b (fieldInsert payload)), q⟩ := rfl

@[simp] theorem exec_inject (tag : Byte) (payload : List Byte) (n : Node) (q : List Instr) :
    exec (.inject tag payload) ⟨n, q⟩ =
      .next ⟨request n .timetable 3 tag payload (payload.length = 6) .configured (plainOwner fun e b => injectTrain e b (field payload 0 1) (field payload 1 2) (fieldOpt payload 3 3)), q⟩ := rfl

@[simp] theorem exec_flush (tag : Byte) (payload : List Byte) (n : Node) (q : List Instr) :
    exec (.flush tag payload) ⟨n, q⟩ =
      .next ⟨request n .timetable 4 tag payload (payload.length = 3) .configured (plainOwner fun e b => flushTrain e b (field payload 0 1) (field payload 1 2)), q⟩ := rfl

@[simp] theorem exec_hold (tag : Byte) (payload : List Byte) (n : Node) (q : List Instr) :
    exec (.hold tag payload) ⟨n, q⟩ =
      .next ⟨request n .platform 1 tag payload (payload.length = 1) .configured (plainOwner fun e b => onTrack b (field payload 0 1) (holdPlatform e b)), q⟩ := rfl

@[simp] theorem exec_unhold (tag : Byte) (payload : List Byte) (n : Node) (q : List Instr) :
    exec (.unhold tag payload) ⟨n, q⟩ =
      .next ⟨request n .platform 2 tag payload (payload.length = 1) .configured (plainOwner fun e b => onTrack b (field payload 0 1) (unholdPlatform e b)), q⟩ := rfl

@[simp] theorem exec_release (tag : Byte) (payload : List Byte) (n : Node) (q : List Instr) :
    exec (.release tag payload) ⟨n, q⟩ =
      .next ⟨request n .platform 3 tag payload (payload.length = 1) .configured (plainOwner fun e b => onTrack b (field payload 0 1) (releasePlatform e b)), q⟩ := rfl

@[simp] theorem exec_readPlatform (tag : Byte) (payload : List Byte) (n : Node) (q : List Instr) :
    exec (.readPlatform tag payload) ⟨n, q⟩ =
      .next ⟨request n .platform 4 tag payload (payload.length = 2) .configured (fieldOwner fun _ b => (b, pageReply (field payload 0 1) (field payload 1 1) ((Track.ofCode (field payload 0 1)).map (platformItems b)))), q⟩ := rfl

@[simp] theorem exec_isolate (tag : Byte) (payload : List Byte) (n : Node) (q : List Instr) :
    exec (.isolate tag payload) ⟨n, q⟩ =
      .next ⟨request n .power 1 tag payload (payload.length = 4) .configured (plainOwner fun e b => isolateRequest e b (fieldSection payload 0) (fieldId payload 2)), q⟩ := rfl

@[simp] theorem exec_restore (tag : Byte) (payload : List Byte) (n : Node) (q : List Instr) :
    exec (.restore tag payload) ⟨n, q⟩ =
      .next ⟨request n .power 2 tag payload (payload.length = 5) .configured (plainOwner fun e b => ownRestore e b (fieldSection payload 0) (fieldIdOpt payload 2) (field payload 4 1)), q⟩ := rfl

@[simp] theorem exec_readPower (tag : Byte) (payload : List Byte) (n : Node) (q : List Instr) :
    exec (.readPower tag payload) ⟨n, q⟩ =
      .next ⟨request n .power 3 tag payload (payload.length = 1) .always (fieldOwner fun e b => (b, pageReply 0 (field payload 0 1) (some (powerItems e b)))), q⟩ := rfl

@[simp] theorem exec_raise (tag : Byte) (payload : List Byte) (n : Node) (q : List Instr) :
    exec (.raise tag payload) ⟨n, q⟩ =
      .next ⟨request n .incident 1 tag payload (payload.length = 8) .configured (fieldOwner fun e b => raiseRequest e b (readRaise e payload)), q⟩ := rfl

@[simp] theorem exec_acknowledge (tag : Byte) (payload : List Byte) (n : Node) (q : List Instr) :
    exec (.acknowledge tag payload) ⟨n, q⟩ =
      .next ⟨request n .incident 2 tag payload (payload.length = 2) .always (plainOwner fun e b => acknowledgeIncident e b (fieldId payload 0)), q⟩ := rfl

@[simp] theorem exec_close (tag : Byte) (payload : List Byte) (n : Node) (q : List Instr) :
    exec (.close tag payload) ⟨n, q⟩ =
      .next ⟨request n .incident 3 tag payload (payload.length = 2) .always (plainOwner fun e b => closeIncident e b (fieldId payload 0)), q⟩ := rfl

@[simp] theorem exec_adopt (tag : Byte) (payload : List Byte) (n : Node) (q : List Instr) :
    exec (.adopt tag payload) ⟨n, q⟩ =
      .next ⟨request n .incident 4 tag payload (payload.length = 2) .configured (plainOwner fun e b => adoptIncident e b (fieldId payload 0)), q⟩ := rfl

@[simp] theorem exec_change (tag : Byte) (payload : List Byte) (n : Node) (q : List Instr) :
    exec (.change tag payload) ⟨n, q⟩ =
      .next ⟨request n .incident 5 tag payload (payload.length = 3) .configured (plainOwner fun e b => changeIncident e b (fieldId payload 0) (field payload 2 1)), q⟩ := rfl

@[simp] theorem exec_readIncidents (tag : Byte) (payload : List Byte) (n : Node) (q : List Instr) :
    exec (.readIncidents tag payload) ⟨n, q⟩ =
      .next ⟨request n .incident 6 tag payload (payload.length = 1) .always (fieldOwner fun _ b => (b, pageReply 0 (field payload 0 1) (some (incidentItems b)))), q⟩ := rfl

@[simp] theorem exec_announce (tag : Byte) (payload : List Byte) (n : Node) (q : List Instr) :
    exec (.announce tag payload) ⟨n, q⟩ =
      .next ⟨request n .announce 1 tag payload ((announceMembers payload).isSome) .configured (fieldOwner fun e b => announceRequest e b (readAnnounce payload)), q⟩ := rfl

@[simp] theorem exec_withdraw (tag : Byte) (payload : List Byte) (n : Node) (q : List Instr) :
    exec (.withdraw tag payload) ⟨n, q⟩ =
      .next ⟨request n .announce 2 tag payload (payload.length = 2) .configured (plainOwner fun e b => withdrawRequest e b (field payload 0 2)), q⟩ := rfl

@[simp] theorem exec_audioDone (tag : Byte) (payload : List Byte) (n : Node) (q : List Instr) :
    exec (.audioDone tag payload) ⟨n, q⟩ =
      .next ⟨request n .announce 3 tag payload (payload.length = 3) .configured (plainOwner fun e b => audioDoneRequest e b (field payload 0 1) (field payload 1 2)), q⟩ := rfl

@[simp] theorem exec_audioFailed (tag : Byte) (payload : List Byte) (n : Node) (q : List Instr) :
    exec (.audioFailed tag payload) ⟨n, q⟩ =
      .next ⟨request n .announce 4 tag payload (payload.length = 3) .configured (plainOwner fun e b => audioFailedRequest e b (field payload 0 1) (field payload 1 2)), q⟩ := rfl

@[simp] theorem exec_audioStopped (tag : Byte) (payload : List Byte) (n : Node) (q : List Instr) :
    exec (.audioStopped tag payload) ⟨n, q⟩ =
      .next ⟨request n .announce 5 tag payload (payload.length = 3) .configured (plainOwner fun e b => audioStoppedRequest e b (field payload 0 1) (field payload 1 2)), q⟩ := rfl

@[simp] theorem exec_audioReset (tag : Byte) (payload : List Byte) (n : Node) (q : List Instr) :
    exec (.audioReset tag payload) ⟨n, q⟩ =
      .next ⟨request n .announce 6 tag payload (payload.length = 1) .configured (plainOwner fun e b => audioResetRequest e b (field payload 0 1)), q⟩ := rfl

@[simp] theorem exec_samplingPoint (levels : InputLevels) (e : Env) (b : Blocks) (q : List Instr) :
    exec (.samplingPoint levels) ⟨⟨e, b⟩, q⟩ =
      .next ⟨⟨e, samplingPoint e b levels⟩, q⟩ := rfl

@[simp] theorem exec_linebusOtherCharacter (char : Option Byte) (e : Env) (b : Blocks) (q : List Instr) :
    exec (.linebusOtherCharacter char) ⟨⟨e, b⟩, q⟩ =
      .next ⟨⟨e, otherCharacter b char⟩, q⟩ := rfl

end Sys2Proof.Machine
end

