-- ==== Sys2Proof/Laws/State.lean ====
section
/-! SUPPORT. One lemma for each component after each update of the blocks, and reading a container after writing it. -/

namespace Sys2Proof.Machine

/-! ### Containers -/

@[simp] theorem PerTrack.get_set {α : Type} (p : PerTrack α) (t u : Track) (a : α) :
    (p.set t a).get u = if u = t then a else p.get u := by cases t <;> cases u <;> rfl

@[simp] theorem PerBreaker.get_set {α : Type} (p : PerBreaker α) (x y : Breaker) (a : α) :
    (p.set x a).get y = if y = x then a else p.get y := by cases x <;> cases y <;> rfl

@[simp] theorem PerZone.get_set {α : Type} (p : PerZone α) (y z : Zone) (a : α) :
    (p.set y a).get z = if z = y then a else p.get z := by cases y <;> cases z <;> rfl

@[simp] theorem modifyAt_length {α : Type} (l : List α) (i : Nat) (f : α → α) : (modifyAt l i f).length = l.length := by
  unfold modifyAt; split <;> simp

theorem countUp_le (limit n : Nat) (h : n ≤ limit) : countUp limit n ≤ limit := by unfold countUp; split <;> omega

/-! ### setField -/

@[simp] theorem Blocks.setField_field (b : Blocks) (f : FieldState) : (b.setField f).field = f := rfl
@[simp] theorem Blocks.setField_bus (b : Blocks) (f : FieldState) : (b.setField f).bus = b.bus := rfl
@[simp] theorem Blocks.setField_peers (b : Blocks) (f : FieldState) : (b.setField f).peers = b.peers := rfl
@[simp] theorem Blocks.setField_timetable (b : Blocks) (f : FieldState) : (b.setField f).timetable = b.timetable := rfl
@[simp] theorem Blocks.setField_describer (b : Blocks) (f : FieldState) : (b.setField f).describer = b.describer := rfl
@[simp] theorem Blocks.setField_platforms (b : Blocks) (f : FieldState) : (b.setField f).platforms = b.platforms := rfl
@[simp] theorem Blocks.setField_power (b : Blocks) (f : FieldState) : (b.setField f).power = b.power := rfl
@[simp] theorem Blocks.setField_incidents (b : Blocks) (f : FieldState) : (b.setField f).incidents = b.incidents := rfl
@[simp] theorem Blocks.setField_store (b : Blocks) (f : FieldState) : (b.setField f).store = b.store := rfl
@[simp] theorem Blocks.setField_announce (b : Blocks) (f : FieldState) : (b.setField f).announce = b.announce := rfl
@[simp] theorem Blocks.setField_port (b : Blocks) (f : FieldState) : (b.setField f).port = b.port := rfl

/-! ### setBus -/

@[simp] theorem Blocks.setBus_field (b : Blocks) (l : Linebus) : (b.setBus l).field = b.field := rfl
@[simp] theorem Blocks.setBus_bus (b : Blocks) (l : Linebus) : (b.setBus l).bus = l := rfl
@[simp] theorem Blocks.setBus_peers (b : Blocks) (l : Linebus) : (b.setBus l).peers = b.peers := rfl
@[simp] theorem Blocks.setBus_timetable (b : Blocks) (l : Linebus) : (b.setBus l).timetable = b.timetable := rfl
@[simp] theorem Blocks.setBus_describer (b : Blocks) (l : Linebus) : (b.setBus l).describer = b.describer := rfl
@[simp] theorem Blocks.setBus_platforms (b : Blocks) (l : Linebus) : (b.setBus l).platforms = b.platforms := rfl
@[simp] theorem Blocks.setBus_power (b : Blocks) (l : Linebus) : (b.setBus l).power = b.power := rfl
@[simp] theorem Blocks.setBus_incidents (b : Blocks) (l : Linebus) : (b.setBus l).incidents = b.incidents := rfl
@[simp] theorem Blocks.setBus_store (b : Blocks) (l : Linebus) : (b.setBus l).store = b.store := rfl
@[simp] theorem Blocks.setBus_announce (b : Blocks) (l : Linebus) : (b.setBus l).announce = b.announce := rfl
@[simp] theorem Blocks.setBus_port (b : Blocks) (l : Linebus) : (b.setBus l).port = b.port := rfl

/-! ### setPeers -/

@[simp] theorem Blocks.setPeers_field (b : Blocks) (p : PeerView) : (b.setPeers p).field = b.field := rfl
@[simp] theorem Blocks.setPeers_bus (b : Blocks) (p : PeerView) : (b.setPeers p).bus = b.bus := rfl
@[simp] theorem Blocks.setPeers_peers (b : Blocks) (p : PeerView) : (b.setPeers p).peers = p := rfl
@[simp] theorem Blocks.setPeers_timetable (b : Blocks) (p : PeerView) : (b.setPeers p).timetable = b.timetable := rfl
@[simp] theorem Blocks.setPeers_describer (b : Blocks) (p : PeerView) : (b.setPeers p).describer = b.describer := rfl
@[simp] theorem Blocks.setPeers_platforms (b : Blocks) (p : PeerView) : (b.setPeers p).platforms = b.platforms := rfl
@[simp] theorem Blocks.setPeers_power (b : Blocks) (p : PeerView) : (b.setPeers p).power = b.power := rfl
@[simp] theorem Blocks.setPeers_incidents (b : Blocks) (p : PeerView) : (b.setPeers p).incidents = b.incidents := rfl
@[simp] theorem Blocks.setPeers_store (b : Blocks) (p : PeerView) : (b.setPeers p).store = b.store := rfl
@[simp] theorem Blocks.setPeers_announce (b : Blocks) (p : PeerView) : (b.setPeers p).announce = b.announce := rfl
@[simp] theorem Blocks.setPeers_port (b : Blocks) (p : PeerView) : (b.setPeers p).port = b.port := rfl

/-! ### setTimetable -/

@[simp] theorem Blocks.setTimetable_field (b : Blocks) (x : Timetable) : (b.setTimetable x).field = b.field := rfl
@[simp] theorem Blocks.setTimetable_bus (b : Blocks) (x : Timetable) : (b.setTimetable x).bus = b.bus := rfl
@[simp] theorem Blocks.setTimetable_peers (b : Blocks) (x : Timetable) : (b.setTimetable x).peers = b.peers := rfl
@[simp] theorem Blocks.setTimetable_timetable (b : Blocks) (x : Timetable) : (b.setTimetable x).timetable = x := rfl
@[simp] theorem Blocks.setTimetable_describer (b : Blocks) (x : Timetable) : (b.setTimetable x).describer = b.describer := rfl
@[simp] theorem Blocks.setTimetable_platforms (b : Blocks) (x : Timetable) : (b.setTimetable x).platforms = b.platforms := rfl
@[simp] theorem Blocks.setTimetable_power (b : Blocks) (x : Timetable) : (b.setTimetable x).power = b.power := rfl
@[simp] theorem Blocks.setTimetable_incidents (b : Blocks) (x : Timetable) : (b.setTimetable x).incidents = b.incidents := rfl
@[simp] theorem Blocks.setTimetable_store (b : Blocks) (x : Timetable) : (b.setTimetable x).store = b.store := rfl
@[simp] theorem Blocks.setTimetable_announce (b : Blocks) (x : Timetable) : (b.setTimetable x).announce = b.announce := rfl
@[simp] theorem Blocks.setTimetable_port (b : Blocks) (x : Timetable) : (b.setTimetable x).port = b.port := rfl

/-! ### setApproach -/

@[simp] theorem Blocks.setApproach_field (b : Blocks) (t : Track) (q : List Approach) :
    (b.setApproach t q).field = b.field := rfl
@[simp] theorem Blocks.setApproach_bus (b : Blocks) (t : Track) (q : List Approach) : (b.setApproach t q).bus = b.bus := rfl
@[simp] theorem Blocks.setApproach_peers (b : Blocks) (t : Track) (q : List Approach) :
    (b.setApproach t q).peers = b.peers := rfl
@[simp] theorem Blocks.setApproach_timetable (b : Blocks) (t : Track) (q : List Approach) :
    (b.setApproach t q).timetable = b.timetable := rfl
@[simp] theorem Blocks.setApproach_describer (b : Blocks) (t : Track) (q : List Approach) :
    (b.setApproach t q).describer = b.describer.set t q := rfl
@[simp] theorem Blocks.setApproach_platforms (b : Blocks) (t : Track) (q : List Approach) :
    (b.setApproach t q).platforms = b.platforms := rfl
@[simp] theorem Blocks.setApproach_power (b : Blocks) (t : Track) (q : List Approach) :
    (b.setApproach t q).power = b.power := rfl
@[simp] theorem Blocks.setApproach_incidents (b : Blocks) (t : Track) (q : List Approach) :
    (b.setApproach t q).incidents = b.incidents := rfl
@[simp] theorem Blocks.setApproach_store (b : Blocks) (t : Track) (q : List Approach) :
    (b.setApproach t q).store = b.store := rfl
@[simp] theorem Blocks.setApproach_announce (b : Blocks) (t : Track) (q : List Approach) :
    (b.setApproach t q).announce = b.announce := rfl
@[simp] theorem Blocks.setApproach_port (b : Blocks) (t : Track) (q : List Approach) : (b.setApproach t q).port = b.port := rfl

/-! ### setPlatform -/

@[simp] theorem Blocks.setPlatform_field (b : Blocks) (t : Track) (p : Platform) : (b.setPlatform t p).field = b.field := rfl
@[simp] theorem Blocks.setPlatform_bus (b : Blocks) (t : Track) (p : Platform) : (b.setPlatform t p).bus = b.bus := rfl
@[simp] theorem Blocks.setPlatform_peers (b : Blocks) (t : Track) (p : Platform) : (b.setPlatform t p).peers = b.peers := rfl
@[simp] theorem Blocks.setPlatform_timetable (b : Blocks) (t : Track) (p : Platform) :
    (b.setPlatform t p).timetable = b.timetable := rfl
@[simp] theorem Blocks.setPlatform_describer (b : Blocks) (t : Track) (p : Platform) :
    (b.setPlatform t p).describer = b.describer := rfl
@[simp] theorem Blocks.setPlatform_platforms (b : Blocks) (t : Track) (p : Platform) :
    (b.setPlatform t p).platforms = b.platforms.set t p := rfl
@[simp] theorem Blocks.setPlatform_power (b : Blocks) (t : Track) (p : Platform) : (b.setPlatform t p).power = b.power := rfl
@[simp] theorem Blocks.setPlatform_incidents (b : Blocks) (t : Track) (p : Platform) :
    (b.setPlatform t p).incidents = b.incidents := rfl
@[simp] theorem Blocks.setPlatform_store (b : Blocks) (t : Track) (p : Platform) : (b.setPlatform t p).store = b.store := rfl
@[simp] theorem Blocks.setPlatform_announce (b : Blocks) (t : Track) (p : Platform) :
    (b.setPlatform t p).announce = b.announce := rfl
@[simp] theorem Blocks.setPlatform_port (b : Blocks) (t : Track) (p : Platform) : (b.setPlatform t p).port = b.port := rfl

/-! ### setPower -/

@[simp] theorem Blocks.setPower_field (b : Blocks) (p : Power) : (b.setPower p).field = b.field := rfl
@[simp] theorem Blocks.setPower_bus (b : Blocks) (p : Power) : (b.setPower p).bus = b.bus := rfl
@[simp] theorem Blocks.setPower_peers (b : Blocks) (p : Power) : (b.setPower p).peers = b.peers := rfl
@[simp] theorem Blocks.setPower_timetable (b : Blocks) (p : Power) : (b.setPower p).timetable = b.timetable := rfl
@[simp] theorem Blocks.setPower_describer (b : Blocks) (p : Power) : (b.setPower p).describer = b.describer := rfl
@[simp] theorem Blocks.setPower_platforms (b : Blocks) (p : Power) : (b.setPower p).platforms = b.platforms := rfl
@[simp] theorem Blocks.setPower_power (b : Blocks) (p : Power) : (b.setPower p).power = p := rfl
@[simp] theorem Blocks.setPower_incidents (b : Blocks) (p : Power) : (b.setPower p).incidents = b.incidents := rfl
@[simp] theorem Blocks.setPower_store (b : Blocks) (p : Power) : (b.setPower p).store = b.store := rfl
@[simp] theorem Blocks.setPower_announce (b : Blocks) (p : Power) : (b.setPower p).announce = b.announce := rfl
@[simp] theorem Blocks.setPower_port (b : Blocks) (p : Power) : (b.setPower p).port = b.port := rfl

/-! ### setIncidents -/

@[simp] theorem Blocks.setIncidents_field (b : Blocks) (i : IncidentTable) : (b.setIncidents i).field = b.field := rfl
@[simp] theorem Blocks.setIncidents_bus (b : Blocks) (i : IncidentTable) : (b.setIncidents i).bus = b.bus := rfl
@[simp] theorem Blocks.setIncidents_peers (b : Blocks) (i : IncidentTable) : (b.setIncidents i).peers = b.peers := rfl
@[simp] theorem Blocks.setIncidents_timetable (b : Blocks) (i : IncidentTable) :
    (b.setIncidents i).timetable = b.timetable := rfl
@[simp] theorem Blocks.setIncidents_describer (b : Blocks) (i : IncidentTable) :
    (b.setIncidents i).describer = b.describer := rfl
@[simp] theorem Blocks.setIncidents_platforms (b : Blocks) (i : IncidentTable) :
    (b.setIncidents i).platforms = b.platforms := rfl
@[simp] theorem Blocks.setIncidents_power (b : Blocks) (i : IncidentTable) : (b.setIncidents i).power = b.power := rfl
@[simp] theorem Blocks.setIncidents_incidents (b : Blocks) (i : IncidentTable) : (b.setIncidents i).incidents = i := rfl
@[simp] theorem Blocks.setIncidents_store (b : Blocks) (i : IncidentTable) : (b.setIncidents i).store = b.store := rfl
@[simp] theorem Blocks.setIncidents_announce (b : Blocks) (i : IncidentTable) : (b.setIncidents i).announce = b.announce := rfl
@[simp] theorem Blocks.setIncidents_port (b : Blocks) (i : IncidentTable) : (b.setIncidents i).port = b.port := rfl

/-! ### setStore -/

@[simp] theorem Blocks.setStore_field (b : Blocks) (x : Store) : (b.setStore x).field = b.field := rfl
@[simp] theorem Blocks.setStore_bus (b : Blocks) (x : Store) : (b.setStore x).bus = b.bus := rfl
@[simp] theorem Blocks.setStore_peers (b : Blocks) (x : Store) : (b.setStore x).peers = b.peers := rfl
@[simp] theorem Blocks.setStore_timetable (b : Blocks) (x : Store) : (b.setStore x).timetable = b.timetable := rfl
@[simp] theorem Blocks.setStore_describer (b : Blocks) (x : Store) : (b.setStore x).describer = b.describer := rfl
@[simp] theorem Blocks.setStore_platforms (b : Blocks) (x : Store) : (b.setStore x).platforms = b.platforms := rfl
@[simp] theorem Blocks.setStore_power (b : Blocks) (x : Store) : (b.setStore x).power = b.power := rfl
@[simp] theorem Blocks.setStore_incidents (b : Blocks) (x : Store) : (b.setStore x).incidents = b.incidents := rfl
@[simp] theorem Blocks.setStore_store (b : Blocks) (x : Store) : (b.setStore x).store = x := rfl
@[simp] theorem Blocks.setStore_announce (b : Blocks) (x : Store) : (b.setStore x).announce = b.announce := rfl
@[simp] theorem Blocks.setStore_port (b : Blocks) (x : Store) : (b.setStore x).port = b.port := rfl

/-! ### setAnnounce -/

@[simp] theorem Blocks.setAnnounce_field (b : Blocks) (a : Announcer) : (b.setAnnounce a).field = b.field := rfl
@[simp] theorem Blocks.setAnnounce_bus (b : Blocks) (a : Announcer) : (b.setAnnounce a).bus = b.bus := rfl
@[simp] theorem Blocks.setAnnounce_peers (b : Blocks) (a : Announcer) : (b.setAnnounce a).peers = b.peers := rfl
@[simp] theorem Blocks.setAnnounce_timetable (b : Blocks) (a : Announcer) : (b.setAnnounce a).timetable = b.timetable := rfl
@[simp] theorem Blocks.setAnnounce_describer (b : Blocks) (a : Announcer) : (b.setAnnounce a).describer = b.describer := rfl
@[simp] theorem Blocks.setAnnounce_platforms (b : Blocks) (a : Announcer) : (b.setAnnounce a).platforms = b.platforms := rfl
@[simp] theorem Blocks.setAnnounce_power (b : Blocks) (a : Announcer) : (b.setAnnounce a).power = b.power := rfl
@[simp] theorem Blocks.setAnnounce_incidents (b : Blocks) (a : Announcer) : (b.setAnnounce a).incidents = b.incidents := rfl
@[simp] theorem Blocks.setAnnounce_store (b : Blocks) (a : Announcer) : (b.setAnnounce a).store = b.store := rfl
@[simp] theorem Blocks.setAnnounce_announce (b : Blocks) (a : Announcer) : (b.setAnnounce a).announce = a := rfl
@[simp] theorem Blocks.setAnnounce_port (b : Blocks) (a : Announcer) : (b.setAnnounce a).port = b.port := rfl

/-! ### setPort -/

@[simp] theorem Blocks.setPort_field (b : Blocks) (p : Port) : (b.setPort p).field = b.field := rfl
@[simp] theorem Blocks.setPort_bus (b : Blocks) (p : Port) : (b.setPort p).bus = b.bus := rfl
@[simp] theorem Blocks.setPort_peers (b : Blocks) (p : Port) : (b.setPort p).peers = b.peers := rfl
@[simp] theorem Blocks.setPort_timetable (b : Blocks) (p : Port) : (b.setPort p).timetable = b.timetable := rfl
@[simp] theorem Blocks.setPort_describer (b : Blocks) (p : Port) : (b.setPort p).describer = b.describer := rfl
@[simp] theorem Blocks.setPort_platforms (b : Blocks) (p : Port) : (b.setPort p).platforms = b.platforms := rfl
@[simp] theorem Blocks.setPort_power (b : Blocks) (p : Port) : (b.setPort p).power = b.power := rfl
@[simp] theorem Blocks.setPort_incidents (b : Blocks) (p : Port) : (b.setPort p).incidents = b.incidents := rfl
@[simp] theorem Blocks.setPort_store (b : Blocks) (p : Port) : (b.setPort p).store = b.store := rfl
@[simp] theorem Blocks.setPort_announce (b : Blocks) (p : Port) : (b.setPort p).announce = b.announce := rfl
@[simp] theorem Blocks.setPort_port (b : Blocks) (p : Port) : (b.setPort p).port = p := rfl

/-! ### setLatch -/

@[simp] theorem Blocks.setLatch_field (b : Blocks) (t : Track) (l : Latch) : (b.setLatch t l).field = b.field := rfl
@[simp] theorem Blocks.setLatch_bus (b : Blocks) (t : Track) (l : Latch) : (b.setLatch t l).bus = b.bus := rfl
@[simp] theorem Blocks.setLatch_peers (b : Blocks) (t : Track) (l : Latch) : (b.setLatch t l).peers = b.peers := rfl
@[simp] theorem Blocks.setLatch_timetable (b : Blocks) (t : Track) (l : Latch) : (b.setLatch t l).timetable = b.timetable := rfl
@[simp] theorem Blocks.setLatch_describer (b : Blocks) (t : Track) (l : Latch) : (b.setLatch t l).describer = b.describer := rfl
@[simp] theorem Blocks.setLatch_platforms (b : Blocks) (t : Track) (l : Latch) : (b.setLatch t l).platforms = b.platforms := rfl
@[simp] theorem Blocks.setLatch_power (b : Blocks) (t : Track) (l : Latch) :
    (b.setLatch t l).power = { b.power with latches := b.power.latches.set t l } := rfl
@[simp] theorem Blocks.setLatch_incidents (b : Blocks) (t : Track) (l : Latch) : (b.setLatch t l).incidents = b.incidents := rfl
@[simp] theorem Blocks.setLatch_store (b : Blocks) (t : Track) (l : Latch) : (b.setLatch t l).store = b.store := rfl
@[simp] theorem Blocks.setLatch_announce (b : Blocks) (t : Track) (l : Latch) : (b.setLatch t l).announce = b.announce := rfl
@[simp] theorem Blocks.setLatch_port (b : Blocks) (t : Track) (l : Latch) : (b.setLatch t l).port = b.port := rfl

/-! ### setCoils -/

@[simp] theorem Blocks.setCoils_field (b : Blocks) (br : Breaker) (c : CoilLines) :
    (b.setCoils br c).field = { b.field with coils := b.field.coils.set br c } := rfl
@[simp] theorem Blocks.setCoils_bus (b : Blocks) (br : Breaker) (c : CoilLines) : (b.setCoils br c).bus = b.bus := rfl
@[simp] theorem Blocks.setCoils_peers (b : Blocks) (br : Breaker) (c : CoilLines) : (b.setCoils br c).peers = b.peers := rfl
@[simp] theorem Blocks.setCoils_timetable (b : Blocks) (br : Breaker) (c : CoilLines) :
    (b.setCoils br c).timetable = b.timetable := rfl
@[simp] theorem Blocks.setCoils_describer (b : Blocks) (br : Breaker) (c : CoilLines) :
    (b.setCoils br c).describer = b.describer := rfl
@[simp] theorem Blocks.setCoils_platforms (b : Blocks) (br : Breaker) (c : CoilLines) :
    (b.setCoils br c).platforms = b.platforms := rfl
@[simp] theorem Blocks.setCoils_power (b : Blocks) (br : Breaker) (c : CoilLines) : (b.setCoils br c).power = b.power := rfl
@[simp] theorem Blocks.setCoils_incidents (b : Blocks) (br : Breaker) (c : CoilLines) :
    (b.setCoils br c).incidents = b.incidents := rfl
@[simp] theorem Blocks.setCoils_store (b : Blocks) (br : Breaker) (c : CoilLines) : (b.setCoils br c).store = b.store := rfl
@[simp] theorem Blocks.setCoils_announce (b : Blocks) (br : Breaker) (c : CoilLines) :
    (b.setCoils br c).announce = b.announce := rfl
@[simp] theorem Blocks.setCoils_port (b : Blocks) (br : Breaker) (c : CoilLines) : (b.setCoils br c).port = b.port := rfl

/-! ### setStarter -/

@[simp] theorem Blocks.setStarter_field (b : Blocks) (t : Track) (v : Bool) :
    (b.setStarter t v).field = { b.field with starters := b.field.starters.set t v } := rfl
@[simp] theorem Blocks.setStarter_bus (b : Blocks) (t : Track) (v : Bool) : (b.setStarter t v).bus = b.bus := rfl
@[simp] theorem Blocks.setStarter_peers (b : Blocks) (t : Track) (v : Bool) : (b.setStarter t v).peers = b.peers := rfl
@[simp] theorem Blocks.setStarter_timetable (b : Blocks) (t : Track) (v : Bool) :
    (b.setStarter t v).timetable = b.timetable := rfl
@[simp] theorem Blocks.setStarter_describer (b : Blocks) (t : Track) (v : Bool) :
    (b.setStarter t v).describer = b.describer := rfl
@[simp] theorem Blocks.setStarter_platforms (b : Blocks) (t : Track) (v : Bool) :
    (b.setStarter t v).platforms = b.platforms := rfl
@[simp] theorem Blocks.setStarter_power (b : Blocks) (t : Track) (v : Bool) : (b.setStarter t v).power = b.power := rfl
@[simp] theorem Blocks.setStarter_incidents (b : Blocks) (t : Track) (v : Bool) :
    (b.setStarter t v).incidents = b.incidents := rfl
@[simp] theorem Blocks.setStarter_store (b : Blocks) (t : Track) (v : Bool) : (b.setStarter t v).store = b.store := rfl
@[simp] theorem Blocks.setStarter_announce (b : Blocks) (t : Track) (v : Bool) : (b.setStarter t v).announce = b.announce := rfl
@[simp] theorem Blocks.setStarter_port (b : Blocks) (t : Track) (v : Bool) : (b.setStarter t v).port = b.port := rfl

/-! ### setSequence -/

@[simp] theorem Blocks.setSequence_field (b : Blocks) (t : Track) (l : List Entry) : (b.setSequence t l).field = b.field := rfl
@[simp] theorem Blocks.setSequence_bus (b : Blocks) (t : Track) (l : List Entry) : (b.setSequence t l).bus = b.bus := rfl
@[simp] theorem Blocks.setSequence_peers (b : Blocks) (t : Track) (l : List Entry) : (b.setSequence t l).peers = b.peers := rfl
@[simp] theorem Blocks.setSequence_timetable (b : Blocks) (t : Track) (l : List Entry) :
    (b.setSequence t l).timetable = { b.timetable with sequences := b.timetable.sequences.set t l } := rfl
@[simp] theorem Blocks.setSequence_describer (b : Blocks) (t : Track) (l : List Entry) :
    (b.setSequence t l).describer = b.describer := rfl
@[simp] theorem Blocks.setSequence_platforms (b : Blocks) (t : Track) (l : List Entry) :
    (b.setSequence t l).platforms = b.platforms := rfl
@[simp] theorem Blocks.setSequence_power (b : Blocks) (t : Track) (l : List Entry) : (b.setSequence t l).power = b.power := rfl
@[simp] theorem Blocks.setSequence_incidents (b : Blocks) (t : Track) (l : List Entry) :
    (b.setSequence t l).incidents = b.incidents := rfl
@[simp] theorem Blocks.setSequence_store (b : Blocks) (t : Track) (l : List Entry) : (b.setSequence t l).store = b.store := rfl
@[simp] theorem Blocks.setSequence_announce (b : Blocks) (t : Track) (l : List Entry) :
    (b.setSequence t l).announce = b.announce := rfl
@[simp] theorem Blocks.setSequence_port (b : Blocks) (t : Track) (l : List Entry) : (b.setSequence t l).port = b.port := rfl

/-! ### setQueue -/

@[simp] theorem Blocks.setQueue_field (b : Blocks) (z : Zone) (l : List Chain) : (b.setQueue z l).field = b.field := rfl
@[simp] theorem Blocks.setQueue_bus (b : Blocks) (z : Zone) (l : List Chain) : (b.setQueue z l).bus = b.bus := rfl
@[simp] theorem Blocks.setQueue_peers (b : Blocks) (z : Zone) (l : List Chain) : (b.setQueue z l).peers = b.peers := rfl
@[simp] theorem Blocks.setQueue_timetable (b : Blocks) (z : Zone) (l : List Chain) :
    (b.setQueue z l).timetable = b.timetable := rfl
@[simp] theorem Blocks.setQueue_describer (b : Blocks) (z : Zone) (l : List Chain) :
    (b.setQueue z l).describer = b.describer := rfl
@[simp] theorem Blocks.setQueue_platforms (b : Blocks) (z : Zone) (l : List Chain) :
    (b.setQueue z l).platforms = b.platforms := rfl
@[simp] theorem Blocks.setQueue_power (b : Blocks) (z : Zone) (l : List Chain) : (b.setQueue z l).power = b.power := rfl
@[simp] theorem Blocks.setQueue_incidents (b : Blocks) (z : Zone) (l : List Chain) :
    (b.setQueue z l).incidents = b.incidents := rfl
@[simp] theorem Blocks.setQueue_store (b : Blocks) (z : Zone) (l : List Chain) : (b.setQueue z l).store = b.store := rfl
@[simp] theorem Blocks.setQueue_announce (b : Blocks) (z : Zone) (l : List Chain) :
    (b.setQueue z l).announce = { b.announce with queues := b.announce.queues.set z l } := rfl
@[simp] theorem Blocks.setQueue_port (b : Blocks) (z : Zone) (l : List Chain) : (b.setQueue z l).port = b.port := rfl

/-! ### setChannel -/

@[simp] theorem Blocks.setChannel_field (b : Blocks) (i : Nat) (c : Channel) : (b.setChannel i c).field = b.field := rfl
@[simp] theorem Blocks.setChannel_bus (b : Blocks) (i : Nat) (c : Channel) : (b.setChannel i c).bus = b.bus := rfl
@[simp] theorem Blocks.setChannel_peers (b : Blocks) (i : Nat) (c : Channel) : (b.setChannel i c).peers = b.peers := rfl
@[simp] theorem Blocks.setChannel_timetable (b : Blocks) (i : Nat) (c : Channel) :
    (b.setChannel i c).timetable = b.timetable := rfl
@[simp] theorem Blocks.setChannel_describer (b : Blocks) (i : Nat) (c : Channel) :
    (b.setChannel i c).describer = b.describer := rfl
@[simp] theorem Blocks.setChannel_platforms (b : Blocks) (i : Nat) (c : Channel) :
    (b.setChannel i c).platforms = b.platforms := rfl
@[simp] theorem Blocks.setChannel_power (b : Blocks) (i : Nat) (c : Channel) : (b.setChannel i c).power = b.power := rfl
@[simp] theorem Blocks.setChannel_incidents (b : Blocks) (i : Nat) (c : Channel) :
    (b.setChannel i c).incidents = b.incidents := rfl
@[simp] theorem Blocks.setChannel_store (b : Blocks) (i : Nat) (c : Channel) : (b.setChannel i c).store = b.store := rfl
@[simp] theorem Blocks.setChannel_announce (b : Blocks) (i : Nat) (c : Channel) :
    (b.setChannel i c).announce = { b.announce with channels := modifyAt b.announce.channels (i - 1) fun _ => c } := rfl
@[simp] theorem Blocks.setChannel_port (b : Blocks) (i : Nat) (c : Channel) : (b.setChannel i c).port = b.port := rfl

/-! ### setRecords -/

@[simp] theorem Blocks.setRecords_field (b : Blocks) (l : List Incident) : (b.setRecords l).field = b.field := rfl
@[simp] theorem Blocks.setRecords_bus (b : Blocks) (l : List Incident) : (b.setRecords l).bus = b.bus := rfl
@[simp] theorem Blocks.setRecords_peers (b : Blocks) (l : List Incident) : (b.setRecords l).peers = b.peers := rfl
@[simp] theorem Blocks.setRecords_timetable (b : Blocks) (l : List Incident) : (b.setRecords l).timetable = b.timetable := rfl
@[simp] theorem Blocks.setRecords_describer (b : Blocks) (l : List Incident) : (b.setRecords l).describer = b.describer := rfl
@[simp] theorem Blocks.setRecords_platforms (b : Blocks) (l : List Incident) : (b.setRecords l).platforms = b.platforms := rfl
@[simp] theorem Blocks.setRecords_power (b : Blocks) (l : List Incident) : (b.setRecords l).power = b.power := rfl
@[simp] theorem Blocks.setRecords_incidents (b : Blocks) (l : List Incident) :
    (b.setRecords l).incidents = { b.incidents with records := l } := rfl
@[simp] theorem Blocks.setRecords_store (b : Blocks) (l : List Incident) : (b.setRecords l).store = b.store := rfl
@[simp] theorem Blocks.setRecords_announce (b : Blocks) (l : List Incident) : (b.setRecords l).announce = b.announce := rfl
@[simp] theorem Blocks.setRecords_port (b : Blocks) (l : List Incident) : (b.setRecords l).port = b.port := rfl

/-! ### modifyRecord -/

@[simp] theorem Blocks.modifyRecord_field (b : Blocks) (id : IncidentId) (f : Incident → Incident) :
    (b.modifyRecord id f).field = b.field := rfl
@[simp] theorem Blocks.modifyRecord_bus (b : Blocks) (id : IncidentId) (f : Incident → Incident) :
    (b.modifyRecord id f).bus = b.bus := rfl
@[simp] theorem Blocks.modifyRecord_peers (b : Blocks) (id : IncidentId) (f : Incident → Incident) :
    (b.modifyRecord id f).peers = b.peers := rfl
@[simp] theorem Blocks.modifyRecord_timetable (b : Blocks) (id : IncidentId) (f : Incident → Incident) :
    (b.modifyRecord id f).timetable = b.timetable := rfl
@[simp] theorem Blocks.modifyRecord_describer (b : Blocks) (id : IncidentId) (f : Incident → Incident) :
    (b.modifyRecord id f).describer = b.describer := rfl
@[simp] theorem Blocks.modifyRecord_platforms (b : Blocks) (id : IncidentId) (f : Incident → Incident) :
    (b.modifyRecord id f).platforms = b.platforms := rfl
@[simp] theorem Blocks.modifyRecord_power (b : Blocks) (id : IncidentId) (f : Incident → Incident) :
    (b.modifyRecord id f).power = b.power := rfl
@[simp] theorem Blocks.modifyRecord_incidents (b : Blocks) (id : IncidentId) (f : Incident → Incident) :
    (b.modifyRecord id f).incidents = { b.incidents with records := b.incidents.records.map fun r => if r.id = id then f r else r } := rfl
@[simp] theorem Blocks.modifyRecord_store (b : Blocks) (id : IncidentId) (f : Incident → Incident) :
    (b.modifyRecord id f).store = b.store := rfl
@[simp] theorem Blocks.modifyRecord_announce (b : Blocks) (id : IncidentId) (f : Incident → Incident) :
    (b.modifyRecord id f).announce = b.announce := rfl
@[simp] theorem Blocks.modifyRecord_port (b : Blocks) (id : IncidentId) (f : Incident → Incident) :
    (b.modifyRecord id f).port = b.port := rfl

/-! ### setBreaker -/

@[simp] theorem Blocks.setBreaker_field (b : Blocks) (br : Breaker) (r : BreakerRecord) : (b.setBreaker br r).field = b.field := by
  unfold Blocks.setBreaker; split <;> rfl
@[simp] theorem Blocks.setBreaker_bus (b : Blocks) (br : Breaker) (r : BreakerRecord) : (b.setBreaker br r).bus = b.bus := by
  unfold Blocks.setBreaker; split <;> rfl
@[simp] theorem Blocks.setBreaker_peers (b : Blocks) (br : Breaker) (r : BreakerRecord) : (b.setBreaker br r).peers = b.peers := by
  unfold Blocks.setBreaker; split <;> rfl
@[simp] theorem Blocks.setBreaker_timetable (b : Blocks) (br : Breaker) (r : BreakerRecord) : (b.setBreaker br r).timetable = b.timetable := by
  unfold Blocks.setBreaker; split <;> rfl
@[simp] theorem Blocks.setBreaker_describer (b : Blocks) (br : Breaker) (r : BreakerRecord) : (b.setBreaker br r).describer = b.describer := by
  unfold Blocks.setBreaker; split <;> rfl
@[simp] theorem Blocks.setBreaker_platforms (b : Blocks) (br : Breaker) (r : BreakerRecord) : (b.setBreaker br r).platforms = b.platforms := by
  unfold Blocks.setBreaker; split <;> rfl
@[simp] theorem Blocks.setBreaker_incidents (b : Blocks) (br : Breaker) (r : BreakerRecord) : (b.setBreaker br r).incidents = b.incidents := by
  unfold Blocks.setBreaker; split <;> rfl
@[simp] theorem Blocks.setBreaker_store (b : Blocks) (br : Breaker) (r : BreakerRecord) : (b.setBreaker br r).store = b.store := by
  unfold Blocks.setBreaker; split <;> rfl
@[simp] theorem Blocks.setBreaker_announce (b : Blocks) (br : Breaker) (r : BreakerRecord) : (b.setBreaker br r).announce = b.announce := by
  unfold Blocks.setBreaker; split <;> rfl
@[simp] theorem Blocks.setBreaker_port (b : Blocks) (br : Breaker) (r : BreakerRecord) : (b.setBreaker br r).port = b.port := by
  unfold Blocks.setBreaker; split <;> rfl

/-- A breaker's record after a record has been written: only a present breaker takes it. -/
theorem Blocks.setBreaker_breakers (b : Blocks) (br x : Breaker) (r : BreakerRecord) :
    (b.setBreaker br r).power.breakers.get x =
      if x = br ∧ (b.power.breakers.get br).isSome then some r else b.power.breakers.get x := by
  unfold Blocks.setBreaker
  split <;> rename_i h <;> simp [h]

@[simp] theorem Blocks.setBreaker_latches (b : Blocks) (br : Breaker) (r : BreakerRecord) :
    (b.setBreaker br r).power.latches = b.power.latches := by unfold Blocks.setBreaker; split <;> rfl
@[simp] theorem Blocks.setBreaker_keyLocal (b : Blocks) (br : Breaker) (r : BreakerRecord) :
    (b.setBreaker br r).power.keyLocal = b.power.keyLocal := by unfold Blocks.setBreaker; split <;> rfl

end Sys2Proof.Machine
end

