-- ==== Sys2Proof/Laws/Ops.lean ====
section
/-! SUPPORT. What each shared operation does, said once: reports, answers, frames, breaker records and requests. -/

namespace Sys2Proof.Machine

/-! ### Reports touch the port alone (R215) -/

theorem queueReport_eq (e : Env) (b : Blocks) (body : ReportBody) :
    queueReport e b body = b.setPort ((divide body e.now).foldl Port.pushReport b.port) := rfl

@[simp] theorem queueReport_field (e : Env) (b : Blocks) (r : ReportBody) : (queueReport e b r).field = b.field := rfl
@[simp] theorem queueReport_bus (e : Env) (b : Blocks) (r : ReportBody) : (queueReport e b r).bus = b.bus := rfl
@[simp] theorem queueReport_peers (e : Env) (b : Blocks) (r : ReportBody) : (queueReport e b r).peers = b.peers := rfl
@[simp] theorem queueReport_timetable (e : Env) (b : Blocks) (r : ReportBody) : (queueReport e b r).timetable = b.timetable := rfl
@[simp] theorem queueReport_describer (e : Env) (b : Blocks) (r : ReportBody) : (queueReport e b r).describer = b.describer := rfl
@[simp] theorem queueReport_platforms (e : Env) (b : Blocks) (r : ReportBody) : (queueReport e b r).platforms = b.platforms := rfl
@[simp] theorem queueReport_power (e : Env) (b : Blocks) (r : ReportBody) : (queueReport e b r).power = b.power := rfl
@[simp] theorem queueReport_incidents (e : Env) (b : Blocks) (r : ReportBody) : (queueReport e b r).incidents = b.incidents := rfl
@[simp] theorem queueReport_store (e : Env) (b : Blocks) (r : ReportBody) : (queueReport e b r).store = b.store := rfl
@[simp] theorem queueReport_announce (e : Env) (b : Blocks) (r : ReportBody) : (queueReport e b r).announce = b.announce := rfl

/-- A report while a frame is being sent joins the queue, which gives up its oldest when it is full (R214, R215). -/
theorem Port.pushReport_busy (p : Port) (r : Report) (h : p.tx.isSome) :
    p.pushReport r =
      if p.reports.length < Config.reportMax then { p with reports := p.reports ++ [r] }
      else { p with
        reports := p.reports.tail ++ [r]
        discard := countUp Config.discardMax p.discard
        reportsDiscarded := countUp Config.counterMax p.reportsDiscarded } := by
  obtain ⟨x, hx⟩ := Option.isSome_iff_exists.1 h
  simp [Port.pushReport, hx]

theorem Port.pushReport_idle (p : Port) (r : Report) (h : p.tx = none) : p.pushReport r = p.takeReport r := by
  simp [Port.pushReport, h]

theorem Port.pushAnswer_idle (p : Port) (f : AnswerFrame) (h : p.tx = none) : p.pushAnswer f = { p with tx := some (.answer f) } := by
  simp [Port.pushAnswer, h]

theorem Port.pushAnswer_busy (p : Port) (f : AnswerFrame) (h : p.tx.isSome) :
    p.pushAnswer f = { p with answers := p.answers ++ [f] } := by
  obtain ⟨x, hx⟩ := Option.isSome_iff_exists.1 h
  simp [Port.pushAnswer, hx]

/-! ### Frames in the outbound queue (R39) -/

/-- The place of a frame: behind every frame of its rank or lower. -/
theorem insertFrame_eq (f : Frame) (l : List Frame) :
    insertFrame f l = l.takeWhile (fun g => g.cls.rank ≤ f.cls.rank) ++ f :: l.dropWhile (fun g => g.cls.rank ≤ f.cls.rank) := by
  induction l with
  | nil => rfl
  | cons g l ih =>
    by_cases h : f.cls.rank < g.cls.rank
    · simp [insertFrame, h, List.takeWhile, List.dropWhile, Nat.not_le.2 h]
    · simp [insertFrame, h, List.takeWhile, List.dropWhile, Nat.not_lt.1 h, ih]

theorem insertFrame_length (f : Frame) (l : List Frame) : (insertFrame f l).length = l.length + 1 := by
  induction l with
  | nil => rfl
  | cons g l ih => unfold insertFrame; split <;> simp [ih]

theorem Transmitter.wake_eq (t : Transmitter) : t.wake = if t = .idle then .waiting else t := by cases t <;> simp [Transmitter.wake]

/-! ### Breaker records (R116) -/

theorem setBreaker_eq (b : Blocks) (br : Breaker) (r x : BreakerRecord) (h : b.power.breakers.get br = some r) :
    b.setBreaker br x = b.setPower { b.power with breakers := b.power.breakers.set br (some x) } := by
  simp [Blocks.setBreaker, h]

theorem setBreaker_get (b : Blocks) (br : Breaker) (r x : BreakerRecord) (h : b.power.breakers.get br = some r) :
    (b.setBreaker br x).power.breakers.get br = some x := by
  simp [setBreaker_eq b br r x h]

theorem setBreaker_twice (b : Blocks) (br : Breaker) (r x y : BreakerRecord) (h : b.power.breakers.get br = some r) :
    (b.setBreaker br x).setBreaker br y = b.setBreaker br y := by
  rw [setBreaker_eq b br r x h, setBreaker_eq b br r y h, setBreaker_eq _ br x y (by simp)]
  cases br <;> rfl

theorem modifyBreaker_eq (b : Blocks) (br : Breaker) (r : BreakerRecord) (f : BreakerRecord → BreakerRecord)
    (h : b.power.breakers.get br = some r) : modifyBreaker b br f = b.setBreaker br (f r) := by
  simp [modifyBreaker, h]

/-! ### Requests (R211, R212) -/

/-- A request that is taken and whose shape and node state are good answers what its owner answers. -/
theorem request_owner (e : Env) (b : Blocks) (ch : PortChannel) (kind : Nat) (tag : Byte) (p : List Byte) (shape : Bool) (a : Allowed)
    (owner : Node → Node × Reply) (ht : takes b ch kind tag p) (hs : shape = true) (ha : a.permits e.nodeState = true) :
    request ⟨e, b⟩ ch kind tag p shape a owner = queueAnswer (owner ⟨e, received b⟩).1 ch tag (owner ⟨e, received b⟩).2 := by
  obtain ⟨h1, h2⟩ := ht
  have h3 : (received b).port.answersFull = false := by
    have : (received b).port.answers = b.port.answers := rfl
    simp only [Port.answersFull, this, decide_eq_false_iff_not]; omega
  unfold request
  rw [if_pos h1]
  simp only [received] at h3
  simp only [h3]
  simp [dispatch, hs, ha, received]

/-- The same for an owner that acts on the blocks and answers a status. -/
theorem request_plain (e : Env) (b : Blocks) (q : List Instr) (ch : PortChannel) (kind : Nat) (tag : Byte) (p : List Byte)
    (shape : Bool) (a : Allowed) (f : Env → Blocks → Blocks × Status) (ht : takes b ch kind tag p) (hs : shape = true)
    (ha : a.permits e.nodeState = true) :
    (⟨request ⟨e, b⟩ ch kind tag p shape a (plainOwner f), q⟩ : State) =
      answered e (f e (received b)).1 q ch tag [char (f e (received b)).2.code] := by
  rw [request_owner e b ch kind tag p shape a _ ht hs ha]; rfl

/-- The same for an owner that answers result fields too. -/
theorem request_fields (e : Env) (b : Blocks) (q : List Instr) (ch : PortChannel) (kind : Nat) (tag : Byte) (p : List Byte)
    (shape : Bool) (a : Allowed) (f : Env → Blocks → Blocks × Reply) (ht : takes b ch kind tag p) (hs : shape = true)
    (ha : a.permits e.nodeState = true) :
    (⟨request ⟨e, b⟩ ch kind tag p shape a (fieldOwner f), q⟩ : State) =
      answered e (f e (received b)).1 q ch tag (char (f e (received b)).2.status.code :: (f e (received b)).2.fields) := by
  rw [request_owner e b ch kind tag p shape a _ ht hs ha]; rfl

/-! ### Accepted changes (R16 to R19) -/

@[simp] theorem setWaiting_field (b : Blocks) (w : Deliveries) : (setWaiting b w).field = { b.field with waiting := w } := rfl
@[simp] theorem setWaiting_bus (b : Blocks) (w : Deliveries) : (setWaiting b w).bus = b.bus := rfl
@[simp] theorem setWaiting_peers (b : Blocks) (w : Deliveries) : (setWaiting b w).peers = b.peers := rfl
@[simp] theorem setWaiting_timetable (b : Blocks) (w : Deliveries) : (setWaiting b w).timetable = b.timetable := rfl
@[simp] theorem setWaiting_describer (b : Blocks) (w : Deliveries) : (setWaiting b w).describer = b.describer := rfl
@[simp] theorem setWaiting_platforms (b : Blocks) (w : Deliveries) : (setWaiting b w).platforms = b.platforms := rfl
@[simp] theorem setWaiting_power (b : Blocks) (w : Deliveries) : (setWaiting b w).power = b.power := rfl
@[simp] theorem setWaiting_incidents (b : Blocks) (w : Deliveries) : (setWaiting b w).incidents = b.incidents := rfl
@[simp] theorem setWaiting_store (b : Blocks) (w : Deliveries) : (setWaiting b w).store = b.store := rfl
@[simp] theorem setWaiting_announce (b : Blocks) (w : Deliveries) : (setWaiting b w).announce = b.announce := rfl
@[simp] theorem setWaiting_port (b : Blocks) (w : Deliveries) : (setWaiting b w).port = b.port := rfl

theorem sentOccupancy_eq (b : Blocks) (t : Track) :
    sentOccupancy b t = setWaiting b { b.field.waiting with occupancy := b.field.waiting.occupancy.set t none } := rfl
theorem sentPlunger_eq (b : Blocks) (t : Track) :
    sentPlunger b t = setWaiting b { b.field.waiting with plunger := b.field.waiting.plunger.set t none } := rfl
theorem sentStatus_eq (b : Blocks) (br : Breaker) :
    sentStatus b br = setWaiting b { b.field.waiting with status := b.field.waiting.status.set br none } := rfl
theorem sentKey_eq (b : Blocks) : sentKey b = setWaiting b { b.field.waiting with key := none } := rfl

/-- All that one sample can do at a filter: it accepts the candidate, or leaves the run that it makes (R16, R17). -/
theorem FilterRecord.sample_cases (f : Nat) (r : FilterRecord) (level : Bool) :
    (∃ c, (r.follow level).candidate = some c ∧ f ≤ (r.follow level).run ∧ r.sample f level = (.at_ c, some c))
      ∨ r.sample f level = (r.follow level, none) := by
  unfold FilterRecord.sample
  cases h : (r.follow level).candidate with
  | none => exact .inr (by simp [h])
  | some c =>
    by_cases hf : f ≤ (r.follow level).run
    · exact .inl ⟨c, rfl, hf, by simp [h, hf]⟩
    · exact .inr (by simp [h, hf])

/-! ### A source that is heard (R51, R52) -/

/-- A source whose silence has reached no limit is heard and nothing more. -/
theorem hearFrom_quiet (e : Env) (b : Blocks) (source : Nat)
    (hc : (b.peers.entry source).liveness = .current → (b.peers.entry source).silence < Config.staleAt)
    (hs : (b.peers.entry source).liveness = .stale → (b.peers.entry source).silence < Config.lostAt) :
    hearFrom e b source = hear e b source := by
  have h1 : staleStep e b source = b := by
    unfold staleStep; exact if_neg fun ⟨hl, hn⟩ => absurd (hc hl) (Nat.not_lt.2 hn)
  have h2 : lostStep e b source = b := by
    unfold lostStep; exact if_neg fun ⟨hl, hn⟩ => absurd (hs hl) (Nat.not_lt.2 hn)
  unfold hearFrom; rw [h1, h2]

/-! ### LBDE (R27) -/

/-- LBDE is ACTIVE through an attempt and at no other time. -/
theorem Linebus.driveEnable_iff (l : Linebus) : l.driveEnable = true ↔ ∃ h, l.tx = .sending h := by
  unfold Linebus.driveEnable; cases l.tx <;> simp

/-! ### Idle line (R27, R44) -/

/-- What 20 idle bit times do to an assembly. -/
theorem noteIdle_clear (e : Env) (b : Blocks) (h : ∀ taken, b.bus.rx ≠ .frame taken) : noteIdle e b = setRx b .seek := by
  unfold noteIdle
  cases hr : b.bus.rx with
  | skip => rfl
  | seek => simp only [setRx, ← hr]; rfl
  | frame taken => exact absurd hr (h taken)

theorem noteIdle_frame (e : Env) (b : Blocks) (taken : List Byte) (h : b.bus.rx = .frame taken) :
    noteIdle e b = countTruncated e (setRx b .seek) := by
  simp [noteIdle, h]

@[simp] theorem noteError_idleCount (e : Env) (b : Blocks) : (noteError e b).bus.idleCount = b.bus.idleCount := by
  unfold noteError; split <;> rfl

@[simp] theorem noteIdle_idleCount (e : Env) (b : Blocks) : (noteIdle e b).bus.idleCount = b.bus.idleCount := by
  unfold noteIdle; split <;> simp [countTruncated, setRx]

/-- The idle count held rises by the bit times that have passed. -/
@[simp] theorem stayIdle_idleCount (e : Env) (b : Blocks) (n : Nat) : (stayIdle e b n).bus.idleCount = b.bus.idleCount + n := by
  unfold stayIdle; dsimp only; split <;> simp [setIdle]

/-! ### The receive assembly (R44) -/

theorem takeChars_nil (e : Env) (b : Blocks) : takeChars e b [] = b := rfl
theorem takeChars_cons (e : Env) (b : Blocks) (c : Byte) (l : List Byte) : takeChars e b (c :: l) = takeChars e (takeChar e b c) l := rfl

theorem takeChar_skip (e : Env) (b : Blocks) (c : Byte) (h : b.bus.rx = .skip) : takeChar e b c = setIdle b 0 := by
  simp [takeChar, setIdle, h]

theorem takeChar_seek (e : Env) (b : Blocks) (c : Byte) (h : b.bus.rx = .seek) :
    takeChar e b c = setRx (setIdle b 0) (if c = Config.busSync then .frame [c] else .skip) := by
  simp only [takeChar, setIdle, Blocks.setBus, h]; split <;> rfl

theorem takeChar_frame (e : Env) (b : Blocks) (c : Byte) (taken : List Byte) (h : b.bus.rx = .frame taken) :
    takeChar e b c = takeInFrame e (setIdle b 0) (taken ++ [c]) := by
  simp [takeChar, setIdle, h]

/-! ### Frames that arrive (R44 to R46) -/

/-- With no accepted change waiting, delivering them all changes nothing (R19). -/
theorem deliverAll_of_none_waiting (e : Env) (b : Blocks) (h : b.field.waiting = .empty) : deliverAll e b = b := by
  have hr : ∀ t, occupancyRise e b t = b := by rintro (_ | _) <;> simp [occupancyRise, h, Deliveries.empty, PerTrack.get]
  have hf : ∀ t, occupancyFall e b t = b := by rintro (_ | _) <;> simp [occupancyFall, h, Deliveries.empty, PerTrack.get]
  have pr : ∀ t, plungerRise e b t = b := by rintro (_ | _) <;> simp [plungerRise, h, Deliveries.empty, PerTrack.get]
  have pf : ∀ t, plungerFall e b t = b := by rintro (_ | _) <;> simp [plungerFall, h, Deliveries.empty, PerTrack.get]
  have ho : ∀ t, deliverOccupancy e b t = b := by intro t; simp [deliverOccupancy, hr, hf]
  have hp : ∀ t, deliverPlunger e b t = b := by intro t; simp [deliverPlunger, pr, pf]
  have hs : ∀ br, deliverStatus e b br = b := by
    rintro (_ | _ | _ | _) <;> simp [deliverStatus, h, Deliveries.empty, PerBreaker.get]
  simp [deliverAll, allTracks, allBreakers, ho, hp, hs, deliverKey, h, Deliveries.empty]

@[simp] theorem Node.delivered_env (n : Node) : n.delivered.env = n.env := rfl
@[simp] theorem Node.delivered_blk (n : Node) : n.delivered.blk = deliverAll n.env n.blk := rfl

/-- A valid frame of another node is counted and delivered. -/
theorem receiveFrame_foreign (e : Env) (b : Blocks) (source : Byte) (p : List Byte) (f : Frame) (h : arrives e b source p f)
    (hs : source.toNat ≠ e.nodeNumber) : receiveFrame e b source f.cls p = deliver e (counted b) source.toNat f := by
  obtain ⟨h1, h2, h3⟩ := h
  unfold receiveFrame
  rw [if_pos h1]
  simp only [Nat.not_lt.2 h2, if_false, judgeContent, h3, hs, counted]

end Sys2Proof.Machine
end

