-- ==== Sys2Proof/WellFormed.lean ====
section
/-! DEFINITION. Which commands the part can be given: operands within the ranges that the rules give them. -/

namespace Sys2Proof

/-- A section of the longest line (R2). -/
def TractionSection.wellFormed (sec : TractionSection) : Bool := decide (sec.gap + 2 ≤ Config.provisionalNodeCount)

/-- An id: an origin of the longest line and a serial of 1 to 255 (R145). -/
def IncidentId.wellFormed (id : IncidentId) : Bool :=
  decide (id.origin < Config.provisionalNodeCount) && decide (1 ≤ id.serial ∧ id.serial ≤ 255)

/-- A linebus payload is at most 48 characters (R28). -/
def framePayload (payload : List Byte) : Bool := decide (payload.length ≤ Config.busPayloadMax)

/-- A port payload is at most 96 characters (R207). -/
def requestPayload (payload : List Byte) : Bool := decide (payload.length ≤ Config.portPayloadMax)

/-- An AMEND names its kind in its first character (R69, R211). -/
def amendOf (kind : Byte) (payload : List Byte) : Bool := decide (payload.head? = some kind)

/-- Whether a command's operands lie in their ranges. -/
def Instr.wellFormed : Instr → Bool
  | .powerOnReset _ => true
  | .clockPulse _ => true
  | .pulseTimeout => true
  | .oscillatorAdvance => true
  | .occupancyRise _ => true
  | .departure _ => true
  | .plungerPress _ => true
  | .plungerRelease _ => true
  | .breakerSettlement _ _ => true
  | .breakerStatusChange _ _ => true
  | .localKeyChange _ => true
  | .pulseEnd _ => true
  | .thirdAdvanceOpen _ => true
  | .breakerTimeLimit _ => true
  | .isolateRepeat id sec => id.wellFormed && sec.wellFormed
  | .restoreWaitTimeout _ => true
  | .attemptBegin _ => true
  | .backoffRetry _ => true
  | .collision _ _ => true
  | .frameSent => true
  | .statusPoint => true
  | .lineIdle _ idle => decide (Config.idleBits ≤ idle)
  | .linebusCharacterError _ => true
  | .linebusLengthError _ _ len => decide (Config.busPayloadMax < len.toNat)
  | .linebusFrameDiscarded _ _ payload _ => decide (payload.length ≤ Config.busPayloadMax)
  | .frameErrorReport => true
  | .statusFrame _ payload => framePayload payload
  | .powerFrame _ payload => framePayload payload
  | .isolateFrame _ payload => framePayload payload
  | .restoreFrame _ payload => framePayload payload
  | .incidentFrame _ payload => framePayload payload
  | .departFrame _ payload => framePayload payload
  | .announceFrame _ payload => framePayload payload
  | .peerStale node => decide (node < Config.provisionalNodeCount)
  | .peerLost node => decide (node < Config.provisionalNodeCount)
  | .lapse node => decide (node < Config.provisionalNodeCount)
  | .overdueInstant _ => true
  | .dwellTargetReached _ => true
  | .staggerTimeReached _ => true
  | .graceExpiry _ => true
  | .wmaxReached _ => true
  | .refresh id => id.wellFormed
  | .localAgeClose id => id.wellFormed
  | .copyDrop id => id.wellFormed
  | .notBeforeReached message => decide (1 ≤ message ∧ message ≤ 65535)
  | .messageExpiry message => decide (1 ≤ message ∧ message ≤ 65535)
  | .playDeadline channel => decide (1 ≤ channel ∧ channel ≤ 3)
  | .stopTimeout channel => decide (1 ≤ channel ∧ channel ≤ 3)
  | .portFrameGap _ quietUs => decide (Config.frameGapUs ≤ quietUs)
  | .portCharacterError _ => true
  | .portLengthError len => decide (Config.portPayloadMax < len.toNat)
  | .nak _ _ _ payload _ => decide (payload.length ≤ Config.portPayloadMax)
  | .portFrameEnd => true
  | .configure _ payload => requestPayload payload
  | .dayStart _ payload => requestPayload payload
  | .dayEnd _ payload => requestPayload payload
  | .serviceReset _ payload => requestPayload payload
  | .readStatus _ payload => requestPayload payload
  | .alarmAck _ payload => requestPayload payload
  | .timetablePart _ payload => requestPayload payload
  | .amendChange _ payload => requestPayload payload && amendOf 0 payload
  | .amendCancel _ payload => requestPayload payload && amendOf 1 payload
  | .amendInsert _ payload => requestPayload payload && amendOf 2 payload
  | .inject _ payload => requestPayload payload
  | .flush _ payload => requestPayload payload
  | .hold _ payload => requestPayload payload
  | .unhold _ payload => requestPayload payload
  | .release _ payload => requestPayload payload
  | .readPlatform _ payload => requestPayload payload
  | .isolate _ payload => requestPayload payload
  | .restore _ payload => requestPayload payload
  | .readPower _ payload => requestPayload payload
  | .raise _ payload => requestPayload payload
  | .acknowledge _ payload => requestPayload payload
  | .close _ payload => requestPayload payload
  | .adopt _ payload => requestPayload payload
  | .change _ payload => requestPayload payload
  | .readIncidents _ payload => requestPayload payload
  | .announce _ payload => requestPayload payload
  | .withdraw _ payload => requestPayload payload
  | .audioDone _ payload => requestPayload payload
  | .audioFailed _ payload => requestPayload payload
  | .audioStopped _ payload => requestPayload payload
  | .audioReset _ payload => requestPayload payload
  | .samplingPoint _ => true
  | .linebusOtherCharacter char => decide (char ≠ some Config.busSync)

end Sys2Proof
end

