-- ==== Sys2Proof/Tests/Slice0.lean ====
section
/-! SUPPORT. Tests on fixed values: operands that are refused, the manual's worked examples and tables, and for every statement
with hypotheses a state and operands that meet them. Expected values come from spec/, cited at each test. -/

namespace Sys2Proof.Tests

open Sys2Proof Sys2Proof.Machine

/-! ### A node to test with: node 14 of a line of 32 -/

def plat : PlatformConfig :=
  { wmin := 200, wmax := 900, rup := 900, gain := 5, stagger := 60, ldelay := 600, stallMargin := 300, hdefault := 1200 }

def cfg : NodeConfig :=
  { nodeCount := 32, timeLimit := 30, occupancyFilter := 4, channelCount := 2, platforms := ⟨plat, plat⟩
    templates := { approach := [1], delay := [2], suspend := [3], evacuate := [4], stalled := [5], held := [6] }, numberBase := 3000 }

/-- The environment in a node state at a service time. -/
def env (st : NodeState) (now : Nat) : Env :=
  { nodeNumber := 14, config := some cfg, nodeState := st
    time := { service := now, day := 1, mode := .pulsed, run := 0, overrun := false } }

/-- The blocks of a quiet node: both receivers ready, both transmitters IDLE, two IDLE channels. -/
def quiet : Blocks :=
  { Blocks.atReset 14 with
    bus := { Linebus.atReset with tx := .idle, rx := .seek }
    port := { Port.atReset 14 with tx := none, framer := .seek }
    announce := { (Blocks.atReset 14).announce with channels := [.idle, .idle] } }

/-- What a command leaves, where it answers a next state. -/
def after (c : Instr) (e : Env) (b : Blocks) : Option Node :=
  match exec c ⟨⟨e, b⟩, []⟩ with
  | .next s => some s.node
  | _ => none

def id1 : IncidentId := ⟨14, 1⟩
def u14 : TractionSection := ⟨.up, 14⟩

/-- An owned incident of a kind over the section U14. -/
def inc (id : IncidentId) (kind : IncidentKind) (severity : Nat) (holding : Holding) : Incident :=
  { id := id, kind := kind, severity := severity, span := .one u14, platform := some ⟨14, .up⟩, trip := none, owner := 14, adoptedFrom := none
    raised := 0, acked := none, isolationFailed := false, holding := holding, admission := 1 }

def owned : Owned := { acknowledged := false, floor := 1, isolation := [], refresh := 0, age := 0 }

/-! ### Operands out of their ranges are ill-formed -/

theorem test_illformed_section : (Instr.isolateRepeat id1 ⟨.up, 31⟩).wellFormed = false := by decide
theorem test_illformed_origin : (Instr.refresh ⟨32, 1⟩).wellFormed = false := by decide
theorem test_illformed_serial_zero : (Instr.localAgeClose ⟨14, 0⟩).wellFormed = false := by decide
theorem test_illformed_serial_high : (Instr.copyDrop ⟨14, 256⟩).wellFormed = false := by decide
theorem test_illformed_line_idle : (Instr.lineIdle [] 19).wellFormed = false := by decide
theorem test_illformed_bus_length : (Instr.linebusLengthError 1 0x61 48).wellFormed = false := by decide
theorem test_illformed_discarded : (Instr.linebusFrameDiscarded 1 0x61 (List.replicate 49 0) 0).wellFormed = false := by decide
theorem test_illformed_frame : (Instr.statusFrame 1 (List.replicate 49 0)).wellFormed = false := by decide
theorem test_illformed_peer : (Instr.peerStale 32).wellFormed = false := by decide
theorem test_illformed_message : (Instr.messageExpiry 0).wellFormed = false := by decide
theorem test_illformed_message_high : (Instr.notBeforeReached 65536).wellFormed = false := by decide
theorem test_illformed_channel : (Instr.playDeadline 0).wellFormed = false := by decide
theorem test_illformed_channel_high : (Instr.stopTimeout 4).wellFormed = false := by decide
theorem test_illformed_gap : (Instr.portFrameGap [] 4999).wellFormed = false := by decide
theorem test_illformed_port_length : (Instr.portLengthError 96).wellFormed = false := by decide
theorem test_illformed_nak : (Instr.nak 1 1 0 (List.replicate 97 0) 0).wellFormed = false := by decide
theorem test_illformed_request : (Instr.configure 0 (List.replicate 97 0)).wellFormed = false := by decide
theorem test_illformed_amend : (Instr.amendCancel 0 [0, 0, 0, 1]).wellFormed = false := by decide
theorem test_illformed_other : (Instr.linebusOtherCharacter (some 0x96)).wellFormed = false := by decide
theorem test_wellformed_edges :
    (Instr.isolateRepeat ⟨31, 255⟩ ⟨.down, 30⟩).wellFormed ∧ (Instr.lineIdle [] 20).wellFormed
      ∧ (Instr.playDeadline 3).wellFormed ∧ (Instr.amendInsert 0 [2]).wellFormed := by decide

/-! ### Worked examples of the manual -/

/-- R28's test of the check: the digits 1 to 9 give 0x29B1. -/
theorem test_crc_of_digits : crc [0x31, 0x32, 0x33, 0x34, 0x35, 0x36, 0x37, 0x38, 0x39] = 0x29B1 := by decide +kernel

/-- R96, case 1: target 36,231, deviation +81. -/
def case1 : DwellInput :=
  { arrival := 36000, scheduled := some 36150, wmin := 200, wmax := 900, rup := 900, previous := some 35300, headway := 600
    follower := some 36100, gain := 5 }

theorem test_dwell_case1 : case1.target = 36231 ∧ case1.deviation = some 81 := by decide +kernel

/-- R96, case 2: the quotient truncated toward zero, 36,307 and −93. -/
theorem test_dwell_case2 :
    { case1 with scheduled := some 36400 }.target = 36307 ∧ { case1 with scheduled := some 36400 }.deviation = some (-93) := by
  decide +kernel

/-- R96, saturation: 1,048,575 and +475. -/
theorem test_dwell_saturates :
    let i : DwellInput := { case1 with
      arrival := 1048000, scheduled := some 1048100, previous := some 1047800, follower := some 1048500, gain := 8 }
    i.target = 1048575 ∧ i.deviation = some 475 := by decide +kernel

/-- R97, a recomputation: 40,269 becomes 40,381 when the follower is heard at U = 40,110. -/
theorem test_dwell_recomputation :
    let i : DwellInput := { case1 with
      arrival := 40000, scheduled := some 40300, previous := some 39650, headway := 600, follower := none }
    i.target = 40269 ∧ { i with follower := some 40110 }.target = 40381 := by decide +kernel

/-- R16, rejecting a glitch: two samples, a break, and the fourth of an unbroken run at F = 4, which accepts the change. -/
theorem test_filter_glitch :
    let start : FilterRecord := { level := some false, candidate := none, run := 0 }
    let after (l : List Bool) : FilterRecord := l.foldl (fun r x => (FilterRecord.sample 4 r x).1) start
    ((after [true, true, false, true, true]).sample 4 true).2 = none
      ∧ (after [true, true, false, true, true, true]).sample 4 true = ({ level := some true, candidate := none, run := 0 }, some true) := by
  decide +kernel

/-- R219, clamping worked through: fields 5, 6, 8, 13, 14, 22 and 27 change. -/
theorem test_clamping :
    let raw : RawConfig :=
      { nodeCount := 24, timeLimit := 30, occupancyFilter := 4, channelCount := 2
        platforms := ⟨{ plat with wmin := 40, wmax := 3200, gain := 9 }, { plat with wmin := 1300, wmax := 1000 }⟩
        templates := [⟨1, [1, 0, 0, 0, 0, 0]⟩, ⟨0, [2, 0, 0, 0, 0, 0]⟩, ⟨1, [3, 0, 0, 0, 0, 0]⟩, ⟨1, [4, 0, 0, 0, 0, 0]⟩,
          ⟨1, [5, 0, 0, 0, 0, 0]⟩, ⟨1, [6, 0, 0, 0, 0, 0]⟩]
        numberBase := 4050 }
    raw.changed = [5, 6, 8, 13, 14, 22, 27] ∧ raw.held.platforms.down.wmax = 1200 ∧ raw.held.platforms.up.wmax = 3000
      ∧ raw.held.templates.delay = [2] ∧ raw.held.numberBase = 4000 := by decide +kernel

/-! ### States that meet the hypotheses of the statements -/

def ready : Env := env .ready 40000
def service : Env := env .service 40000
def configuring : Env := Env.atReset 14

/-- One breaker's record, one platform's dwell, the incident records, one channel, one zone queue, the linebus. -/
def withBreaker (r : BreakerRecord) : Blocks := quiet.setBreaker .uh r
def br0 : BreakerRecord := .atReset
def cmd : Command := { count := 0, limit := 30, overtook := false, passing := false }
def withDwell (p : Phase) (d : Dwell) : Blocks := quiet.setPlatform .up { Platform.atReset with standing := .occupied p d }
def dwell : Dwell :=
  { mode := .regulated, trip := 7, entry := none, outcome := some .identified, skipped := 0, arrival := 39000, scheduled := none
    target := some 40000, deviation := none, targetOver := false, reasons := .empty, staggerOpen := true, staggerTime := none
    followerAvailable := true, grace := none, heldLong := false, headway := 0 }
def reasonOf (operator : Bool) : Reasons := { Reasons.empty with operator := operator }
def withRecords (l : List Incident) : Blocks := quiet.setRecords l
def copyPart (orphan : Bool) (silence : Nat) : CopyPart := { orphan := orphan, silence := silence }
def withBus (tx : Transmitter) (waiting : List Frame) : Blocks := quiet.setBus { quiet.bus with tx := tx, waiting := waiting }
def withChannel (c : Channel) : Blocks := quiet.setChannel 1 c
def member : Member := { id := 5, phrases := [1], attempts := 0 }
def chain : Chain :=
  { members := [member], priority := 3, repeats := 0, interval := 50, notBefore := none, notBeforeDue := false, expiry := none, link := none
    origin := .operator, kind := none, order := 1, place := .waiting }
def withChain (c : Chain) (ch : Channel) : Blocks := (withChannel ch).setQueue .up [c]
def entry (trip departure : Nat) (state : EntryState) : Entry :=
  { trip := trip, arrival := none, departure := departure, phrase := 0, terminates := false, isFirst := false, state := state }
def withEntries (l : List Entry) : Blocks :=
  (quiet.setTimetable { quiet.timetable with load := .loaded }).setSequence .up l
def approach (trip upstream : Nat) : Approach :=
  { trip := trip, upstream := upstream, source := .heard, stallRaised := false, stallId := none }

/-- The blocks with one accepted change waiting for its delivery. -/
def withOccupancy (b : Blocks) (t : Track) (level : Bool) (stamp : Nat) : Blocks :=
  setWaiting b { b.field.waiting with occupancy := b.field.waiting.occupancy.set t (some ⟨level, stamp⟩) }
def withPlunger (b : Blocks) (t : Track) (level : Bool) (stamp : Nat) : Blocks :=
  setWaiting b { b.field.waiting with plunger := b.field.waiting.plunger.set t (some ⟨level, stamp⟩) }
def withStatus (b : Blocks) (br : Breaker) (level : Bool) (stamp : Nat) : Blocks :=
  setWaiting b { b.field.waiting with status := b.field.waiting.status.set br (some ⟨level, stamp⟩) }
def withKey (b : Blocks) (level : Bool) : Blocks := setWaiting b { b.field.waiting with key := some level }

/-- A frame of every class that another node can send. -/
def isolateFrame : Frame := .isolate u14 id1
def depart (terminates : Bool) : DepartContents :=
  { track := .up, trip := 7, dact := 39990, entered := some ⟨.up, 13⟩, terminates := terminates }
def announce : AnnounceContents :=
  { first := 14, last := 14, zones := ⟨true, false, false⟩, priority := 3, repeats := 0, interval := 50, phrases := [1] }
def status : StatusContents :=
  { service := true, time := 40000, breakers := ⟨.known .closed, .known .closed, .known .closed, .known .closed⟩
    keyLocal := false, holdover := false, latches := ⟨false, false⟩, platforms := ⟨.vacant, .vacant⟩
    departures := ⟨none, none⟩, incidents := 0 }
def power : PowerContents :=
  { breaker := .uh, state := .closed, lockoutCount := 0, overlock := false, keyLocal := false, reason := none }
def incident (action : IncidentAction) (id : IncidentId) (owner : Nat) (closeReason : Option Nat) : IncidentContents :=
  { action := action, id := id, kind := .operator, severity := 2, span := .one u14, platform := none, trip := none, adoptedFrom := none
    owner := owner, raised := 0, acked := none, isolationFailed := false, closeReason := closeReason }

/-- A frame from a source meets `arrives` at a quiet node. -/
def comes (e : Env) (source : Nat) (f : Frame) : Bool :=
  decide (f.payload.length ≤ 48 ∧ parseFrame e.lineCount source f.cls f.payload = some f)

theorem arrives_of_comes {e : Env} {b : Blocks} {source : Nat} {f : Frame} (hs : source < 256) (hb : b.bus.rx = .seek)
    (h : comes e source f = true) : arrives e b (char source) f.payload f := by
  have h' : f.payload.length ≤ 48 ∧ parseFrame e.lineCount source f.cls f.payload = some f := of_decide_eq_true h
  refine ⟨?_, h'.1, ?_⟩
  · rw [hb]; rfl
  · have : (char source).toNat = source := by simp [char, BitVec.toNat_ofNat]; omega
    rw [this]; exact h'.2

theorem takes_of_quiet {b : Blocks} (hb : b.port.framer = .seek) (ha : b.port.answers = []) (channel : PortChannel) (kind : Nat) (tag : Byte)
    (payload : List Byte) (hp : payload.length ≤ 96) : takes b channel kind tag payload := by
  refine ⟨?_, ?_⟩
  · simp [takesRequest, hb, Assembly.accepts, Config.portPayloadMax, hp]
  · simp [ha, Config.answerMax]

/-- Any request of at most 96 characters is taken by a quiet node; so the statements about requests can be met. -/
theorem witness_takes (channel : PortChannel) (kind : Nat) (payload : List Byte) (hp : payload.length ≤ 96) :
    takes quiet channel kind 0 payload := takes_of_quiet rfl rfl channel kind 0 payload hp

/-- A frame of each class arrives at a quiet node from node 13. -/
theorem witness_arrives :
    arrives service quiet (char 13) isolateFrame.payload isolateFrame
      ∧ arrives service quiet (char 13) (Frame.restore ⟨.up, 13⟩ 13 none).payload (.restore ⟨.up, 13⟩ 13 none)
      ∧ arrives service quiet (char 13) (Frame.power power).payload (.power power)
      ∧ arrives service quiet (char 13) (Frame.incident (incident .raise ⟨13, 1⟩ 13 none)).payload (.incident (incident .raise ⟨13, 1⟩ 13 none))
      ∧ arrives service quiet (char 13) (Frame.incident (incident .close ⟨13, 1⟩ 13 (some 1))).payload
          (.incident (incident .close ⟨13, 1⟩ 13 (some 1)))
      ∧ arrives service quiet (char 13) (Frame.depart (depart false)).payload (.depart (depart false))
      ∧ arrives service quiet (char 13) (Frame.announce announce).payload (.announce announce)
      ∧ arrives service quiet (char 13) (Frame.status status).payload (.status status)
      ∧ arrives service quiet (char 14) isolateFrame.payload isolateFrame := by
  refine ⟨?_, ?_, ?_, ?_, ?_, ?_, ?_, ?_, ?_⟩ <;> exact arrives_of_comes (by decide) rfl (by decide +kernel)

/-! One theorem for each statement with hypotheses of its own; each conjunct meets the hypotheses of one of its clauses. -/

theorem witness_AdvancesMoveServiceTime :
    (ready.time.mode = .pulsed ∧ ready.time.service ≤ Config.serviceTimeMax) ∧ (Env.atReset 14).time.mode = .holdover
      ∧ (env .ready 1048574).time.service < Config.serviceTimeMax ∧ (env .ready 1048575).time.service = Config.serviceTimeMax := by decide

theorem witness_AdvanceRaisesCounts :
    let b := (withChannel (.playing .up 5 0 0)).setRecords
      [inc id1 .operator 2 (.owned owned), inc ⟨13, 1⟩ .operator 2 (.copy (copyPart false 0))]
    (quiet.peers.table[31]? = some .unheard ∧ quiet.peers.starts[31]? = some .absent)
      ∧ (withDwell .held dwell).platforms.up.standing = .occupied .held dwell ∧ quiet.platforms.up.standing = .vacant
      ∧ b.incidents.records[0]? = some (inc id1 .operator 2 (.owned owned))
      ∧ b.incidents.records[1]? = some (inc ⟨13, 1⟩ .operator 2 (.copy (copyPart false 0)))
      ∧ b.announce.channels[0]? = some (.playing .up 5 0 0) ∧ b.announce.channels[1]? = some .idle
      ∧ (withChannel (.stopping .up 5 .preempt 19 0)).announce.channels[0]? = some (.stopping .up 5 .preempt 19 0)
      ∧ ((withChain chain .idle).announce.queues.get .up)[0]? = some chain := by
  decide +kernel

theorem witness_TenPulsesEndHoldover :
    (Env.atReset 14).time.mode = .holdover ∧ (Env.atReset 14).time.run = 0 ∧ (List.replicate 9 249).length ≤ 9
      ∧ ∀ g ∈ List.replicate 9 249, g < 250 := by decide

theorem witness_SamplingPointUpdatesFilters :
    quiet.Delivered ∧ configuring.nodeState = .configuring ∧ service.nodeState ≠ .configuring
      ∧ (quiet.power.breakers.get .uh).isSome ∧ (Blocks.atReset 0).power.breakers.get .ul = none := by
  refine ⟨rfl, ?_⟩; decide +kernel

theorem witness_FilterAcceptsAtFthSample :
    1 ≤ 1 ∧ 0 < 1 ∧ (none : Option Bool) ≠ some true
      ∧ (FilterRecord.sample 1 { level := some false, candidate := none, run := 0 } true).2 = some true := by decide

theorem witness_CoilPulses : quiet.field.coils.uh = .rest ∧ (quiet.power.breakers.get .uh).isSome := by decide +kernel

theorem witness_InputsThatOnlyReport :
    let latched := quiet.setLatch .up { isSet := true, id := some id1, ignored := 255 }
    ((withPlunger latched .up true 39999).field.waiting.plunger.get .up = some ⟨true, 39999⟩
        ∧ ((withPlunger latched .up true 39999).power.latches.get .up).isSet = true)
      ∧ (withPlunger quiet .up false 39999).field.waiting.plunger.get .up = some ⟨false, 39999⟩
      ∧ quiet.field.waiting.plunger.get .up = none ∧ (withKey quiet true).field.waiting.key = some true := by decide +kernel

theorem witness_ReportQueueKeepsTheLast :
    let r : Report := { body := .holdoverBegun, time := 0, part := none }
    let p : Port := { quiet.port with tx := some (.report r 0), reports := List.replicate 32 r, discard := 255 }
    ReportBody.holdoverBegun.contents.length ≤ 91
      ∧ 91 < (ReportBody.txDrop .full .isolate (List.replicate 92 0)).contents.length ∧ quiet.port.tx = none
      ∧ p.tx.isSome ∧ p.reports.length ≤ 32 ∧ p.discard ≤ 255 ∧ (p.reports ++ [r]).length - 32 = 1
      ∧ r.part = none ∧ ({ r with part := some ⟨1, true⟩ } : Report).part = some ⟨1, true⟩ := by decide +kernel

theorem witness_OutboundQueueAdmission :
    let full := withBus .waiting (List.replicate 15 isolateFrame ++ [.announce announce])
    (configuring.nodeState = .configuring ∧ service.nodeState ≠ .configuring ∧ quiet.bus.silent = false)
      ∧ (withBus .waiting (List.replicate 15 isolateFrame)).bus.occupied < 16
      ∧ 16 ≤ full.bus.occupied ∧ full.bus.waiting = List.replicate 15 isolateFrame ++ [.announce announce]
      ∧ isolateFrame.cls.rank < (Frame.announce announce).cls.rank
      ∧ (∀ g, full.bus.waiting.getLast? = some g → g.cls.rank ≤ (Frame.status status).cls.rank) := by
  refine ⟨by decide +kernel, by decide +kernel, by decide +kernel, by decide +kernel, by decide +kernel, ?_⟩
  intro g h
  have : g = .announce announce := by
    have e : some g = some (Frame.announce announce) := h.symm.trans (by decide +kernel)
    exact Option.some.inj e
  subst this; decide +kernel

/-- R41: a STATUS frame that waits, and one in BACKOFF, can be renewed; one that is sent stands outside both clauses. -/
theorem witness_renewStatus :
    (withBus (.backoff ⟨.status status, 3, false⟩) []).bus.tx = .backoff ⟨.status status, 3, false⟩
      ∧ (Frame.status status).cls = .status ∧ isolateFrame.cls ≠ .status
      ∧ (renewStatus (withBus (.sending ⟨.status status, 3, false⟩) []).bus { status with time := 1 }).tx
        = .sending ⟨.status status, 3, false⟩ := by decide +kernel

theorem witness_EmergencyStopLocksTheTrack :
    let failed : BreakerRecord := { br0 with condition := some .failed, inputClosed := some false }
    let b := withPlunger (withBreaker failed) .up true 39999
    b.field.waiting.plunger.get .up = some ⟨true, 39999⟩
      ∧ (b.power.latches.get .up).isSet = false ∧ b.incidents.records.length < 32
      ∧ (b.field.starters.get .up = true → (b.platforms.get .up).standing.state = .released)
      ∧ b.power.breakers.get .uh = some failed ∧ id1 ∉ failed.lockout := by decide +kernel

/-- R148: a press that finds 32 local records of severity 2 makes room for its own. -/
theorem witness_press_at_a_full_table :
    let b := withPlunger (quiet.setRecords ((List.range 32).map fun i => inc ⟨14, i + 1⟩ .operator 2 (.owned owned))) .up true 39999
    ((makeRoom service ((sentPlunger b .up).setLatch .up { isSet := true, id := none, ignored := 0 }) 4 true).map fun y =>
      y.incidents.records.length) = some 31 := by decide +kernel

theorem witness_BreakerSettlementTakesLevel :
    let b := withStatus (withBreaker { br0 with lockout := [id1] }) .uh true 39999
    b.power.breakers.get .uh = some { br0 with lockout := [id1] } ∧ br0.condition = none
      ∧ b.field.waiting.status.get .uh = some ⟨true, 39999⟩ := by decide +kernel

theorem witness_BreakerArrivals :
    let closing : BreakerRecord := { br0 with condition := some (.closing cmd), inputClosed := some false }
    let opening : BreakerRecord := { br0 with condition := some (.opening cmd), inputClosed := some true }
    let overtook : BreakerRecord := { br0 with condition := some (.opening { cmd with overtook := true, count := 3 }), inputClosed := some false }
    ∀ r ∈ [closing, opening, overtook], ∀ level ∈ [true, false],
      (withStatus (withBreaker r) .uh level 39999).power.breakers.get .uh = some r
        ∧ (withStatus (withBreaker r) .uh level 39999).field.waiting.status.get .uh = some ⟨level, 39999⟩ := by decide +kernel

theorem witness_TripsAndUncommandedCloses :
    let closed : BreakerRecord := { br0 with condition := some .closed, inputClosed := some true }
    let opened : BreakerRecord := { br0 with condition := some .opened, inputClosed := some false }
    (withStatus (withBreaker closed) .uh false 39999).power.breakers.get .uh = some closed
      ∧ (withStatus (withBreaker closed) .uh false 39999).field.waiting.status.get .uh = some ⟨false, 39999⟩
      ∧ (withStatus (withBreaker opened) .uh true 39999).power.breakers.get .uh = some opened
      ∧ (withStatus (withBreaker opened) .uh true 39999).field.waiting.status.get .uh = some ⟨true, 39999⟩
      ∧ (let failed : BreakerRecord := { br0 with condition := some .failed, inputClosed := some false, lockout := [id1] }
        (withStatus (withBreaker failed) .uh true 39999).power.breakers.get .uh = some failed
          ∧ (withStatus (withBreaker failed) .uh false 39999).field.waiting.status.get .uh = some ⟨false, 39999⟩) := by decide +kernel

theorem witness_BreakerTimers :
    let slow : BreakerRecord := { br0 with condition := some (.opening { cmd with count := 30 }) }
    let waits : BreakerRecord := { br0 with wait := some { fromPort := true, requester := 14, id := none, count := 100 } }
    (withBreaker slow).power.breakers.get .uh = some slow ∧ ({ cmd with count := 30 } : Command).limit ≤ 30
      ∧ (withBreaker waits).power.breakers.get .uh = some waits := by decide +kernel

theorem witness_IsolationRepeatPoint :
    let item (n : Nat) : IsolationItem := { sec := u14, sends := n, repeats := 20, state := .pending }
    let r (severity n : Nat) := inc id1 .operator severity (.owned { owned with isolation := [item n] })
    let b (n : Nat) := withRecords [r 2 n]
    ((b 1).item id1 u14 = some (item 1) ∧ bothOpen service (b 1) u14 = false)
      ∧ ((b 5).item id1 u14 = some (item 5) ∧ bothOpen service (b 5) u14 = false)
      ∧ ((b 5).incidents.find id1 = some (r 2 5) ∧ (r 2 5).severity ≠ 4 ∧ (r 2 5).isolationFailed = false)
      ∧ (withRecords [r 4 5]).incidents.find id1 = some (r 4 5)
      ∧ (withRecords [{ r 4 5 with isolationFailed := true }]).incidents.find id1 = some { r 4 5 with isolationFailed := true }
      ∧ (let x := ((b 1).setBreaker .uh { br0 with condition := some .opened }).setPeers
          (peerPower service (b 1) 15 { power with breaker := .ul, state := .opened }).peers
        x.item id1 u14 = some (item 1) ∧ (bothOpen service (modifyPeer x 15 fun p => { p with liveness := .current }) u14 = true)) := by
  decide +kernel

theorem witness_ManualArrivalsAndOutOfStep :
    let b := quiet.setApproach .up [approach 7 39000]
    (withOccupancy quiet .up true 39999).field.waiting.occupancy.get .up = some ⟨true, 39999⟩
      ∧ (withOccupancy quiet .up false 39999).field.waiting.occupancy.get .up = some ⟨false, 39999⟩
      ∧ ready.nodeState = .ready ∧ ((withOccupancy quiet .up true 39999).platforms.get .up).standing = .vacant
      ∧ (withOccupancy quiet .up true 39999).describer.get .up = []
      ∧ (withOccupancy b .up true 39999).describer.get .up = [approach 7 39000]
      ∧ ((withOccupancy (withDwell .dwell dwell) .up true 39999).platforms.get .up).standing = .occupied .dwell dwell
      ∧ quiet.field.waiting.occupancy.get .up = none := by decide +kernel

theorem witness_RegulatedArrivals :
    (withOccupancy quiet .up true 39999).field.waiting.occupancy.get .up = some ⟨true, 39999⟩
      ∧ service.nodeState = .service ∧ ((withOccupancy quiet .up true 39999).platforms.get .up).standing = .vacant
      ∧ ∃ x m, matchArrival service (sentOccupancy (withOccupancy quiet .up true 39999) .up) .up = (x, m) :=
  ⟨by decide +kernel, by decide, by decide +kernel, _, _, rfl⟩

/-- R92, R93: the headway of 6.4's example, at both of its bounds and without an entry before, and the gain under a disruption. -/
theorem witness_headway_and_gain :
    headway plat (some 40300) (some 39700) = 600 ∧ headway plat (some 100) (some 300) = 200 ∧ headway plat (some 9000) (some 0) = 6000
      ∧ (([entry 3 100 .cancelled] ++ entry 7 200 .inUse :: []).map (·.trip)).Nodup
      ∧ departureBefore ([entry 3 100 .cancelled] ++ entry 7 200 .inUse :: []) 7 = some 100
      ∧ effectiveGain service (withRecords [inc id1 .delay 1 (.owned owned)]) .up false = 8
      ∧ effectiveGain service (withRecords [inc id1 .operator 1 (.owned owned)]) .up false = 5 := by decide +kernel

/-- R83, R84: an arrival with a described train whose trip stands in no entry, one whose trip is found, and one with an empty queue. -/
theorem witness_matchArrival :
    let b := withEntries [entry 3 100 .consumed, entry 7 200 .pending]
    (b.setApproach .up [approach 9 39000]).describer.get .up = approach 9 39000 :: [] ∧ b.describer.get .up = []
      ∧ findAhead (b.timetable.sequences.get .up) 9 = none ∧ findAhead (b.timetable.sequences.get .up) 7 = some (entry 7 200 .pending)
      ∧ b.timetable.sequences.get .up = [entry 3 100 .consumed] ++ entry 7 200 .pending :: []
      ∧ (∀ z ∈ [entry 3 100 .consumed], z.state ≠ .pending) ∧ (∀ x ∈ quiet.timetable.sequences.get .up, x.state ≠ .pending)
      ∧ service.upstream .up ≠ none ∧ { service with nodeNumber := 0 }.upstream .up = none := by decide +kernel

theorem witness_MatchUsesTheTrip :
    let before := (List.range 7).map fun i => entry (i + 1) (100 * i) .pending
    (((before ++ entry 9 900 .pending :: []).map (·.trip)).Nodup)
      ∧ (before.filter fun y => decide (y.state = .pending)).length < 8 := by decide +kernel

theorem witness_DwellTargetWithinBounds :
    case1.wmin ≤ case1.wmax ∧ { case1 with gain := 0 }.gain = 0 ∧ { case1 with previous := none }.previous = none
      ∧ { case1 with gain := 8 }.gain = 8
      ∧ (withOccupancy quiet .up true 39999).field.waiting.occupancy.get .up = some ⟨true, 39999⟩ ∧ service.nodeState = .service
      ∧ ((withOccupancy quiet .up true 39999).platforms.get .up).standing = .vacant := by decide +kernel

theorem witness_DeparturesVacateThePlatform :
    let b := withOccupancy (withDwell .released dwell) .up false 39999
    b.field.waiting.occupancy.get .up = some ⟨false, 39999⟩
      ∧ service.nodeState ≠ .configuring ∧ (b.platforms.get .up).standing = .occupied .released dwell
      ∧ service.sectionAhead .up = some u14 ∧ (Env.atReset 0).sectionBehind .up = none
      ∧ (let l := [entry 3 100 .consumed] ++ entry 7 200 .inUse :: [entry 9 300 .pending]
        let held (a : Option Amendment) : Blocks :=
          (withEntries l).setPlatform .up { (withEntries l).platforms.get .up with amendment := a }
        (held none).timetable.sequences.get .up = l ∧ (∀ z ∈ [entry 3 100 .consumed], z.trip ≠ 7)
          ∧ ((held none).platforms.get .up).amendment = none ∧ ((held (some .cancel)).platforms.get .up).amendment = some .cancel
          ∧ ((held (some (.change 300))).platforms.get .up).amendment = some (.change 300)
          ∧ [entry 3 100 .consumed].getLast? = some (entry 3 100 .consumed) ∧ (entry 3 100 .consumed).departure ≤ 100
          ∧ [entry 9 300 .pending].head? = some (entry 9 300 .pending) ∧ 300 ≤ (entry 9 300 .pending).departure
          ∧ (entry 7 200 .inUse).arrival = none ∧ 99 < (entry 3 100 .consumed).departure)
      ∧ (let late := inc id1 .delay 1 (.owned owned)
        let x := (withRecords [late]).setPlatform .up { (withRecords [late]).platforms.get .up with delayId := some id1 }
        (x.platforms.get .up).delayId = some id1 ∧ x.incidents.find id1 = some late ∧ late.isLocal = true ∧ late.kind = .delay
          ∧ (quiet.platforms.get .up).delayId = none ∧ (service.platformConfig .up).ldelay = 600) := by decide +kernel

theorem witness_ReleaseCheckDecides :
    ((withDwell .dwell dwell).platforms.get .up).standing = .occupied .dwell dwell ∧ dwell.mode = .regulated
      ∧ dwell.target = some 40000 ∧ 40000 ≤ service.time.service
      ∧ ((withDwell .dwell { dwell with reasons := reasonOf true }).platforms.get .up).standing
        = .occupied .dwell { dwell with reasons := reasonOf true } := by decide +kernel

theorem witness_TimesOfAHeldTrain :
    let held : Dwell := { dwell with reasons := { Reasons.empty with stagger := true }, staggerTime := some 40000, grace := some 20, arrival := 39100 }
    let more : Dwell := { held with reasons := { held.reasons with operator := true } }
    ((withDwell .held held).platforms.get .up).standing = .occupied .held held ∧ 40000 ≤ service.time.service
      ∧ ((withDwell .held more).platforms.get .up).standing = .occupied .held more
      ∧ min (held.arrival + (service.platformConfig .up).wmax) Config.serviceTimeMax = service.time.service := by decide +kernel

theorem witness_UnholdRemovesOperator :
    let d : Dwell := { dwell with reasons := reasonOf true }
    takes (withDwell .held d) .platform 2 0 [0] ∧ takes quiet .platform 2 0 [2]
      ∧ ((withDwell .held d).platforms.get .up).standing = .occupied .held d ∧ d.reasons.operator = true
      ∧ { d with reasons := { d.reasons with operator := false } }.reasons = .empty
      ∧ ((withDwell .dwell d).platforms.get .up).standing = .occupied .dwell d
      ∧ ((withDwell .held dwell).platforms.get .up).standing = .occupied .held dwell ∧ dwell.reasons.operator = false := by
  refine ⟨takes_of_quiet rfl rfl _ _ _ _ (by decide), witness_takes _ _ _ (by decide), ?_⟩
  decide +kernel

theorem witness_HoldAndReleaseAPlatform :
    let d : Dwell := { dwell with reasons := reasonOf true }
    let h : Dwell := { dwell with reasons := { Reasons.empty with power := true } }
    (takes (withDwell .released dwell) .platform 1 0 [0] ∧ takes (withDwell .held d) .platform 3 0 [0])
      ∧ ((withDwell .released dwell).platforms.get .up).standing = .occupied .released dwell
      ∧ ((withDwell .held d).platforms.get .up).standing = .occupied .held d
      ∧ ((withDwell .held h).platforms.get .up).standing = .occupied .held h
      ∧ { h with targetOver := true, staggerOpen := false, reasons := { h.reasons with operator := false, stagger := false } }.reasons
        = h.reasons := by
  refine ⟨⟨takes_of_quiet rfl rfl _ _ _ _ (by decide), takes_of_quiet rfl rfl _ _ _ _ (by decide)⟩, ?_⟩
  decide +kernel

theorem witness_TransmitterAttempts :
    let hand : Hand := { frame := .announce announce, attempts := 1, doomed := false }
    let idle (b : Blocks) (n : Nat) := setIdle b n
    ((idle (withBus .waiting [isolateFrame]) 19).bus.tx = .waiting ∧ (idle (withBus .waiting [isolateFrame]) 19).bus.waiting = [isolateFrame]
        ∧ (idle (withBus .waiting [isolateFrame]) 19).bus.idleCount + 1 = 20 ∧ (setRx quiet (.frame [0x96])).bus.rx = .frame [0x96]
        ∧ ∀ taken, quiet.bus.rx ≠ .frame taken)
      ∧ ((idle (withBus (.backoff hand) []) 80).bus.tx = .backoff hand
        ∧ 20 + 10 * hand.frame.cls.rank + 2 * service.nodeNumber = (idle (withBus (.backoff hand) []) 80).bus.idleCount + 8)
      ∧ (withBus (.sending hand) []).bus.tx = .sending hand ∧ (withBus (.sending hand) []).bus.rx ≠ .skip
      ∧ (setRx (withBus (.sending hand) []) .skip).bus.rx = .skip
      ∧ parseFrame service.lineCount service.nodeNumber hand.frame.cls hand.frame.payload = some hand.frame
      ∧ (quiet.setBus { quiet.bus with statusDue := true }).bus.statusDue = true ∧ quiet.bus.holdsStatus = false
      ∧ (withBus .waiting [.status status]).bus.holdsStatus = true := by
  refine ⟨⟨by decide +kernel, by decide +kernel, by decide +kernel, by decide +kernel, fun taken h => nomatch h⟩, ?_⟩
  decide +kernel

theorem witness_CollisionOutcomes :
    let hand (n : Nat) (doomed : Bool) : Hand := { frame := .announce announce, attempts := n, doomed := doomed }
    ((withBus (.sending (hand 14 false)) []).bus.tx = .sending (hand 14 false) ∧ 14 + 1 < 16)
      ∧ (withBus (.sending (hand 15 false)) []).bus.tx = .sending (hand 15 false)
      ∧ (withBus (.sending (hand 0 true)) []).bus.tx = .sending (hand 0 true)
      ∧ ((takeChars service quiet [0x96]).bus.rx = .frame [0x96] ∧ (takeChars service quiet []).bus.rx = .seek
        ∧ (takeChars service quiet [0x95]).bus.rx = .skip) := by decide +kernel

theorem witness_ReceiveAssemblyErrors :
    ((takeChars service quiet []).bus.rx = .seek ∧ (takeChars service quiet [0x96]).bus.rx = .frame [0x96]
        ∧ (setRx quiet .skip).bus.rx = .skip ∧ (setRx quiet (.frame [0x96, 13, 0x61])).bus.rx = .frame [0x96, 13, 0x61]
        ∧ (setRx quiet (.frame [0x96, 13, 0x61, 1, 7, 1])).bus.rx = .frame (0x96 :: 13 :: 0x61 :: 1 :: [7, 1])
        ∧ [7, 1] ++ [2] = [7] ++ checkChars 0x0102)
      ∧ quiet.bus.rx.accepts [0x96, 1, 0x61, 49] = true ∧ 48 < (49 : Byte).toNat ∧ 10 ≤ quiet.bus.errorAge
      ∧ (quiet.setBus { quiet.bus with errorAge := 9, errorPending := true }).bus.errorAge < 10
      ∧ crc ([13, 0x62, char 0] ++ []) ≠ 0 ∧ (∀ c : FrameClass, c.code ≠ 0x62)
      ∧ quiet.bus.rx.accepts ([0x96, 13, 0x62, char 0] ++ [] ++ checkChars (crc ([13, 0x62, char 0] ++ []))) = true
      ∧ parseFrame 32 13 .isolate [] = none := by
  refine ⟨by decide +kernel, by decide +kernel, by decide, by decide +kernel, by decide +kernel, by decide +kernel, ?_, by decide +kernel,
    by decide +kernel⟩
  intro c; cases c <;> decide

theorem witness_ForeignFramesAreHeard :
    let b (l : Liveness) (n : Nat) := modifyPeer quiet 13 fun p => { p with liveness := l, silence := n }
    ((char 13).toNat ≠ service.nodeNumber ∧ (char 13).toNat < quiet.peers.table.length ∧ (char 14).toNat = service.nodeNumber)
      ∧ quiet.peers.table[(char 13).toNat]? = some .unheard
      ∧ ∀ x ∈ [(Liveness.current, 24), (.current, 25), (.current, 59), (.stale, 59), (.stale, 60)],
        ((b x.1 x.2).peers.table[(char 13).toNat]?.map fun p => (p.liveness, p.silence)) = some x := by
  decide +kernel

theorem witness_StatusAndPowerFrames :
    let it (st : ItemState) : IsolationItem := ⟨u14, 1, 0, st⟩
    let r (st : ItemState) := inc id1 .operator 2 (.owned { owned with isolation := [it st] })
    let w : RestoreWait := { fromPort := true, requester := 14, id := none, count := 0 }
    let b := quiet.setBreaker .ul { br0 with condition := some .opened, wait := some w }
    ((heardFrom service quiet (char 13)).peers.table[(char 13).toNat]?).isSome = true
      ∧ (∀ st ∈ [ItemState.pending, .confirmed, .failed], (withRecords [r st]).incidents.find id1 = some (r st) ∧ it st ∈ (r st).items
        ∧ ((r st).items.map (·.sec)).Nodup)
      ∧ power.breaker.fed 14 = u14 ∧ ({ power with reason := some 1 } : PowerContents).reason = some 1
      ∧ service.ownBreaker (Breaker.uh.fed 13) = some .ul ∧ Breaker.ul.atHighEnd = true ∧ (b.waitOf .ul) = some w
      ∧ (∀ r ∈ b.incidents.records, ∀ i ∈ r.items, i.state ≠ .pending)
      ∧ (let b := b.setRecords [r .pending]
        (b.waitOf .ul) = some w ∧ (takePower service b 13 { power with breaker := .uh, reason := some 1 }).waitOf .ul = none
          ∧ b.item id1 u14 = some (it .pending)) := by decide +kernel

theorem witness_IsolateFramesAndRequests :
    let items : List IsolationItem := [⟨⟨.up, 10⟩, 1, 0, .pending⟩, ⟨⟨.up, 11⟩, 1, 0, .pending⟩]
    let b (n : Nat) := withRecords [inc id1 .operator 2 (.owned { owned with isolation := items.take n })]
    let locked (n : Nat) : BreakerRecord := { br0 with lockout := (List.range n).map fun i => ⟨13, i + 1⟩ }
    (service.ownBreaker u14 = some .uh ∧ service.ownBreaker ⟨.up, 10⟩ = none)
      ∧ ((withBreaker (locked 3)).power.breakers.get .uh = some (locked 3) ∧ id1 ∉ (locked 3).lockout)
      ∧ ((withBreaker (locked 4)).power.breakers.get .uh = some (locked 4) ∧ id1 ∉ (locked 4).lockout)
      ∧ ((b 1).incidents.find id1 = some (inc id1 .operator 2 (.owned { owned with isolation := [⟨⟨.up, 10⟩, 1, 0, .pending⟩] })))
      ∧ ((b 2).incidents.records.length ≤ 32 ∧ ((b 2).incidents.records.map (·.id)).Nodup)
      ∧ (∃ i ∈ items.take 1, i.sec = ⟨.up, 10⟩)
      ∧ ((withBreaker { br0 with condition := some .failed, inputClosed := some false }).power.breakers.get .uh).isSome = true
      ∧ service.lineCount < (⟨.up, 31⟩ : TractionSection).gap + 2 ∧ quiet.incidents.find id1 = none := by decide +kernel

theorem witness_RestoreAtAnEnd :
    let opened : BreakerRecord := { br0 with condition := some .opened, inputClosed := some false }
    let closed : BreakerRecord := { br0 with condition := some .closed }
    (namedCleanup service (withBreaker opened) .uh none).power.breakers.get .uh = some opened
      ∧ closeRefusal service (namedCleanup service (withBreaker opened) .uh none) .uh false = none
      ∧ closeRefusal service (namedCleanup service (withBreaker closed) .uh none) .uh false = some .notOpen
      ∧ closeRefusal service (quiet.setBreaker .ul opened) .ul false = none
      ∧ (Breaker.atHighEnd .uh = false ∧ Breaker.atHighEnd .ul = true)
      ∧ ((quiet.setBreaker .ul opened).peers.entry (service.farNode .ul)).liveness = .unheard
      ∧ ((modifyPeer (quiet.setBreaker .ul opened) 13 fun p => { p with liveness := .current }).peers.entry (service.farNode .ul)).liveness
        = .current := by decide +kernel

/-- R135: an id that the cleanup takes out, one that stays for its record, and a breaker at which each condition is the first to fail. -/
theorem witness_cleanup_and_refusals :
    let opened : BreakerRecord := { br0 with condition := some .opened, inputClosed := some false }
    let held : BreakerRecord := { opened with lockout := [id1] }
    id1 ∈ held.lockout ∧ (withBreaker held).incidents.find id1 = none
      ∧ ((withBreaker held).setRecords [inc id1 .delay 1 (.owned owned)]).incidents.find id1 ≠ none
      ∧ closeRefusal service ((withBreaker held).setPower { (withBreaker held).power with keyLocal := true }) .uh false = some .keyLocal
      ∧ closeRefusal service (withBreaker { held with overlock := true }) .uh true = some .lockout
      ∧ closeRefusal service (withBreaker { br0 with overlock := true }) .uh true = some .overlock
      ∧ closeRefusal service ((withBreaker br0).setRecords [inc id1 .sectionTrip 3 (.owned owned)]) .uh true = some .notOpen
      ∧ closeRefusal service (((withBreaker opened).setRecords [inc id1 .sectionTrip 3 (.owned owned)]).setLatch .up ⟨true, none, 0⟩) .uh true
        = some .incident
      ∧ closeRefusal service ((withBreaker opened).setLatch .up ⟨true, none, 0⟩) .uh true = some .estop
      ∧ (service.lineCount ≤ (⟨32, 1⟩ : IncidentId).origin ∧ (⟨14, 0⟩ : IncidentId).serial = 0 ∧ 1 < (2 : Byte).toNat) := by decide +kernel

theorem witness_IncidentFrames :
    let copy := inc id1 .operator 2 (.copy (copyPart true 0))
    let other := { copy with owner := 12 }
    (heardFrom service quiet (char 13)).incidents.find ⟨13, 1⟩ = none
      ∧ (heardFrom service (withRecords [inc id1 .operator 2 (.owned owned)]) (char 13)).incidents.find id1
        = some (inc id1 .operator 2 (.owned owned))
      ∧ (heardFrom service (withRecords [copy]) (char 13)).incidents.find id1 = some { copy with holding := .copy (copyPart true 0) }
      ∧ (incident .refresh id1 14 none).claim.prevails (inc id1 .operator 2 (.owned owned)).claim .operator 14 = false
      ∧ (∃ c : IncidentContents, c = { incident .adopt id1 13 none with adoptedFrom := some 14 }
          ∧ c.claim.prevails (inc id1 .operator 2 (.owned owned)).claim .operator 14 = true)
      ∧ (heardFrom service (withRecords [other]) (char 13)).incidents.find id1 = some other
      ∧ (∃ c : IncidentContents, c = { incident .adopt id1 13 none with adoptedFrom := some 12 } ∧ c.owner ≠ other.owner
          ∧ c.claim.prevails other.claim .operator 14 = true)
      ∧ (∃ c : IncidentContents, c = incident .refresh id1 13 none ∧ c.owner ≠ other.owner
          ∧ c.claim.prevails other.claim .operator 14 = false) := by
  refine ⟨by decide +kernel, by decide +kernel, by decide +kernel, by decide +kernel, ⟨_, rfl, by decide +kernel⟩, by decide +kernel,
    ⟨_, rfl, by decide, by decide +kernel⟩, ⟨_, rfl, by decide, by decide +kernel⟩⟩

/-- A table full of copies of severities 3, but for one of 2. -/
def fullTable : List Incident :=
  (List.range 32).map fun i => { inc ⟨13, i + 1⟩ .operator (if i = 9 then 2 else 3) (.copy (copyPart false 0)) with owner := 13 }

/-- R148: in a full table the one lighter copy makes room for a newcomer of severity 3, and none does for one of severity 2; an older
local record comes where no copy is left to evict. -/
theorem witness_room :
    let b := withRecords fullTable
    let v := { inc ⟨13, 10⟩ .operator 2 (.copy (copyPart false 0)) with owner := 13 }
    32 ≤ b.incidents.records.length ∧ (b.incidents.records.map (·.id)).Nodup
      ∧ lightestOf b.incidents.records (fun r => b.looseCopy r ∧ r.severity < 3) v
      ∧ (∀ r ∈ b.incidents.records, b.looseCopy r → 2 ≤ r.severity)
      ∧ oldestOf [inc id1 .emergencyStop 4 (.owned owned)] (fun r => r.isLocal = true ∧ r.severity = 4) (inc id1 .emergencyStop 4 (.owned owned)) := by
  have hl : ∀ r ∈ (withRecords fullTable).incidents.records, r.severity = 2 ∨ r.severity = 3 := by decide +kernel
  refine ⟨by decide +kernel, by decide +kernel, ⟨fullTable.take 9, fullTable.drop 10, by decide +kernel, ⟨⟨rfl, by decide +kernel⟩, by decide⟩, ?_, ?_⟩,
    ?_, ⟨[], [], rfl, ⟨rfl, rfl⟩, fun r h => absurd h (by simp)⟩⟩
  · intro r hr hp
    have : ∀ r ∈ fullTable.take 9, 2 < r.severity := by decide +kernel
    exact this r hr
  · intro r hr hp
    have : ∀ r ∈ fullTable.drop 10, 2 ≤ r.severity := by decide +kernel
    exact this r hr
  · intro r hr _; rcases hl r hr with h | h <;> omega

/-- R160: claims that each row decides, and one that none decides. -/
theorem witness_claims :
    let c (o : Nat) (a : Option Nat) : Claim := { owner := o, adoptedFrom := a }
    (c 14 none).prevails (c 13 (some 14)) .emergencyStop 14 = true ∧ (c 13 (some 14)).prevails (c 14 none) .emergencyStop 14 = false
      ∧ (c 13 (some 14)).prevails (c 14 none) .operator 14 = true ∧ (c 14 none).prevails (c 13 (some 14)) .operator 14 = false
      ∧ (c 13 (some 12)).prevails (c 15 none) .operator 14 = true ∧ (c 15 none).prevails (c 13 (some 12)) .operator 14 = false
      ∧ (c 14 (some 15)).prevails (c 16 (some 15)) .operator 15 = true ∧ (c 16 (some 15)).prevails (c 14 (some 15)) .operator 15 = false
      ∧ (c 13 none).prevails (c 15 none) .operator 14 = false := by decide +kernel

/-- R79, R97, R198, R77: a queue whose first follower recomputes, one that a train joins behind its head, and a platform that a local
DESCRIPTION_ERROR names already. -/
theorem witness_addApproach :
    let b := (withDwell .dwell dwell).setSequence .up [entry 3 40010 .pending]
    b.describer.get .up = [] ∧ (([entry 3 40010 .pending] : List Entry).map (·.trip)).Nodup
      ∧ (b.platforms.get .up).standing = .occupied .dwell dwell ∧ dwell.mode = .regulated ∧ dwell.followerAvailable = true
      ∧ (∃ a, ([approach 9 39000] : List Approach).head? = some a ∧ a.upstream ≤ 39000) ∧ 39999 < 40000
      ∧ service.sectionBehind .up = some ⟨.up, 13⟩
      ∧ (∃ r ∈ (withRecords [inc id1 .descriptionError 1 (.owned owned)]).incidents.records, r.isLocal = true
        ∧ r.kind = .descriptionError ∧ r.platform = some ⟨14, .up⟩) ∧ 1 < (2 : Byte).toNat :=
  ⟨by decide +kernel, by decide +kernel, by decide +kernel, rfl, rfl, ⟨_, rfl, by decide⟩, by decide, by decide +kernel,
    ⟨_, List.mem_cons_self, rfl, rfl, rfl⟩, by decide⟩

theorem witness_DepartFramesAndInject :
    let full := (List.range 8).map fun i => approach (i + 10) 39000
    service.upstream (depart false).track = some (char 13).toNat ∧ (quiet.describer.get .up).length < 8
      ∧ 8 ≤ ((quiet.setApproach .up full).describer.get .up).length ∧ (∀ a ∈ (quiet.setApproach .up full).describer.get .up, a.trip ≠ 7)
      ∧ (∀ a ∈ (quiet.setApproach .up [approach 7 39000]).describer.get .up, a.trip = 7)
      ∧ (1 ≤ 9999 ∧ (40000 ≤ service.time.service)) := by decide +kernel

theorem witness_PeersGrowStaleAndLost :
    let b (l : Liveness) (n : Nat) := modifyPeer quiet 13 fun p => { p with liveness := l, silence := n }
    ((b .current 25).peers.table[13]?.map fun p => (p.liveness, p.silence)) = some (.current, 25)
      ∧ ((b .stale 60).peers.table[13]?.map fun p => (p.liveness, p.silence)) = some (.stale, 60)
      ∧ service.isNeighbour 13 = true ∧ quiet.peers.lostId service 13 = none ∧ quiet.incidents.records.length < 32
      ∧ (({ start := some 1, age := 601, lapsed := false } : StartEntry).start.isSome ∧ 601 > 600) := by decide +kernel

theorem witness_OverdueTrainsAndFlush :
    let b := quiet.setApproach .up [approach 3 30000, approach 7 39000]
    b.describer.get .up = approach 3 30000 :: [approach 7 39000] ∧ service.sectionBehind .up = some ⟨.up, 13⟩
      ∧ min ((approach 3 30000).upstream + (service.platformConfig .up).rup + (service.platformConfig .up).stallMargin)
          Config.serviceTimeMax ≤ service.time.service
      ∧ b.describer.get .up = [approach 3 30000] ++ approach 7 39000 :: [] ∧ ((b.describer.get .up).map (·.trip)).Nodup := by
  decide +kernel

theorem witness_RecordsOfAge :
    let e1 := inc id1 .descriptionError 1 (.owned { owned with refresh := 100, age := 6000 })
    let e2 := inc ⟨13, 1⟩ .operator 1 (.copy (copyPart true 350))
    (withRecords [e1, e2]).incidents.find id1 = some e1 ∧ (withRecords [e1, e2]).incidents.find ⟨13, 1⟩ = some e2 := by decide +kernel

theorem witness_ChainsInTime :
    let c : Chain := { chain with notBefore := some 40000, notBeforeDue := true, expiry := some 40000 }
    (withChain c .idle).announce.findMessage 5 = some (.up, c) ∧ quiet.announce.findMessage 5 = none
      ∧ (withChain { chain with place := .onChannel } (.playing .up 5 0 0)).announce.findMessage 5 = some (.up, { chain with place := .onChannel })
      ∧ (withChain { chain with place := .onChannel } (.playing .up 5 0 0)).announce.channelOf { chain with place := .onChannel }
        = some (1, .playing .up 5 0 0)
      ∧ (withChain { chain with place := .onChannel } (.stopping .up 5 .preempt 1 0)).announce.channelOf { chain with place := .onChannel }
        = some (1, .stopping .up 5 .preempt 1 0)
      ∧ (quiet.store.grantMessage 5 1).blocks[0]? = some (some (.message 5 1)) := by decide +kernel

/-- R183, R184: a waiting chain of a zone without a channel is ready and first, beside an IDLE channel. -/
theorem witness_arbiter_gives :
    let b := withChain chain .idle
    b.announce.channel 1 = some .idle ∧ b.ready service .up chain ∧ b.zoneFree .up ∧ chain.members = member :: []
      ∧ ∀ z' c', b.ready service z' c' → z' = .up := by
  refine ⟨by decide +kernel, ⟨rfl, ⟨[], [], by decide +kernel, rfl, fun i h => (nomatch h), fun d h => (nomatch h)⟩, ?_⟩, ?_, rfl, ?_⟩
  · intro z d hd h6
    cases z
    · have hd : d ∈ [chain] := hd
      rw [List.mem_singleton] at hd; subst hd; exact absurd h6 (by decide)
    · exact (nomatch hd)
    · exact (nomatch hd)
  · unfold Blocks.zoneFree; decide +kernel
  · rintro z' c' ⟨-, ⟨bf, af, hq, -⟩, -⟩
    have hq' : (withChain chain .idle).announce.queues.get z' = bf ++ c' :: af := hq
    cases z' with
    | up => rfl
    | down => exact absurd (congrArg List.length hq') (by simp [withChain, withChannel, quiet, Blocks.atReset, Blocks.setQueue, Blocks.setChannel, Blocks.setAnnounce, PerZone.get, PerZone.set])
    | concourse => exact absurd (congrArg List.length hq') (by simp [withChain, withChannel, quiet, Blocks.atReset, Blocks.setQueue, Blocks.setChannel, Blocks.setAnnounce, PerZone.get, PerZone.set])

/-- R185: with both channels PLAYING, the ready chain of priority 5 may stop the one of priority 3 that its own zone plays. -/
def contended : Blocks :=
  let on (id p : Nat) : Chain := { chain with members := [{ member with id := id }], priority := p, place := .onChannel }
  let b := (quiet.setQueue .up [{ chain with members := [{ member with id := 7 }], priority := 5 }, on 5 3]).setQueue .down [on 6 4]
  b.setAnnounce { b.announce with channels := [.playing .up 5 0 0, .playing .down 6 0 0] }

theorem witness_arbiter_preempts :
    let c : Chain := { chain with members := [{ member with id := 7 }], priority := 5 }
    contended.ready service .up c ∧ contended.preempts .up c 1 ∧ (∀ i, contended.announce.channel i ≠ some .idle)
      ∧ contended.announce.channel 1 = some (.playing .up 5 0 0)
      ∧ (∀ i z m cause n began, contended.announce.channel i ≠ some (.stopping z m cause n began)) := by
  refine ⟨⟨rfl, ⟨[], _, rfl, rfl, fun i h => (nomatch h), fun d h => (nomatch h)⟩, ?_⟩,
    Or.inl ⟨_, 0, ⟨5, 0, by decide +kernel, rfl⟩, ?_, by decide⟩, ?_, by decide +kernel, ?_⟩
  · intro z d hd h6
    cases z
    · have hd : d.priority = 5 ∨ d.priority = 3 := by
        have hp : ∀ d ∈ contended.announce.queues.get .up, d.priority = 5 ∨ d.priority = 3 := by decide +kernel
        exact hp d hd
      omega
    · have hp : ∀ d ∈ contended.announce.queues.get .down, d.priority = 4 := by decide +kernel
      have := hp d hd; omega
    · exact (nomatch hd)
  · rintro (_ | k) d' began' ⟨m, n, h, -⟩
    · exact (nomatch h)
    · omega
  · intro i h
    match i, h with
    | 0, h => exact (nomatch h)
    | 1, h => exact (nomatch h)
    | 2, h => exact (nomatch h)
    | i + 3, h => exact (nomatch h)
  · intro i z m cause n began h
    match i, h with
    | 0, h => exact (nomatch h)
    | 1, h => exact (nomatch h)
    | 2, h => exact (nomatch h)
    | i + 3, h => exact (nomatch h)

/-- R189, R190, R181: a member at its first and one at its second failure, zones at each run, and a chain whose expiry is reached. -/
theorem witness_failures :
    let again : Member := { member with attempts := 1 }
    let z (f : FaultRecord) : Blocks := quiet.setAnnounce { quiet.announce with faults := quiet.announce.faults.set .up f }
    member ∈ chain.members ∧ (chain.members.map (·.id)).Nodup ∧ member.attempts = 0 ∧ 1 ≤ again.attempts
      ∧ frontOrder [{ chain with members := [{ member with id := 9 }], order := 7 }] chain = 6 ∧ frontOrder [] chain = chain.order
      ∧ (∀ f ∈ [FaultRecord.mk false 0, ⟨false, 1⟩, ⟨true, 2⟩], (z f).announce.faults.get .up = f)
      ∧ service.expired { chain with expiry := some 40000 } = true ∧ service.expired { chain with expiry := some 40001 } = false := by
  decide +kernel

theorem witness_PlaysAndStops :
    let c : Chain := { chain with place := .onChannel }
    (withChain c (.playing .up 5 60 0)).announce.channel 1 = some (.playing .up 5 60 0)
      ∧ (withChain c (.playing .up 5 60 0)).announce.chainOf .up 5 = some c ∧ c.members.find? (fun x => x.id = 5) = some member
      ∧ 10 * member.phrases.length + 50 = 60
      ∧ (withChain c (.stopping .up 5 .withdraw 20 0)).announce.channel 1 = some (.stopping .up 5 .withdraw 20 0)
      ∧ (withChain c (.stopping .up 5 .preempt 20 0)).announce.chainOf .up 5 = some c := by decide +kernel

theorem witness_AudioDoneAndReset :
    let two : Chain := { chain with members := [member, { member with id := 6 }], place := .onChannel, repeats := 1 }
    (withChain two (.playing .up 5 0 0)).announce.channel 1 = some (.playing .up 5 0 0)
      ∧ (withChain two (.playing .up 5 0 0)).announce.chainOf .up 5 = some two ∧ two.nextMember 5 = some { member with id := 6 }
      ∧ (withChain two (.playing .up 6 0 0)).announce.chainOf .up 6 = some two ∧ two.nextMember 6 = none
      ∧ (withChannel .idle).announce.channel 1 = some .idle ∧ quiet.announce.channels.length < 3
      ∧ (withChannel (.stopping .up 5 .deadline 1 0)).announce.channel 1 = some (.stopping .up 5 .deadline 1 0)
      ∧ (withChannel (.stopping .up 5 .preempt 1 0)).announce.chainOf .up 5 = none
      ∧ (∀ m ∈ [5, 6], (withChain two (.stopping .up m .preempt 1 0)).announce.channel 1 = some (.stopping .up m .preempt 1 0)
        ∧ (withChain two (.stopping .up m .preempt 1 0)).announce.chainOf .up m = some two)
      ∧ ({ two with repeats := 0 } : Chain).nextMember 6 = none := by decide +kernel

theorem witness_PortEventsAndNaks :
    (quiet.port.framer.portFeed [] = .seek ∧ quiet.port.framer.portFeed [0xD4, 1] = .frame [0xD4, 1]
        ∧ (1 : Byte).toNat ≤ 96 ∧ ([] : List Byte).length < (1 : Byte).toNat + 5
        ∧ quiet.port.framer.portFeed [0xD4] = .frame [0xD4] ∧ [(0xD4 : Byte)].length < 2)
      ∧ quiet.port.framer.accepts [0xD4, 97] = true ∧ 96 < (97 : Byte).toNat
      ∧ quiet.port.framer.accepts (0xD4 :: char 0 :: 7 :: 1 :: 0 :: ([] ++ checkChars (crc (char 0 :: 7 :: 1 :: 0 :: [])))) = true
      ∧ requestKinds 4 < (4 : Byte).toNat
      ∧ ({ quiet.port with tx := some (.answer ⟨false, 1, 0, []⟩) } : Port).answers = [] ∧ quiet.port.reports = [] := by decide +kernel

theorem witness_RequestsAreCheckedInOrder :
    (requestOf (.hold 0 [])).isSome ∧ takesRequest (Port.atReset 14) (char 3) (char 1) 0 [] = false
      ∧ takesRequest quiet.port (char 3) (char 1) 0 [] = true
      ∧ 4 ≤ ({ quiet.port with answers := List.replicate 4 ⟨false, 1, 0, []⟩ } : Port).answers.length
      ∧ (requestOf (.hold 0 [])).map (·.shape) = some false ∧ (requestOf (.hold 0 [0])).map (·.shape) = some true
      ∧ Allowed.configured.permits configuring.nodeState = false := by decide +kernel

theorem witness_ConfigureIsTaken :
    let p (n : Byte) : List Byte := n :: List.replicate 95 1
    takes quiet .node 1 0 (p 32) ∧ (p 32).length = 96 ∧ configuring.nodeState = .configuring
      ∧ (readConfig (p 32)).nodeCount = 32 ∧ (readConfig (p 15)).nodeCount = configuring.nodeNumber + 1
      ∧ (readConfig (p 14)).nodeCount ≤ configuring.nodeNumber ∧ (deliverAll configuring (received quiet)).bus.silent = false
      ∧ (deliverAll configuring (received quiet)).incidents.proper := by
  refine ⟨witness_takes _ _ _ (by decide), by decide +kernel, by decide +kernel, by decide +kernel, by decide +kernel, by decide +kernel,
    by decide +kernel, ?_⟩
  exact ⟨by decide +kernel, by decide +kernel⟩

/-- R218: the fields of the two platforms and of a template stand where the table puts them. -/
theorem test_configure_places :
    let p : List Byte := (List.range 96).map char
    ((readConfig p).platforms.up.wmin = 4 * 256 + 5 ∧ (readConfig p).platforms.up.gain = 10 ∧ (readConfig p).platforms.down.wmin = 19 * 256 + 20
        ∧ (readConfig p).platforms.down.hdefault = 32 * 256 + 33)
      ∧ (readConfig p).templates[5]? = some { count := 84, slots := [0x555, 0x657, 0x585, 0x95A, 0x5B5, 0xC5D] }
      ∧ (readConfig p).numberBase = 94 * 256 + 95 := by decide +kernel

theorem witness_DayStartAndEnd :
    takes (withEntries []) .node 2 0 [0, 1, 0x0F, 0xFF, 0xFE] ∧ ready.nodeState = .ready ∧ (withEntries []).timetable.load = .loaded
      ∧ (0x0F : Byte).toNat * 65536 + (0xFF : Byte).toNat * 256 + (0xFF : Byte).toNat ≤ 1048575
      ∧ 1048575 < (0x10 : Byte).toNat * 65536 + (0 : Byte).toNat * 256 + (0 : Byte).toNat
      ∧ quiet.timetable.load ≠ .loaded ∧ service.nodeState = .service
      ∧ (∀ t, ((deliverAll service (received quiet)).platforms.get t).standing = .vacant)
      ∧ ((deliverAll service (received (withDwell .dwell dwell))).platforms.get .up).standing ≠ .vacant
      ∧ (withOccupancy quiet .down true 39999).field.waiting
        = { Deliveries.empty with occupancy := Deliveries.empty.occupancy.set .down (some ⟨true, 39999⟩) } := by
  refine ⟨takes_of_quiet rfl rfl _ _ _ _ (by decide), by decide, by decide +kernel, by decide, by decide, by decide +kernel, by decide, ?_,
    by decide +kernel, by decide +kernel⟩
  intro t; cases t <;> decide +kernel

theorem witness_ServiceResetClears :
    takes quiet .node 4 0 [] ∧ service.nodeState ≠ .configuring
      ∧ (∀ t, ((deliverAll service (received quiet)).power.latches.get t).isSet = false)
      ∧ ((deliverAll service (received (quiet.setLatch .up { isSet := true, id := some id1, ignored := 0 }))).power.latches.get .up).isSet
      ∧ (withPlunger quiet .down true 39999).field.waiting
        = { Deliveries.empty with plunger := Deliveries.empty.plunger.set .down (some ⟨true, 39999⟩) }
      ∧ (let failed : BreakerRecord := { br0 with condition := some .failed, inputClosed := some true }
        (deliverAll service (received (withBreaker failed))).power.breakers.get .uh = some failed ∧ failed.lockedOut = false) := by
  refine ⟨witness_takes _ _ _ (by decide), by decide, ?_, by decide +kernel⟩
  intro t; cases t <;> decide +kernel

/-- R49: hands of both kinds, in SENDING and in BACKOFF, when SERVICE RESET is taken; what the accepted inputs bring leaves them. -/
theorem witness_hand_at_reset :
    ∀ f ∈ [Frame.announce announce, isolateFrame, .status status], ∀ tx ∈ [Transmitter.sending ⟨f, 3, false⟩, .backoff ⟨f, 3, false⟩],
      (deliverAll service (received (withBus tx []))).bus.tx = tx := by decide +kernel

/-- R62: a LOST neighbour, with room for both, when SERVICE RESET is taken. -/
theorem witness_lost_at_reset :
    let b := modifyPeer quiet 13 fun p => { p with liveness := .lost }
    service.isNeighbour 13 = true
      ∧ (((deliverAll service (received b)).peers.table[13]?).map (·.liveness)) = some .lost
      ∧ (deliverAll service (received b)).incidents.records.length < 31 := by decide +kernel

theorem witness_ReadsAndAlarmAck :
    takes quiet .node 5 0 [10, 0] ∧ takes quiet .platform 4 0 [1, 0] ∧ takes quiet .platform 4 0 [2, 0] ∧ takes quiet .power 3 0 [0]
      ∧ takes quiet .incident 6 0 [0] ∧ takes quiet .node 6 0 [] :=
  ⟨witness_takes _ _ _ (by decide), witness_takes _ _ _ (by decide), witness_takes _ _ _ (by decide), witness_takes _ _ _ (by decide),
    witness_takes _ _ _ (by decide), witness_takes _ _ _ (by decide)⟩

/-- R213: platforms VACANT and in DWELL, a breaker that waits, a local record and a copy, for the items of the READs. -/
theorem witness_read_items :
    let w : RestoreWait := { fromPort := true, requester := 14, id := none, count := 5 }
    let waits : BreakerRecord := { br0 with condition := some .opened, sectionState := some .dead, wait := some w }
    let copied := inc ⟨13, 1⟩ .operator 1 (.copy (copyPart true 350))
    ((quiet.platforms.get .up).standing = .vacant ∧ (quiet.platforms.get .up).lastDeparture = none ∧ (quiet.platforms.get .up).delayId = none)
      ∧ ((withDwell .dwell dwell).platforms.get .up).standing = .occupied .dwell dwell
      ∧ (withBreaker waits).power.breakers.get .uh = some waits
      ∧ ((inc id1 .operator 2 (.owned owned)).holding = .owned owned ∧ copied.holding = .copy (copyPart true 350)
        ∧ copied.platform = some ⟨14, .up⟩) := by decide +kernel

theorem witness_TimetableParts :
    let p : List Byte := [192, 1, 1, 0, 0, 7, 0xFF, 0xFF, 0xFF, 0, 1, 0, 0, 1]
    takes quiet .timetable 1 0 p ∧ shapePart p = true ∧ ready.nodeState = .ready ∧ (readPart p).total = 192 ∧ (readPart p).index = 1
      ∧ (checkEntries ⟨[], []⟩ 1 (readPart p).entries).toBool = true
      ∧ (checkEntries ⟨[entry 7 0 .pending], []⟩ 1 (readPart p).entries).toBool = false
      ∧ (∀ z, ([entry 3 256 .pending] : List Entry).getLast? = some z → z.departure ≤ 256) := by
  refine ⟨witness_takes _ _ _ (by decide), by decide +kernel, by decide, by decide +kernel, by decide +kernel, by decide +kernel, by decide +kernel, ?_⟩
  intro z h; cases h; decide

theorem witness_Amendments :
    let b (st : EntryState) := withEntries [entry 3 100 .consumed, entry 7 200 st, entry 9 300 .pending]
    takes (b .pending) .timetable 2 0 [1, 0, 0, 7] ∧ (b .pending).timetable.load = .loaded ∧ (0 : Byte).toNat % 64 = Track.up.code
      ∧ (b .inUse).timetable.sequences.get .up = [entry 3 100 .consumed] ++ entry 7 200 .inUse :: [entry 9 300 .pending]
      ∧ (∀ y ∈ [entry 3 100 .consumed], y.trip ≠ 7) ∧ (∀ x ∈ (b .pending).timetable.sequences.get .up, x.trip ≠ 8)
      ∧ (∃ y, [entry 3 100 .consumed].getLast? = some y ∧ 99 < y.departure)
      ∧ (∃ y, [entry 9 300 .pending].head? = some y ∧ y.departure < 301)
      ∧ (∃ a, { entry 7 200 .pending with arrival := some 150 }.arrival = some a ∧ 149 < a)
      ∧ (fieldInsert [2, 0, 0, 8, 0xFF, 0xFF, 0xFF, 0, 0, 200, 0, 1]).entry
        = some (.up, { entry 8 200 .pending with phrase := 1 })
      ∧ (∀ x ∈ (b .inUse).timetable.sequences.get .up, x.state = .inUse ∨ x.state = .consumed → x.departure ≤ 200)
      ∧ (b .inUse).timetable.total < 1536 := by
  refine ⟨takes_of_quiet rfl rfl _ _ _ _ (by decide), by decide, by decide, by decide +kernel, by decide, by decide +kernel,
    ⟨_, rfl, by decide⟩, ⟨_, rfl, by decide⟩, ⟨_, rfl, by decide⟩, ?_⟩
  decide +kernel

/-- R69: amendments without a timetable and with a platform, a trip, a time or an entry outside its range. -/
theorem witness_amend_refusals :
    quiet.timetable.load ≠ .loaded ∧ 1 < field [1, 2, 0, 7] 1 1 % 64 ∧ field [1, 0, 0, 0] 2 2 < 1 ∧ 9999 < field [1, 0, 39, 16] 2 2
      ∧ 1048575 < field [0, 0, 0, 7, 16, 0, 0] 4 3 ∧ (fieldInsert [2, 0, 0, 8, 0, 0, 201, 0, 0, 200, 0, 1]).entry = none := by decide +kernel

/-- R155, R162: an ORPHAN copy of a NODE_LOST, whose node is CURRENT or not. -/
theorem witness_adopt_lost :
    let r := { inc ⟨15, 3⟩ .nodeLost 2 (.copy (copyPart true 0)) with owner := 15, span := ⟨.both, 15, 15⟩ }
    let b := modifyPeer (withRecords [r]) 16 fun p => { p with liveness := .current }
    b.incidents.find ⟨15, 3⟩ = some r ∧ (∀ w ∈ b.incidents.records, w.isLocal = true → w.kind ≠ .nodeLost) ∧ r.id.origin = r.span.first
      ∧ (b.peers.entry 16).liveness = .current ∧ ((withRecords [r]).peers.entry 16).liveness ≠ .current := by decide +kernel

theorem witness_OperatorIncidents :
    let stop := inc id1 .emergencyStop 4 (.owned owned)
    let adopted := inc ⟨13, 1⟩ .emergencyStop 4 (.owned owned)
    takes quiet .incident 1 0 [3, 1, 0, 30, 0xFF, 0xFF, 0xFF, 0xFF]
      ∧ (readRaise service [3, 1, 0, 30, 0xFF, 0xFF, 0xFF, 0xFF]).isSome ∧ readRaise service [4, 1, 0, 30, 0xFF, 0xFF, 0xFF, 0xFF] = none
      ∧ quiet.incidents.records.length < 32
      ∧ (withRecords [stop]).incidents.find id1 = some stop ∧ stop.platform = some ⟨14, .up⟩ ∧ stop.isLocal = true
      ∧ (withRecords [adopted]).incidents.find ⟨13, 1⟩ = some adopted ∧ adopted.id.origin ≠ service.nodeNumber
      ∧ (withRecords [inc id1 .operator 2 (.copy (copyPart true 0))]).incidents.find id1 = some (inc id1 .operator 2 (.copy (copyPart true 0)))
      ∧ (List.replicate 254 1).length < 255 := by
  refine ⟨witness_takes _ _ _ (by decide), ?_⟩
  decide +kernel

theorem witness_AcknowledgeMarksTheRecord :
    let r := inc id1 .operator 2 (.owned owned)
    takes (withRecords [r]) .incident 2 0 [14, 1] ∧ (withRecords [r]).incidents.find id1 = some r ∧ owned.acknowledged = false
      ∧ ((withRecords [r]).incidents.records.length ≤ 32 ∧ ((withRecords [r]).incidents.records.map (·.id)).Nodup)
      ∧ quiet.incidents.find id1 = none
      ∧ (adoptIncident service (withRecords [inc id1 .operator 2 (.copy (copyPart true 0))]) id1).2 = .ok := by
  refine ⟨takes_of_quiet rfl rfl _ _ _ _ (by decide), ?_⟩
  decide +kernel

theorem witness_AnnounceFramesAndRequests :
    service.nodeState ≠ .configuring ∧ announce.first ≤ service.nodeNumber ∧ service.nodeNumber ≤ announce.last
      ∧ takes quiet .announce 1 0 [1, 7, 15, 23, 112, 0xFF, 0xFF, 0xFF, 0xFF, 0xFF, 0xFF, 0, 0, 0, 0xFF, 0xFF, 1, 1, 15, 255]
      ∧ (23 : Byte).toNat * 256 + (112 : Byte).toNat = 6000 ∧ messageCount (quiet.announce.queues.get .up) ≤ 11
      ∧ quiet.store.reserve + 1 ≤ quiet.store.free ∧ quiet.announce.heldIds.length < 65535
      ∧ (service.nodeNumber < (15 : Byte).toNat ∧ (31 : Byte).toNat ≤ 31) := by
  refine ⟨by decide, by decide, by decide, witness_takes _ _ _ (by decide), ?_⟩
  decide +kernel

/-- A chain is admitted at a quiet node; the other hypotheses of that clause hold there. -/
theorem witness_AdmissionHoldsBlocks :
    let o : Offer :=
      { zone := .up, priority := 3, repeats := 0, interval := 50, notBefore := none, expiry := none, link := none, origin := .operator
        kind := none, members := [[1]] }
    (admitChain service quiet o).2 = .admitted 1 ∧ 1 ≤ o.members.length ∧ o.members.length ≤ 3 ∧ quiet.announce.heldIds = []
      ∧ quiet.store.blocks = List.replicate 96 none := by decide +kernel

/-- R6: a pulse 0.25 s after the one before it meets the hypotheses whatever the run has counted. -/
theorem witness_run_restarts :
    { (Env.atReset 14).time with run := 7 }.mode = .holdover ∧ 250 ≤ 250 ∧ (∀ g ∈ List.replicate 9 249, g < 250) := by decide

/-! The power side: the section of U14 with its two ends, an id that leaves, and a high end that waits. -/

/-- Node 14 with its own UH breaker and what CURRENT node 15 has reported for UL. -/
def withSection (r : BreakerRecord) (far : Option BreakerState) : Blocks :=
  modifyPeer (withBreaker r) 15 fun p =>
    { p with liveness := .current, reports := p.reports.set .ul (far.map fun s => ⟨s, false, none, none, true⟩) }

/-- A chain of UP that withdraws on U14. -/
def suspendChain : Chain := { chain with link := some (.traction u14) }

/-- R127, R128: a section that becomes DEAD in SERVICE with a SUSPEND to two zones, one that leaves DEAD and withdraws its chain. -/
theorem witness_sections :
    let opened : BreakerRecord := { br0 with condition := some .opened, inputClosed := some false, sectionState := some .live }
    let b := withSection opened (some .opened)
    let back := (withSection { opened with sectionState := some .dead } (some .closed)).setQueue .up [suspendChain]
    (b.power.breakers.get .uh = some opened ∧ (farReport service b .uh).map (·.1) = some .opened
        ∧ service.sectionAhead .up = some (service.fed .uh) ∧ service.nodeState = .service)
      ∧ (let x := sectionUpdate service b .uh
        ((x.power.breakers.get .uh).map (·.sectionState)) = some (some .dead) ∧ (x.announce.queues.get .up).map (·.link) = [some (.traction u14)]
          ∧ (x.announce.queues.get .concourse).map (·.link) = [some (.traction u14)])
      ∧ (back.power.breakers.get .uh = some { opened with sectionState := some .dead } ∧ suspendChain.place = .waiting
        ∧ (∀ z, (back.announce.queues.get z).filter (fun d => decide (d.link = some (.traction u14))) = if z = .up then [suspendChain] else [])
        ∧ (sectionUpdate service back .uh).announce.queues.get .up = []) := by
  refine ⟨by decide +kernel, by decide +kernel, by decide +kernel, by decide, ?_, by decide +kernel⟩
  intro z; cases z <;> decide +kernel

/-- R127: the section of a breaker without a state, and one of a record not derived before. -/
theorem witness_new_section :
    ((withSection br0 none).power.breakers.get .uh = some br0 ∧ br0.condition = none)
      ∧ ((withSection { br0 with condition := some .opened } none).power.breakers.get .uh = some { br0 with condition := some .opened })
      ∧ ((sectionUpdate service (withSection { br0 with condition := some .opened } none) .uh).power.breakers.get .uh).map (·.sectionState)
        = some (some .unsure) := by decide +kernel

/-- R55, R132: node 15 CURRENT and LOST; both ends of U14 known OPEN. -/
theorem witness_far_report :
    let b := withSection { br0 with condition := some .opened } (some .opened)
    let lost := modifyPeer b 15 fun p => { p with liveness := .lost }
    (Breaker.uh, 15, Breaker.ul) ∈ [(Breaker.ul, service.nodeNumber - 1, Breaker.uh), (.uh, service.nodeNumber + 1, .ul)]
      ∧ (b.peers.table[15]?).isSome ∧ (lost.peers.table[15]?).isSome ∧ farReport service b .uh = some (.opened, false)
      ∧ farReport service lost .uh = none ∧ bothOpen service b u14 = true ∧ bothOpen service lost u14 = false := by decide +kernel

/-- R83: the trip of the ninth PENDING entry, and one of an entry that is not PENDING. -/
theorem witness_not_ahead :
    let l := entry 99 50 .inUse :: (List.range 9).map fun i => entry (i + 1) (100 * i) .pending
    (∀ t ∈ [9, 99], ∀ x ∈ (l.filter fun y => decide (y.state = .pending)).take 8, x.trip ≠ t) ∧ (∀ x ∈ l, 1 ≤ x.trip) := by decide +kernel

/-- R99, R100: the starts of both substations of U14, and each reason at its source. -/
theorem witness_reasons :
    let b := quiet.setPeers { quiet.peers with starts := (quiet.peers.starts.set 14 ⟨some 39900, 600, false⟩).set 15 ⟨some 39950, 601, false⟩ }
    service.sectionAhead .up = some u14 ∧ b.peers.starts[14]? = some ⟨some 39900, 600, false⟩
      ∧ b.peers.starts[15]? = some ⟨some 39950, 601, false⟩ ∧ staggerTime service b .up = some 39960
      ∧ staggerTime service quiet .up = none ∧ { service with nodeNumber := 0 }.sectionAhead .down = none
      ∧ reasonPower service (withBreaker { br0 with sectionState := some .dead }) .up = true
      ∧ reasonIncident service (withRecords [inc id1 .operator 3 (.owned owned)]) .up = true
      ∧ reasonIncident service (withRecords [inc id1 .operator 2 (.owned owned)]) .up = false := by decide +kernel

/-- R98: a HELD train whose set empties and one whose set does not, and a RELEASED one whose reason comes. -/
theorem witness_told :
    let held (p i : Bool) : Dwell := { dwell with reasons := { Reasons.empty with power := p, incident := i } }
    let dead := (withDwell .released dwell).setBreaker .uh { br0 with sectionState := some .dead }
    (∀ i ∈ [true, false], ((withDwell .held (held true i)).platforms.get .up).standing = .occupied .held (held true i))
      ∧ reasonPower service (withDwell .held (held true false)) .up = false
      ∧ (((toldPower service (withDwell .held (held true false)) .up).platforms.get .up).standing.state = .released)
      ∧ (dead.platforms.get .up).standing = .occupied .released dwell ∧ reasonPower service dead .up = true
      ∧ ((toldPower service dead .up).platforms.get .up).standing.state = .held := by decide +kernel

/-- UL of node 14 waiting for its low end, whose node is CURRENT, with LOCAL set or not. -/
def waitingUl (keyLocal : Bool) : Blocks :=
  let w : RestoreWait := { fromPort := false, requester := 13, id := none, count := 5 }
  let b := modifyPeer (quiet.setBreaker .ul { br0 with condition := some .opened, inputClosed := some false, wait := some w }) 13
    fun p => { p with liveness := .current }
  b.setPower { b.power with keyLocal := keyLocal }

/-- R137: the low end of U13 comes to CLOSED by either frame, or is LOST, while UL waits; the close conditions hold, or LOCAL fails them. -/
theorem witness_restore_wait :
    (Breaker.ul.atHighEnd = true ∧ service.farNode .ul = (char 13).toNat ∧ (char 13).toNat ≠ service.nodeNumber)
      ∧ (∀ l ∈ [true, false], ((heardFrom service (waitingUl l) (char 13)).power.breakers.get .ul).map (·.wait)
            = some (some { fromPort := false, requester := 13, id := none, count := 5 })
          ∧ ((heardFrom service (waitingUl l) (char 13)).peers.table[13]?).isSome
          ∧ (farReport service (heardFrom service (waitingUl l) (char 13)) .ul).map (·.1) ≠ some .closed)
      ∧ (comes service 13 (.power power) = true ∧ comes service 13 (.status status) = true)
      ∧ (power.breaker = Breaker.ul.far ∧ power.state = .closed ∧ status.breakers.get Breaker.ul.far = .known .closed)
      ∧ (closeRefusal service (waitingUl false) .ul false = none ∧ closeRefusal service (waitingUl true) .ul false = some .keyLocal)
      ∧ ∀ other ∈ [Breaker.uh, .dl, .dh], (waitingUl false).waitOf other = none := by decide +kernel

/-- R137: either frame closes the waiting breaker, or ends its wait where LOCAL stands. -/
theorem test_restore_wait_ends :
    ∀ c ∈ [Instr.powerFrame (char 13) (Frame.power power).payload, .statusFrame (char 13) (Frame.status status).payload],
      ∀ l ∈ [true, false], ((after c service (waitingUl l)).map fun n =>
        ((n.blk.condition .ul, n.blk.waitOf .ul), (n.blk.field.coils.get .ul).closeLine))
        = some ((some (if l then .opened else .closing cmd), none), !l) := by decide +kernel

/-- R118: the open command of a breaker in each state it moves, and of one that waits for its low end. -/
theorem witness_open_command :
    let w : RestoreWait := { fromPort := true, requester := 14, id := none, count := 5 }
    let r (c : Condition) (i : Bool) : BreakerRecord := { br0 with condition := some c, inputClosed := some i }
    let moved (r : BreakerRecord) := ((openCommand service (withBreaker r) .uh).condition .uh, (openCommand service (withBreaker r) .uh).field.coils.uh.openLine)
    (∀ c ∈ [Condition.closed, .opened, .failed, .closing cmd, .opening cmd], (withBreaker (r c true)).power.breakers.get .uh = some (r c true))
      ∧ moved (r .closed true) = (some (.opening { cmd with limit := 30 }), true)
      ∧ moved (r (.closing cmd) false) = (some (.opening { cmd with overtook := true }), true)
      ∧ moved (r .failed true) = (some (.opening cmd), true) ∧ moved (r .failed false) = (some .opened, false)
      ∧ moved (r .opened false) = (some .opened, false)
      ∧ ({ r .opened false with wait := some w } : BreakerRecord).wait = some w
      ∧ (openCommand service (withBreaker { r .opened false with wait := some w }) .uh).waitOf .uh = none := by decide +kernel

/-- R126, R141, R122, R193: an id in one lockout set, in a latch, as a fail id, and in the link of a chain. -/
theorem witness_departures :
    let locked : BreakerRecord := { br0 with lockout := [id1, ⟨14, 2⟩] }
    let failed : BreakerRecord := { br0 with condition := some .failed, inputClosed := some true, failId := some id1, lockout := [⟨14, 2⟩] }
    let latch : Latch := { isSet := true, id := some id1, ignored := 3 }
    let linked : Chain := { chain with link := some (.incident id1) }
    ((withBreaker locked).power.breakers.get .uh = some locked ∧ (powerIdLeft service (withBreaker locked) id1).power.breakers.get .uh
          = some { locked with lockout := [⟨14, 2⟩] })
      ∧ (∀ br ∈ [Breaker.ul, .dl, .dh], (withBreaker locked).power.breakers.get br = some br0 ∧ id1 ∉ br0.lockout ∧ br0.failId ≠ some id1)
      ∧ ((quiet.setLatch .up latch).power.latches.get .up = latch ∧ (quiet.setLatch .up latch).power.latches.get .down = .clear
        ∧ (powerIdLeft service (quiet.setLatch .up latch) id1).power.latches.get .up = { isSet := false, id := none, ignored := 3 })
      ∧ ((withBreaker failed).power.breakers.get .uh = some failed
        ∧ (powerIdLeft service (withBreaker failed) id1).condition .uh = some (.opening cmd))
      ∧ (∀ z ∈ allZones, ((withChain linked .idle).announce.queues.get z).filter (fun d => decide (d.link = some (.incident id1)))
        = if z = .up then [linked] else []) := by decide +kernel

/-- R192: channel numbers outside 1 to C, an IDLE channel, and one that plays or stops another message. -/
theorem witness_audio_refusals :
    takes quiet .announce 4 0 [3, 0, 5] ∧ takes quiet .announce 5 0 [0, 0, 5] ∧ quiet.announce.channels.length < 3
      ∧ quiet.announce.channel 1 = some .idle ∧ (withChannel (.playing .up 6 0 0)).announce.channel 1 = some (.playing .up 6 0 0)
      ∧ (withChannel (.stopping .up 6 .preempt 0 0)).announce.channel 1 = some (.stopping .up 6 .preempt 0 0) ∧ 6 ≠ 5 :=
  ⟨witness_takes _ _ _ (by decide), witness_takes _ _ _ (by decide), by decide +kernel⟩

/-- R195, R196: two members for two zones with a link and a not-before, one with a range that takes this node in, and what each
answers. -/
theorem witness_announce_requests :
    let two : List Byte := [5, 7, 15, 23, 112] ++ opt3 (some 50000) ++ opt3 none ++ [1, 14, 1] ++ opt1 none ++ opt1 none
      ++ [char 2] ++ ([[1, 2], [4095]].flatMap fun m => char m.length :: m.flatMap chars2)
    let range (f l : Nat) : List Byte := [2, 0, 0, 0, 50] ++ opt3 none ++ opt3 (some 40001) ++ [0, 0xFF, 0xFF] ++ opt1 (some f) ++ opt1 (some l)
      ++ [char 1] ++ ([[3]].flatMap fun m => char m.length :: m.flatMap chars2)
    let b := withRecords [inc id1 .operator 2 (.owned owned)]
    let answer (p : List Byte) (b : Blocks) := (after (.announce 0 p) service b).map fun n => n.blk.port.tx
    takes b .announce 1 0 two ∧ takes b .announce 1 0 (range 14 31) ∧ two.length ≤ 92
      ∧ answer two b = some (some (.answer ⟨false, 6, 0, [0, 0, 0, 1, 0, 0, 3]⟩))
      ∧ answer two quiet = some (some (.answer ⟨false, 6, 0, [10]⟩))
      ∧ (after (.announce 0 (range 14 31)) service quiet).map (fun n => (n.blk.port.answers, (n.blk.announce.queues.get .down).map (·.headId),
          n.blk.bus.tx)) = some ([⟨false, 6, 0, [0, 0, 0, 1]⟩], [1], .waiting)
      ∧ answer (range 15 31) quiet = some (some (.answer ⟨false, 6, 0, [0]⟩))
      ∧ answer (range 15 32) quiet = some (some (.answer ⟨false, 6, 0, [2]⟩)) :=
  ⟨takes_of_quiet rfl rfl _ _ _ _ (by decide), takes_of_quiet rfl rfl _ _ _ _ (by decide), by decide +kernel⟩

theorem witness_FramesReadBackWhole :
    (Frame.power power).fits 32 14 ∧ parseFrame 32 14 .power (Frame.power power).payload = some (.power power) := by
  refine ⟨⟨by decide, by decide, ?_⟩, by decide +kernel⟩
  intro r h; cases h

/-- The emergency stop of the DOWN platform, and a breaker of its track that holds its id. -/
def stopDown : Incident :=
  { inc ⟨14, 2⟩ .emergencyStop 4 (.owned { owned with floor := 4 }) with span := ⟨.down, 13, 14⟩, platform := some ⟨14, .down⟩ }
def stopped : BreakerRecord := { br0 with lockout := [⟨14, 2⟩] }

/-- A node in SERVICE with a RELEASED train in use of its entry, an emergency stop at the other platform, one trained queue, two incidents
with their blocks, two frames queued and one message playing: it meets every invariant, and a clock pulse takes it to a next state. -/
def running : Node :=
  let b := (withDwell .released { dwell with entry := some 7, targetOver := true, staggerOpen := false }).setStarter .up true
  let b := (b.setApproach .down [approach 3 100, approach 5 100]).setSequence .up [entry 3 100 .consumed, entry 7 200 .inUse]
  let b := (b.setRecords [inc id1 .delay 1 (.owned owned), stopDown]).setLatch .down ⟨true, some ⟨14, 2⟩, 0⟩
  let b := (b.setBreaker .dl stopped).setBreaker .dh stopped
  let b := b.setStore (((b.store.grantIncident id1).grantIncident ⟨14, 2⟩).grantMessage 5 1)
  let b := ((b.setQueue .down [{ chain with place := .onChannel }]).setChannel 1 (.playing .down 5 0 0)).setBus { b.bus with tx := .waiting, waiting := [.isolate u14 id1, .status status] }
  ⟨service, b⟩

theorem witness_StepKeepsLinesTrue : running.LinesTrue where
  time := by decide +kernel
  coils br := by cases br <;> exact ⟨by decide +kernel, by decide +kernel⟩
  locked br r _ _ := by cases br <;> exact ⟨by decide +kernel, by decide +kernel⟩
  alarm := by decide +kernel
  starters t := by cases t <;> decide +kernel

theorem witness_StepKeepsReleasesClear : running.ReleasesClear where
  platforms t := by
    cases t
    · refine ⟨by decide, ?_⟩
      exact ⟨by decide +kernel, by decide +kernel, by decide +kernel, rfl⟩
    · exact True.intro
  table := ⟨by decide +kernel, by decide +kernel⟩
  latches t h := by
    cases t
    · exact absurd h (by decide +kernel)
    · refine ⟨⟨14, 2⟩, stopDown, by decide +kernel, by decide +kernel, rfl, rfl, rfl, rfl, rfl, ?_⟩
      intro br x hbr hx
      cases br <;> cases hbr <;> cases hx <;> decide
  severities := by decide +kernel
  sets br r h := by cases br <;> cases h <;> decide

theorem witness_StepKeepsLinksProper : running.LinksProper where
  port := ⟨by decide +kernel, by decide +kernel, by decide +kernel, fun _ => ⟨rfl, rfl⟩⟩
  bus := ⟨by decide +kernel, by decide +kernel, by decide +kernel, List.cons_ne_nil _ _, by decide +kernel⟩

theorem witness_StepKeepsStoreTrue : running.StoreTrue where
  table := ⟨by decide +kernel, by decide +kernel⟩
  size := by decide +kernel
  incidents id := by
    by_cases h : id = id1
    · subst h; decide +kernel
    by_cases h2 : id = ⟨14, 2⟩
    · subst h2; decide +kernel
    · have hb : running.blk.store.blocks = some (.incident id1) :: some (.incident ⟨14, 2⟩) :: some (.message 5 1)
          :: List.replicate 93 none := by decide +kernel
      have hr : running.blk.incidents.records.map (·.id) = [id1, ⟨14, 2⟩] := by decide +kernel
      rw [hb, hr]
      simp [h, h2, Ne.symm h, Ne.symm h2]
  messages := by decide +kernel

theorem witness_StepKeepsTablesProper : running.TablesProper where
  sequences t := by cases t <;> exact ⟨by decide +kernel, by decide +kernel⟩
  entries t := by
    cases t
    · refine ⟨?_, ?_, by decide +kernel⟩
      · intro x hx hs
        have hm : x = entry 3 100 .consumed ∨ x = entry 7 200 .inUse := by
          have : x ∈ [entry 3 100 .consumed, entry 7 200 .inUse] := hx
          simpa using this
        rcases hm with rfl | rfl
        · cases hs
        · exact ⟨_, _, rfl, rfl⟩
      · intro p d trip hs he
        cases hs; cases he
        exact ⟨by decide, entry 7 200 .inUse, by decide +kernel, rfl, rfl⟩
    · refine ⟨fun x hx => (nomatch (show x ∈ ([] : List Entry) from hx)), ?_, by decide +kernel⟩
      intro p d trip hs; cases hs
  total := by decide +kernel
  load := True.intro
  approaching t := by cases t <;> exact ⟨by decide +kernel, by decide +kernel, by decide +kernel⟩
  zones z := by cases z <;> decide +kernel
  ranked z := by cases z <;> decide +kernel
  channels := by decide +kernel
  oneChannel := by decide +kernel
  lockouts br r h := by cases br <;> cases h <;> decide

theorem witness_StepKeepsInvariants : ∃ n, step ⟨running, [.clockPulse 100]⟩ = .next ⟨n, []⟩ := ⟨_, rfl⟩

/-! ### Single steps -/

/-- R5: a clock pulse in PULSED moves service time on by one. -/
theorem test_pulse_advances : (after (.clockPulse 100) ready quiet).map (·.env.time.service) = some 40001 := by decide +kernel

/-- R9: the limit holds, and the first advance to it sets the overrun flag. -/
theorem test_pulse_at_limit :
    (after (.clockPulse 100) (env .ready 1048574) quiet).map (fun n => (n.env.time.service, n.env.time.overrun)) = some (1048575, true) := by
  decide +kernel

/-- R6: a pulse 250 ms after the last begins the run again. -/
theorem test_run_restarts :
    (after (.clockPulse 250) { ready with time := { ready.time with mode := .holdover, run := 9 } } quiet).map (·.env.time.run) = some 1 := by
  decide +kernel

/-- R36, R37: a first collision puts the frame in hand in BACKOFF with attempt count 1. -/
theorem test_collision_backs_off :
    (after (.collision .mismatch [0x96]) ready (withBus (.sending ⟨isolateFrame, 0, false⟩) [])).map (·.blk.bus.tx)
      = some (.backoff ⟨isolateFrame, 1, false⟩) := by decide +kernel

/-- R35, R44: 19 bit times held and one more begin an attempt, and a frame in assembly is truncated by them. -/
theorem test_attempt_reads_idle_count :
    let b := setRx (setIdle (withBus .waiting [isolateFrame]) 19) (.frame [0x96, 13])
    (after (.attemptBegin 1) ready b).map (fun n => (n.blk.bus.tx, n.blk.bus.rx, n.blk.bus.truncatedErrors))
        = some (.sending ⟨isolateFrame, 0, false⟩, .seek, 1)
      ∧ (after (.attemptBegin 0) ready b).map (fun n => (n.blk.bus.tx, n.blk.bus.idleCount)) = some (.waiting, 19) := by decide +kernel

/-- R47: a valid foreign frame under this node's own number silences it and empties its queue. -/
theorem test_own_number_silences :
    (after (.isolateFrame 14 isolateFrame.payload) ready (withBus .waiting [.status status])).map
      (fun n => (n.blk.bus.silent, n.blk.bus.tx, n.blk.bus.waiting)) = some (true, .off, []) := by decide +kernel

/-- R34: the ISOLATE frame of U14 under 14/1, character by character. -/
theorem test_isolate_payload : isolateFrame.payload = [14, 14, 1] := by decide +kernel

/-- R34: the track stands in the top bit of a section character. -/
theorem test_section_character : (Frame.isolate ⟨.down, 14⟩ id1).payload = [0x8E, 14, 1] := by decide +kernel

/-- R123: a protection trip leaves the breaker OPEN and locked under the new incident. -/
theorem test_trip_locks :
    let b := withStatus (withBreaker { br0 with condition := some .closed, inputClosed := some true }) .uh false 40000
    (after (.breakerStatusChange .uh false) service b).map (fun n => (n.blk.power.breakers.get .uh).map fun r => (r.condition, r.lockout))
      = some (some (some .opened, [id1])) := by decide +kernel

/-- R139, R149: an emergency stop raises a severity 4 incident and turns the alarm on. -/
theorem test_emergency_stop :
    (after (.plungerPress .up) service (withPlunger quiet .up true 40000)).map
      (fun n => (n.blk.incidents.alarm, n.blk.field.alarmLine, n.blk.incidents.records.map (·.severity))) = some (true, true, [4]) := by
  decide +kernel

/-- R18, R107, R108: a departure from RELEASED leaves the platform VACANT with its last departure, whose time is the stamp of the
accepted change, not the time of its delivery. -/
theorem test_departure :
    (after (.departure .up) service (withOccupancy running.blk .up false 39999)).map
        (fun n => ((n.blk.platforms.get .up).standing, (n.blk.platforms.get .up).lastDeparture, n.blk.field.waiting.occupancy.get .up))
      = some (.vacant, some ⟨7, 39999⟩, none) := by decide +kernel

/-- R108, R110, R112: a departure from DWELL of the train of entry 7, scheduled at 200, at 801 consumes the entry and raises DELAY and
DEPARTED_UNRELEASED, for its lateness of 601 lies above Ldelay. -/
theorem test_late_departure :
    let d : Dwell := { dwell with entry := some 7, scheduled := some 200 }
    let b := (withEntries [entry 7 200 .inUse]).setPlatform .up { quiet.platforms.up with standing := .occupied .dwell d }
    (after (.departure .up) service (withOccupancy b .up false 801)).map
        (fun n => (n.blk.incidents.records.map (·.kind), (n.blk.platforms.get .up).delayId, (n.blk.timetable.sequences.get .up).map (·.state)))
      = some ([.delay, .departedUnreleased], some id1, [.consumed]) := by decide +kernel

/-- R122: a rise at a FAILED breaker raises nothing, and a lockout then opens it. -/
theorem test_failed_follows_input :
    let failed : BreakerRecord := { br0 with condition := some .failed, inputClosed := some false, lockout := [⟨13, 1⟩] }
    (after (.breakerStatusChange .uh true) service (withStatus (withBreaker failed) .uh true 39999)).map
        (fun n => ((n.blk.power.breakers.get .uh).map (fun r => r.condition.map (·.state)), n.blk.incidents.records.length))
      = some (some (some .opening), 0) := by decide +kernel

/-- R11: a press accepted in CONFIGURING is handled before the CONFIGURE, and its incident and latch carry over. -/
theorem test_configure_meets_accepted_press :
    (after (.configure 0 (32 :: List.replicate 95 1)) configuring (withPlunger quiet .up true 39999)).map
        (fun n => (n.env.nodeState, n.blk.power.latches.up.id, n.blk.incidents.records.map (·.kind)))
      = some (.ready, some id1, [.emergencyStop]) := by decide +kernel

/-- R13: a rise accepted before a DAY END has made the platform busy. -/
theorem test_day_end_meets_accepted_rise :
    (after (.dayEnd 9 []) service (withOccupancy quiet .up true 39999)).map
        (fun n => (n.env.nodeState, n.blk.port.answers, (n.blk.platforms.get .up).standing.state))
      = some (.service, [⟨false, 1, 9, [12]⟩], .dwell) := by decide +kernel

/-- R14: a press accepted before a SERVICE RESET refuses it. -/
theorem test_reset_meets_accepted_press :
    (after (.serviceReset 9 []) service (withPlunger quiet .up true 39999)).map
        (fun n => (n.env.nodeState, n.blk.port.answers, n.blk.power.latches.up.isSet))
      = some (.service, [⟨false, 1, 9, [13]⟩], true) := by decide +kernel

/-- R14, R21: a FAILED breaker takes the level its input has been filtered to, and no trip follows. -/
theorem test_reset_takes_filtered_level :
    let failed : BreakerRecord := { br0 with condition := some .failed, inputClosed := some true }
    (after (.serviceReset 9 []) service (withStatus (withBreaker failed) .uh false 39999)).map
        (fun n => ((n.blk.power.breakers.get .uh).map (·.condition), n.blk.field.waiting.status.get .uh, n.blk.incidents.records.length))
      = some (some (some .opened), none, 0) := by decide +kernel

/-- R191: AUDIO DONE that completes a PREEMPT stop of a chain's last member ends the play, clears the run and frees the channel. -/
theorem test_done_completes_preempt_stop :
    let b := withChain { chain with place := .onChannel, repeats := 0 } (.stopping .up 5 .preempt 1 0)
    (after (.audioDone 0 [1, 0, 5]) service
          (b.setAnnounce { b.announce with faults := b.announce.faults.set .up { fault := false, run := 1 } })).map
        (fun n => (n.blk.announce.queues.get .up, n.blk.announce.faults.get .up, n.blk.announce.channels.head?))
      = some ([], ⟨false, 0⟩, some .idle) := by decide +kernel

/-- R16, R18: the sampling point of the F-th sample accepts the change and stamps it with the service time held. -/
theorem test_sample_accepts :
    let r : FilterRecord := { level := some false, candidate := some true, run := 3 }
    let l : InputLevels :=
      { occupancyUp := true, occupancyDown := false, plungerUp := false, plungerDown := false, statusUl := false, statusUh := false
        statusDl := false, statusDh := false, key := false }
    (after (.samplingPoint l) service (setOccupancy quiet .up r none)).map
        (fun n => (n.blk.field.filters.occupancy.get .up, n.blk.field.waiting.occupancy.get .up))
      = some ({ level := some true, candidate := none, run := 0 }, some ⟨true, 40000⟩) := by decide +kernel

/-- R44, R45: a whole valid frame among the characters before an idle line is judged complete, and is no truncated frame. -/
theorem test_idle_after_whole_frame :
    let heard := busChars 13 FrameClass.isolate.code isolateFrame.payload (crc (busBody 13 FrameClass.isolate.code isolateFrame.payload))
    (after (.lineIdle heard 20) service quiet).map (fun n => (n.blk.bus.rx, n.blk.bus.validFrames, n.blk.bus.truncatedErrors))
      = some (.seek, 1, 0) := by decide +kernel

/-- R42, R49: a STATUS point that comes by in CONFIGURING is no point to report at after CONFIGURE. -/
theorem test_no_status_point_in_configuring :
    let b := quiet.setBus { quiet.bus with advances := 9 }
    (b.tick false 0 1).bus.statusDue = false ∧ (b.tick true 0 1).bus.statusDue = true := by decide +kernel

/-- R118: an open command puts a FAILED breaker whose input is OPEN in OPEN. -/
theorem test_failed_open_becomes_open :
    let b := withPlunger (withBreaker { br0 with condition := some .failed, inputClosed := some false }) .up true 40000
    (after (.plungerPress .up) service b).map (fun n => (n.blk.power.breakers.get .uh).map (·.condition)) = some (some (some .opened)) := by
  decide +kernel

/-- R52: a silence count of 25 makes a CURRENT peer STALE, and 24 does not. -/
theorem test_stale :
    let b (n : Nat) := modifyPeer quiet 13 fun p => { p with liveness := .current, silence := n }
    ((after (.peerStale 13) service (b 25)).map fun n => (n.blk.peers.entry 13).liveness) = some .stale
      ∧ ((after (.peerStale 13) service (b 24)).map fun n => (n.blk.peers.entry 13).liveness) = some .current := by decide +kernel

/-- R211: a request of the wrong length is answered RANGE, one the node state does not take STATE. -/
theorem test_request_refusals :
    (after (.hold 9 []) service quiet).map (·.blk.port.tx) = some (some (.answer ⟨false, 3, 9, [2]⟩))
      ∧ (after (.hold 9 [0]) configuring quiet).map (·.blk.port.tx) = some (some (.answer ⟨false, 3, 9, [3]⟩)) := by decide +kernel

/-- R150: RAISE answers the new incident's id. -/
theorem test_raise_answers_id :
    (after (.raise 1 [1, 1, 0, 0, 0xFF, 0xFF, 0xFF, 0xFF]) service quiet).map (·.blk.port.answers)
      = some [⟨false, 5, 1, [0, 14, 1]⟩] := by decide +kernel

/-- R168, R179: a newcomer that displaces a chain and takes the id one of its members had still holds its own block. -/
theorem test_displaced_id_keeps_its_block :
    let old : List Chain := (List.range 12).map fun i => { chain with members := [{ member with id := 16 - i }], order := i + 1 }
    let b := ((quiet.setQueue .up old).setAnnounce { (quiet.setQueue .up old).announce with lastMessageId := 4 }).setStore
      (quiet.store.grantMessage 5 1)
    let o : Offer :=
      { zone := .up, priority := 7, repeats := 0, interval := 50, notBefore := none, expiry := none, link := none, origin := .operator
        kind := none, members := [[1]] }
    (admitChain service b o).2 = .admitted 5 ∧ (admitChain service b o).1.store.blocks.count (some (.message 5 1)) = 1 := by
  decide +kernel

/-- R170: with no incident held the store keeps 32 blocks back, so that messages may take 64. -/
theorem test_store_reserve : (Blocks.atReset 14).store.reserve = 32 ∧ (Blocks.atReset 14).store.allows 64 = true
    ∧ (Blocks.atReset 14).store.allows 65 = false := by decide +kernel

end Sys2Proof.Tests
end

/-! SUPPORT. What an operation of one block leaves of the others, said as relations between the blocks before and after it, from the
narrowest to the widest: `Announced`, `Told`, `Sheds`, `Keeps` (with `Spares`) and `LinesKept`. Each is reflexive and transitive, so that an operation
made of several keeps what each of them keeps. -/

namespace Sys2Proof.Machine

/-! ### Lines and starters of the blocks (R24 to R26, R89, R119, R164) -/

/-- What `Node.LinesTrue` says of the blocks, the rule of R119 left out for the breakers in `x`: an operation that adds to a lockout set
breaks it for its breaker until the close pulse has ended. -/
structure Blocks.LinesOk (x : Breaker → Prop) (b : Blocks) : Prop where
  coils : ∀ br, (b.field.coils.get br).exclusive
  locked : ∀ br r, ¬x br → b.power.breakers.get br = some r → r.lockedOut = true →
    (b.field.coils.get br).closeLine = false ∧ (b.field.coils.get br).pendingClose = false
  alarm : b.field.alarmLine = b.incidents.alarm
  starters : ∀ t, b.field.starters.get t = decide ((b.platforms.get t).standing.state = .released)

/-- The exemption of no breaker. -/
def noBreaker : Breaker → Prop := fun _ => False

theorem Node.linesTrue_iff (n : Node) :
    n.LinesTrue ↔ n.env.time.service ≤ Config.serviceTimeMax ∧ n.blk.LinesOk noBreaker := by
  constructor
  · rintro ⟨time, coils, locked, alarm, starters⟩
    exact ⟨time, coils, fun br r _ => locked br r, alarm, starters⟩
  · rintro ⟨time, coils, locked, alarm, starters⟩
    exact ⟨time, coils, fun br r => locked br r id, alarm, starters⟩

/-- No lockout is set that was not set before. -/
def LockoutsFrom (b b' : Blocks) : Prop :=
  ∀ br r', b'.power.breakers.get br = some r' → r'.lockedOut = true →
    ∃ r, b.power.breakers.get br = some r ∧ r.lockedOut = true

theorem Blocks.LinesOk.of_lines {x : Breaker → Prop} {b b' : Blocks} (h : b.LinesOk x)
    (hcoils : b'.field.coils = b.field.coils) (hlock : LockoutsFrom b b')
    (halarm : b.field.alarmLine = b.incidents.alarm → b'.field.alarmLine = b'.incidents.alarm)
    (hstart : (∀ t, b.field.starters.get t = decide ((b.platforms.get t).standing.state = .released)) →
      ∀ t, b'.field.starters.get t = decide ((b'.platforms.get t).standing.state = .released)) : b'.LinesOk x where
  coils br := by rw [hcoils]; exact h.coils br
  locked br r' hx hr' hl := by
    obtain ⟨r, hr, hl⟩ := hlock br r' hr' hl
    rw [hcoils]; exact h.locked br r hx hr hl
  alarm := halarm h.alarm
  starters := hstart h.starters

/-! ### Folds -/

/-- A fold of steps that each stand in a preorder stands in it. -/
theorem foldl_related {α β : Type} {R : β → β → Prop} (refl : ∀ b, R b b) (trans : ∀ {a b c}, R a b → R b c → R a c)
    {f : β → α → β} (hf : ∀ b x, R b (f b x)) (l : List α) (b : β) : R b (l.foldl f b) := by
  induction l generalizing b with
  | nil => exact refl b
  | cons x l ih => exact trans (hf b x) (ih _)

/-- A fold of steps that each keep a property keeps it. -/
theorem foldl_keeps {α β : Type} {P : β → Prop} {f : β → α → β} (hf : ∀ b x, P b → P (f b x)) (l : List α) (b : β) (h : P b) :
    P (l.foldl f b) := by
  induction l generalizing b with
  | nil => exact h
  | cons x l ih => exact ih _ (hf b x h)

/-! ### Announced: the Announcement Controller, its blocks in the store, and reports -/

/-- Only chains, blocks of the store and reports are other than before, and there are as many channels (R182). -/
structure Announced (b b' : Blocks) : Prop where
  field : b'.field = b.field := by rfl
  bus : b'.bus = b.bus := by rfl
  peers : b'.peers = b.peers := by rfl
  timetable : b'.timetable = b.timetable := by rfl
  describer : b'.describer = b.describer := by rfl
  platforms : b'.platforms = b.platforms := by rfl
  power : b'.power = b.power := by rfl
  incidents : b'.incidents = b.incidents := by rfl
  channels : b'.announce.channels.length = b.announce.channels.length := by rfl

theorem Announced.refl (b : Blocks) : Announced b b where

theorem Announced.trans {a b c : Blocks} (h : Announced a b) (k : Announced b c) : Announced a c where
  field := k.field.trans h.field
  bus := k.bus.trans h.bus
  peers := k.peers.trans h.peers
  timetable := k.timetable.trans h.timetable
  describer := k.describer.trans h.describer
  platforms := k.platforms.trans h.platforms
  power := k.power.trans h.power
  incidents := k.incidents.trans h.incidents
  channels := k.channels.trans h.channels

theorem Announced.foldl {α : Type} {f : Blocks → α → Blocks} (hf : ∀ b x, Announced b (f b x)) (l : List α) (b : Blocks) :
    Announced b (l.foldl f b) := foldl_related Announced.refl Announced.trans hf l b

/-! ### Told: the Platform Regulators too -/

/-- Besides what `Announced` lets change, occupied platforms may change their standing, and the starters with it. -/
structure Told (b b' : Blocks) : Prop where
  starters : (∀ t, b.field.starters.get t = decide ((b.platforms.get t).standing.state = .released)) →
    ∀ t, b'.field.starters.get t = decide ((b'.platforms.get t).standing.state = .released)
  platform : ∀ t, b'.platforms.get t = { b.platforms.get t with standing := (b'.platforms.get t).standing }
  vacant : ∀ t, (b.platforms.get t).standing = .vacant → (b'.platforms.get t).standing = .vacant
  coils : b'.field.coils = b.field.coils
  filters : b'.field.filters = b.field.filters
  delivered : b'.field.waiting = b.field.waiting
  alarmLine : b'.field.alarmLine = b.field.alarmLine
  bus : b'.bus = b.bus
  peers : b'.peers = b.peers
  timetable : b'.timetable = b.timetable
  describer : b'.describer = b.describer
  power : b'.power = b.power
  incidents : b'.incidents = b.incidents
  channels : b'.announce.channels.length = b.announce.channels.length
  /-- With every platform vacant nothing is told of, so nothing is announced. -/
  quiet : (∀ t, (b.platforms.get t).standing = .vacant) → b'.announce = b.announce ∧ b'.store = b.store ∧ b'.field.starters = b.field.starters

theorem Told.refl (b : Blocks) : Told b b where
  starters h := h
  platform _ := rfl
  vacant _ h := h
  coils := rfl
  filters := rfl
  delivered := rfl
  alarmLine := rfl
  bus := rfl
  peers := rfl
  timetable := rfl
  describer := rfl
  power := rfl
  incidents := rfl
  channels := rfl
  quiet _ := ⟨rfl, rfl, rfl⟩

theorem Told.trans {a b c : Blocks} (h : Told a b) (k : Told b c) : Told a c where
  starters hs := k.starters (h.starters hs)
  platform t := by
    have hb := h.platform t
    have hc := k.platform t
    rw [hb] at hc
    exact hc
  vacant t hv := k.vacant t (h.vacant t hv)
  coils := k.coils.trans h.coils
  filters := k.filters.trans h.filters
  delivered := k.delivered.trans h.delivered
  alarmLine := k.alarmLine.trans h.alarmLine
  bus := k.bus.trans h.bus
  peers := k.peers.trans h.peers
  timetable := k.timetable.trans h.timetable
  describer := k.describer.trans h.describer
  power := k.power.trans h.power
  incidents := k.incidents.trans h.incidents
  channels := k.channels.trans h.channels
  quiet hv := by
    obtain ⟨ha, hs, hr⟩ := h.quiet hv
    obtain ⟨ka, ks, kr⟩ := k.quiet fun t => h.vacant t (hv t)
    exact ⟨ka.trans ha, ks.trans hs, kr.trans hr⟩

/-- What is announced for an occupied platform. -/
theorem Announced.told {b b' : Blocks} (h : Announced b b') {t : Track} (ht : (b.platforms.get t).standing ≠ .vacant) : Told b b' where
  starters hs := by rw [h.field, h.platforms]; exact hs
  platform t := by rw [h.platforms]
  vacant t hv := by rw [h.platforms]; exact hv
  coils := by rw [h.field]
  filters := by rw [h.field]
  delivered := by rw [h.field]
  alarmLine := by rw [h.field]
  bus := h.bus
  peers := h.peers
  timetable := h.timetable
  describer := h.describer
  power := h.power
  incidents := h.incidents
  channels := h.channels
  quiet hv := absurd (hv t) ht

/-! ### The transmitter and the outbound queue under frames that are queued (R35, R39 to R41) -/

/-- A frame in hand stays in hand, a STATUS frame in BACKOFF with a new snapshot at most, and an idle transmitter may wake. -/
def TxKept : Transmitter → Transmitter → Prop
  | .off, y => y = .off
  | .idle, y => y = .idle ∨ y = .waiting
  | .waiting, y => y = .waiting
  | .sending h, y => y = .sending h
  | .backoff h, y => y = .backoff h ∨ h.frame.isStatus = true ∧ ∃ c, y = .backoff { h with frame := .status c }

theorem TxKept.refl (x : Transmitter) : TxKept x x := by cases x <;> simp [TxKept]

theorem TxKept.trans {x y z : Transmitter} (h : TxKept x y) (k : TxKept y z) : TxKept x z := by
  cases x with
  | off => obtain rfl : y = .off := h; exact k
  | idle =>
    rcases h with rfl | rfl
    · exact k
    · exact .inr k
  | waiting => obtain rfl : y = .waiting := h; exact k
  | sending f => obtain rfl : y = .sending f := h; exact k
  | backoff f =>
    rcases h with rfl | ⟨hs, c, rfl⟩
    · exact k
    · rcases k with rfl | ⟨-, c', rfl⟩
      · exact .inr ⟨hs, c, rfl⟩
      · exact .inr ⟨hs, c', rfl⟩

theorem TxKept.off_iff {x y : Transmitter} (h : TxKept x y) : y = .off ↔ x = .off := by
  cases x with
  | off => exact ⟨fun _ => rfl, fun _ => h⟩
  | idle => rcases h with rfl | rfl <;> simp
  | waiting => obtain rfl : y = .waiting := h; simp
  | sending f => obtain rfl : y = .sending f := h; simp
  | backoff f => rcases h with rfl | ⟨-, c, rfl⟩ <;> simp

/-- What the Linebus Controller keeps while other blocks queue POWER, INCIDENT and ISOLATE frames and STATUS is renewed. -/
structure BusKept (l l' : Linebus) : Prop where
  tx : TxKept l.tx l'.tx
  waiting : ∀ f ∈ l'.waiting, f.cls.removable = true → f ∈ l.waiting
  silent : l'.silent = l.silent
  advances : l'.advances = l.advances
  statusDue : l'.statusDue = l.statusDue

theorem BusKept.refl (l : Linebus) : BusKept l l := ⟨.refl _, fun _ h _ => h, rfl, rfl, rfl⟩

theorem BusKept.trans {x y z : Linebus} (h : BusKept x y) (k : BusKept y z) : BusKept x z where
  tx := h.tx.trans k.tx
  waiting f hf hr := h.waiting f (k.waiting f hf hr) hr
  silent := k.silent.trans h.silent
  advances := k.advances.trans h.advances
  statusDue := k.statusDue.trans h.statusDue

/-! ### Records that stand on (R145) -/

/-- A record that stands on: a copy as it was, a local record with other counts, floor or isolations at most. -/
def Incident.StandsOn (r r' : Incident) : Prop :=
  r' = r ∨ ∃ o o', r.holding = .owned o ∧ r' = { r with holding := .owned o' }

theorem Incident.StandsOn.trans {a b c : Incident} (h : a.StandsOn b) (k : b.StandsOn c) : a.StandsOn c := by
  rcases h with rfl | ⟨o, o', ho, rfl⟩
  · exact k
  · rcases k with rfl | ⟨p, p', -, rfl⟩
    · exact .inr ⟨o, o', ho, rfl⟩
    · exact .inr ⟨o, p', ho, rfl⟩

theorem Incident.StandsOn.isLocal {r r' : Incident} (h : r.StandsOn r') : r'.isLocal = r.isLocal := by
  rcases h with rfl | ⟨o, o', ho, rfl⟩
  · rfl
  · simp [Incident.isLocal, ho, Holding.isLocal]

theorem Incident.StandsOn.id_eq {r r' : Incident} (h : r.StandsOn r') : r'.id = r.id := by
  rcases h with rfl | ⟨o, o', ho, rfl⟩ <;> rfl

/-- The records of the second table stood in the first, in the same order. -/
def RecordsFrom (b b' : Blocks) : Prop :=
  List.SublistForall₂ (fun r' r => Incident.StandsOn r r') b'.incidents.records b.incidents.records

theorem RecordsFrom.trans {a b c : Blocks} (h : RecordsFrom a b) (k : RecordsFrom b c) : RecordsFrom a c :=
  have : IsTrans Incident fun r' r => Incident.StandsOn r r' := ⟨fun _ _ _ hab hbc => hbc.trans hab⟩
  List.SublistForall₂.is_trans.trans _ _ _ k h

/-- Records that leave as they stood. -/
theorem RecordsFrom.of_sublist {b b' : Blocks} (h : b'.incidents.records.Sublist b.incidents.records) : RecordsFrom b b' :=
  List.sublistForall₂_iff.2 ⟨_, List.forall₂_same.2 fun _ _ => .inl rfl, h⟩

theorem RecordsFrom.of_eq {b b' : Blocks} (h : b'.incidents.records = b.incidents.records) : RecordsFrom b b' :=
  .of_sublist (h ▸ .refl _)

/-- Records that all stand on. -/
theorem RecordsFrom.of_map {b b' : Blocks} {f : Incident → Incident} (h : b'.incidents.records = b.incidents.records.map f)
    (hf : ∀ r : Incident, r.StandsOn (f r)) : RecordsFrom b b' := by
  unfold RecordsFrom
  rw [h]
  exact List.sublistForall₂_map_left_iff.2 (List.sublistForall₂_iff.2 ⟨_, List.forall₂_same.2 fun r _ => hf r, .refl _⟩)

theorem RecordsFrom.mem {b b' : Blocks} (h : RecordsFrom b b') {r' : Incident} (hr : r' ∈ b'.incidents.records) :
    ∃ r ∈ b.incidents.records, r.StandsOn r' := by
  unfold RecordsFrom at h
  generalize b'.incidents.records = l' at h hr
  generalize b.incidents.records = l at h ⊢
  induction h with
  | nil => cases hr
  | cons stands _ ih =>
    rcases List.mem_cons.1 hr with rfl | hr
    · exact ⟨_, List.mem_cons_self, stands⟩
    · obtain ⟨r, hr, hs⟩ := ih hr
      exact ⟨r, List.mem_cons_of_mem _ hr, hs⟩
  | cons_right _ ih =>
    obtain ⟨r, hr, hs⟩ := ih hr
    exact ⟨r, List.mem_cons_of_mem _ hr, hs⟩

theorem RecordsFrom.length_le {b b' : Blocks} (h : RecordsFrom b b') : b'.incidents.records.length ≤ b.incidents.records.length := by
  obtain ⟨l, stands, sub⟩ := List.sublistForall₂_iff.1 h
  exact stands.length_eq ▸ sub.length_le

theorem RecordsFrom.ids {b b' : Blocks} (h : RecordsFrom b b') :
    (b'.incidents.records.map (·.id)).Sublist (b.incidents.records.map (·.id)) := by
  unfold RecordsFrom at h
  generalize b'.incidents.records = l' at h ⊢
  generalize b.incidents.records = l at h ⊢
  induction h with
  | nil => exact List.nil_sublist _
  | cons stands _ ih => simpa [stands.id_eq] using ih
  | cons_right _ ih => exact ih.cons _

/-! ### Breakers that lose at most (R116) -/

/-- A breaker's record that becomes neither FAILED nor locked out and begins no restore wait; while it is neither, its state stands. -/
structure BreakerRecord.Eases (r r' : BreakerRecord) : Prop where
  failed : r'.condition = some .failed → r.condition = some .failed
  wait : r'.wait = none ∨ r'.wait = r.wait
  locked : r'.lockedOut = true → r.lockedOut = true
  steady : r.condition ≠ some .failed → r.lockedOut = false → r'.condition = r.condition

theorem BreakerRecord.Eases.refl (r : BreakerRecord) : r.Eases r := ⟨id, .inr rfl, id, fun _ _ => rfl⟩

theorem BreakerRecord.Eases.trans {a b c : BreakerRecord} (h : a.Eases b) (k : b.Eases c) : a.Eases c where
  failed := h.failed ∘ k.failed
  wait := k.wait.elim .inl fun k => by rw [k]; exact h.wait
  locked := h.locked ∘ k.locked
  steady hf hl := by
    have same := h.steady hf hl
    exact (k.steady (same ▸ hf) (Bool.eq_false_iff.2 (mt h.locked (Bool.eq_false_iff.1 hl)))).trans same

/-- Every breaker's record eases. -/
def BreakersEase (b b' : Blocks) : Prop :=
  ∀ br r', b'.power.breakers.get br = some r' → ∃ r, b.power.breakers.get br = some r ∧ r.Eases r'

theorem BreakersEase.trans {a b c : Blocks} (h : BreakersEase a b) (k : BreakersEase b c) : BreakersEase a c := by
  intro br r'' hr''
  obtain ⟨r', hr', k⟩ := k br r'' hr''
  obtain ⟨r, hr, h⟩ := h br r' hr'
  exact ⟨r, hr, h.trans k⟩

theorem BreakersEase.of_eq {b b' : Blocks} (h : b'.power.breakers = b.power.breakers) : BreakersEase b b' :=
  fun _ r hr => ⟨r, h ▸ hr, .refl r⟩

theorem BreakersEase.lockouts {b b' : Blocks} (h : BreakersEase b b') : LockoutsFrom b b' := by
  intro br r' hr' hl
  obtain ⟨r, hr, e⟩ := h br r' hr'
  exact ⟨r, hr, e.locked hl⟩

/-! ### Keeps: the Power Controller, the Incident Table and the frames they queue -/

/-- What every operation of the Power Controller, the Incident Table, the regulators and the announcements leaves alone, but for the
lines. -/
structure Spares (b b' : Blocks) : Prop where
  platform : ∀ t, b'.platforms.get t = { b.platforms.get t with standing := (b'.platforms.get t).standing }
  vacant : ∀ t, (b.platforms.get t).standing = .vacant → (b'.platforms.get t).standing = .vacant
  filters : b'.field.filters = b.field.filters
  delivered : b'.field.waiting = b.field.waiting
  present : ∀ br, (b'.power.breakers.get br).isSome = (b.power.breakers.get br).isSome
  absent : ∀ br, b.power.breakers.get br = none → b'.field.coils.get br = b.field.coils.get br
  bus : BusKept b.bus b'.bus
  peers : b'.peers = b.peers
  timetable : b'.timetable = b.timetable
  describer : b'.describer = b.describer
  channels : b'.announce.channels.length = b.announce.channels.length

theorem Spares.refl (b : Blocks) : Spares b b where
  platform _ := rfl
  vacant _ h := h
  filters := rfl
  delivered := rfl
  present _ := rfl
  absent _ _ := rfl
  bus := .refl _
  peers := rfl
  timetable := rfl
  describer := rfl
  channels := rfl

theorem Spares.trans {a b c : Blocks} (h : Spares a b) (k : Spares b c) : Spares a c where
  platform t := by
    have hb := h.platform t
    have hc := k.platform t
    rw [hb] at hc
    exact hc
  vacant t hv := k.vacant t (h.vacant t hv)
  filters := k.filters.trans h.filters
  delivered := k.delivered.trans h.delivered
  present br := (k.present br).trans (h.present br)
  absent br hn := by
    have hb : b.power.breakers.get br = none := by simpa [hn] using h.present br
    exact (k.absent br hb).trans (h.absent br hn)
  bus := h.bus.trans k.bus
  peers := k.peers.trans h.peers
  timetable := k.timetable.trans h.timetable
  describer := k.describer.trans h.describer
  channels := k.channels.trans h.channels

/-- Such an operation that keeps the lines true as well, whatever breakers R119 is left out for. -/
structure Keeps (b b' : Blocks) : Prop extends Spares b b' where
  lines : ∀ x, b.LinesOk x → b'.LinesOk x

theorem Keeps.spares {b b' : Blocks} (h : Keeps b b') : Spares b b' := h.toSpares

theorem Keeps.refl (b : Blocks) : Keeps b b where
  toSpares := .refl b
  lines _ h := h

theorem Keeps.trans {a b c : Blocks} (h : Keeps a b) (k : Keeps b c) : Keeps a c where
  toSpares := h.spares.trans k.spares
  lines x hx := k.lines x (h.lines x hx)

theorem Keeps.foldl {α : Type} {f : Blocks → α → Blocks} (hf : ∀ b x, Keeps b (f b x)) (l : List α) (b : Blocks) :
    Keeps b (l.foldl f b) := foldl_related Keeps.refl Keeps.trans hf l b

/-! ### Sheds: what raises nothing, adds no lockout and fails no breaker -/

/-- The announcements and the starters stand still and messages gain no block. -/
structure StaysQuiet (b b' : Blocks) : Prop where
  starters : b'.field.starters = b.field.starters
  announce : b'.announce = b.announce
  refusals : b'.store.refusals = b.store.refusals
  messages : ∀ id part, some (.message id part) ∈ b'.store.blocks → some (.message id part) ∈ b.store.blocks

theorem StaysQuiet.refl (b : Blocks) : StaysQuiet b b := ⟨rfl, rfl, rfl, fun _ _ h => h⟩

theorem StaysQuiet.trans {a b c : Blocks} (h : StaysQuiet a b) (k : StaysQuiet b c) : StaysQuiet a c :=
  ⟨k.starters.trans h.starters, k.announce.trans h.announce, k.refusals.trans h.refusals,
    fun id part hm => h.messages id part (k.messages id part hm)⟩

/-- Nothing stands that could be announced: no SERVICE, no chain held, and no train at a platform. -/
structure Still (e : Env) (b : Blocks) : Prop where
  service : e.inService = false
  queues : ∀ z, b.announce.queues.get z = []
  vacant : ∀ t, (b.platforms.get t).standing = .vacant

/-- Besides `Keeps`: records only leave, breakers ease, and a still node stays so. -/
structure Sheds (e : Env) (b b' : Blocks) : Prop extends Keeps b b' where
  records : RecordsFrom b b'
  breakers : BreakersEase b b'
  still : Still e b → StaysQuiet b b'

theorem Sheds.keeps {e : Env} {b b' : Blocks} (h : Sheds e b b') : Keeps b b' := h.toKeeps

theorem Sheds.refl (e : Env) (b : Blocks) : Sheds e b b where
  toKeeps := .refl b
  records := .of_eq rfl
  breakers := .of_eq rfl
  still _ := .refl b

theorem Still.after {e : Env} {b b' : Blocks} (hs : Still e b) (hk : Keeps b b') (hq : b'.announce = b.announce) : Still e b' where
  service := hs.service
  queues z := by rw [hq]; exact hs.queues z
  vacant t := hk.vacant t (hs.vacant t)

theorem Sheds.trans {e : Env} {a b c : Blocks} (h : Sheds e a b) (k : Sheds e b c) : Sheds e a c where
  toKeeps := h.keeps.trans k.keeps
  records := h.records.trans k.records
  breakers := h.breakers.trans k.breakers
  still hs := (h.still hs).trans (k.still (hs.after h.keeps (h.still hs).announce))

theorem Sheds.foldl {α : Type} {e : Env} {f : Blocks → α → Blocks} (hf : ∀ b x, Sheds e b (f b x)) (l : List α) (b : Blocks) :
    Sheds e b (l.foldl f b) := foldl_related (Sheds.refl e) Sheds.trans hf l b

theorem Told.sheds {b b' : Blocks} (h : Told b b') (e : Env) : Sheds e b b' where
  lines x hx := hx.of_lines h.coils (BreakersEase.of_eq (congrArg Power.breakers h.power)).lockouts
    (fun ha => by rw [h.alarmLine, h.incidents]; exact ha)
    h.starters
  platform := h.platform
  vacant := h.vacant
  filters := h.filters
  delivered := h.delivered
  present br := by rw [h.power]
  absent br _ := by rw [h.coils]
  bus := h.bus ▸ .refl _
  peers := h.peers
  timetable := h.timetable
  describer := h.describer
  channels := h.channels
  records := .of_eq (by rw [h.incidents])
  breakers := .of_eq (by rw [h.power])
  still hs := by
    obtain ⟨ha, hst, hr⟩ := h.quiet hs.vacant
    exact ⟨hr, ha, by rw [hst], fun _ _ hm => hst ▸ hm⟩

theorem Announced.keeps {b b' : Blocks} (h : Announced b b') : Keeps b b' where
  lines x hx := by
    refine hx.of_lines (by rw [h.field]) (BreakersEase.of_eq (by rw [h.power])).lockouts ?_ ?_
    · rw [h.field, h.incidents]; exact id
    · rw [h.field, h.platforms]; exact id
  platform t := by rw [h.platforms]
  vacant t hv := by rw [h.platforms]; exact hv
  filters := by rw [h.field]
  delivered := by rw [h.field]
  present br := by rw [h.power]
  absent br _ := by rw [h.field]
  bus := h.bus ▸ .refl _
  peers := h.peers
  timetable := h.timetable
  describer := h.describer
  channels := h.channels

/-- What is announced sheds, as long as a still node announces nothing. -/
theorem Announced.sheds {e : Env} {b b' : Blocks} (h : Announced b b') (hq : Still e b → StaysQuiet b b') : Sheds e b b' where
  toKeeps := h.keeps
  records := .of_eq (by rw [h.incidents])
  breakers := .of_eq (by rw [h.power])
  still := hq

/-! ### LinesKept: the lines alone -/

/-- The lines stay true, and a vacant platform stays vacant. -/
structure LinesKept (b b' : Blocks) : Prop where
  lines : ∀ x, b.LinesOk x → b'.LinesOk x
  vacant : ∀ t, (b.platforms.get t).standing = .vacant → (b'.platforms.get t).standing = .vacant

theorem LinesKept.refl (b : Blocks) : LinesKept b b := ⟨fun _ h => h, fun _ h => h⟩

theorem LinesKept.trans {a b c : Blocks} (h : LinesKept a b) (k : LinesKept b c) : LinesKept a c :=
  ⟨fun x hx => k.lines x (h.lines x hx), fun t ht => k.vacant t (h.vacant t ht)⟩

theorem LinesKept.foldl {α : Type} {f : Blocks → α → Blocks} (hf : ∀ b x, LinesKept b (f b x)) (l : List α) (b : Blocks) :
    LinesKept b (l.foldl f b) := foldl_related LinesKept.refl LinesKept.trans hf l b

theorem Keeps.linesKept {b b' : Blocks} (h : Keeps b b') : LinesKept b b' := ⟨h.lines, h.vacant⟩

/-- Nothing that `Blocks.LinesOk` reads is other than before. -/
theorem LinesKept.of_eq {b b' : Blocks} (hc : b'.field.coils = b.field.coils) (hs : b'.field.starters = b.field.starters)
    (ha : b'.field.alarmLine = b.field.alarmLine) (hp : b'.power.breakers = b.power.breakers)
    (hi : b'.incidents.alarm = b.incidents.alarm)
    (hst : ∀ t, (b'.platforms.get t).standing = (b.platforms.get t).standing) : LinesKept b b' where
  lines x hx := hx.of_lines hc (BreakersEase.of_eq hp).lockouts (by rw [ha, hi]; exact id)
    (fun h t => by rw [hs, hst]; exact h t)
  vacant t ht := by rw [hst]; exact ht

end Sys2Proof.Machine

/-! SUPPORT. The Announcement Controller's operations change chains, blocks of the store and reports alone. -/

namespace Sys2Proof.Machine

/-! ### Announcements (chapter 10) -/

/-- What is announced under a condition alone. -/
theorem Announced.ite {b x : Blocks} (p : Prop) [Decidable p] (h : Announced b x) : Announced b (if p then x else b) := by
  split
  · exact h
  · exact .refl b

theorem queueReport_announced (e : Env) (b : Blocks) (r : ReportBody) : Announced b (queueReport e b r) where

theorem setStore_announced (b : Blocks) (s : Store) : Announced b (b.setStore s) where

theorem setPort_announced (b : Blocks) (p : Port) : Announced b (b.setPort p) where

theorem setQueue_announced (b : Blocks) (z : Zone) (l : List Chain) : Announced b (b.setQueue z l) where

theorem setChannel_announced (b : Blocks) (i : Nat) (c : Channel) : Announced b (b.setChannel i c) where
  channels := by simp

theorem setAnnounce_announced (b : Blocks) (a : Announcer) (h : a.channels.length = b.announce.channels.length) :
    Announced b (b.setAnnounce a) where
  channels := h

theorem placeChain_announced (b : Blocks) (z : Zone) (c : Chain) : Announced b (placeChain b z c) := setQueue_announced ..

theorem dropChain_announced (b : Blocks) (z : Zone) (c : Chain) : Announced b (dropChain b z c) :=
  (setQueue_announced b z _).trans (Announced.foldl (fun _ _ => setStore_announced ..) _ _)

theorem discardChain_announced (e : Env) (b : Blocks) (z : Zone) (c : Chain) (cause : DropCause) :
    Announced b (discardChain e b z c cause) := (dropChain_announced b z c).trans (queueReport_announced ..)

theorem startMember_announced (e : Env) (b : Blocks) (i : Nat) (z : Zone) (c : Chain) (m : Member) (began : Nat) :
    Announced b (startMember e b i z c m began) :=
  (setChannel_announced b i _).trans ((placeChain_announced ..).trans (queueReport_announced ..))

theorem giveChannels_announced (e : Env) (n : Nat) (b : Blocks) : Announced b (giveChannels e n b) := by
  induction n generalizing b with
  | zero => exact .refl b
  | succ n ih =>
    unfold giveChannels
    split
    · split
      · exact (startMember_announced ..).trans (ih _)
      · exact .refl b
    · exact .refl b

theorem stopChannel_announced (e : Env) (b : Blocks) (i : Nat) (cause : StopCause) : Announced b (stopChannel e b i cause) := by
  unfold stopChannel
  split
  · exact (setChannel_announced ..).trans (queueReport_announced ..)
  · exact .refl b

theorem preemptCheck_announced (e : Env) (b : Blocks) : Announced b (preemptCheck e b) := by
  unfold preemptCheck
  split
  · exact .refl b
  · split
    · exact stopChannel_announced ..
    · exact .refl b

theorem arbiter_announced (e : Env) (b : Blocks) : Announced b (arbiter e b) := by
  unfold arbiter
  dsimp only
  split
  · exact giveChannels_announced ..
  · exact (giveChannels_announced ..).trans (preemptCheck_announced ..)

theorem Announced.arbiterIfLifted {e : Env} {b b' : Blocks} (h : Announced b b') (before : Blocks) :
    Announced b (arbiterIfLifted e before b') := by
  unfold Machine.arbiterIfLifted
  split
  · exact h.trans (arbiter_announced ..)
  · exact h

theorem admitChain_announced (e : Env) (b : Blocks) (o : Offer) : Announced b (admitChain e b o).1 := by
  unfold admitChain
  split
  · exact .refl b
  · split
    · exact .refl b
    · split
      · exact setStore_announced ..
      · split
        · exact .refl b
        · refine .trans ?_ (arbiter_announced ..)
          refine .trans ?_ (setAnnounce_announced _ _ rfl)
          refine .trans ?_ (placeChain_announced ..)
          refine .trans ?_ (setStore_announced ..)
          exact .trans (setStore_announced b _) (Announced.foldl (fun _ _ => discardChain_announced ..) _ _)

theorem admitOrDrop_announced (e : Env) (b : Blocks) (o : Offer) : Announced b (admitOrDrop e b o) := by
  have h := admitChain_announced e b o
  unfold admitOrDrop
  split <;> rename_i hx <;> rw [hx] at h
  · exact h.trans (queueReport_announced ..)
  · exact h
  · exact h

theorem returnChain_announced (e : Env) (b : Blocks) (z : Zone) (c : Chain) : Announced b (returnChain e b z c) := by
  unfold returnChain
  dsimp only
  split
  · exact discardChain_announced ..
  · exact placeChain_announced ..

theorem endPlay_announced (e : Env) (b : Blocks) (z : Zone) (c : Chain) : Announced b (endPlay e b z c) := by
  unfold endPlay
  split
  · exact dropChain_announced ..
  · exact (setAnnounce_announced b _ (by rfl)).trans (returnChain_announced ..)

theorem clearRun_announced (b : Blocks) (z : Zone) : Announced b (clearRun b z) := setAnnounce_announced _ _ rfl

theorem countFailure_announced (e : Env) (b : Blocks) (z : Zone) : Announced b (countFailure e b z) := by
  unfold countFailure
  dsimp only
  split
  · exact (setAnnounce_announced _ _ (by rfl)).trans (queueReport_announced ..)
  · exact setAnnounce_announced _ _ rfl

theorem failMember_announced (e : Env) (b : Blocks) (z : Zone) (c : Chain) (id : Nat) : Announced b (failMember e b z c id) := by
  unfold failMember
  dsimp only
  split
  · exact (discardChain_announced ..).trans (countFailure_announced ..)
  · exact (returnChain_announced ..).trans (countFailure_announced ..)

theorem completePlay_announced (e : Env) (b : Blocks) (i : Nat) (z : Zone) (id began : Nat) :
    Announced b (completePlay e b i z id began) := by
  unfold completePlay
  dsimp only
  refine (clearRun_announced b z).trans ?_
  split
  · split
    · exact startMember_announced ..
    · exact (endPlay_announced ..).trans ((setChannel_announced ..).trans (arbiter_announced ..))
  · exact (setChannel_announced ..).trans (arbiter_announced ..)

theorem failPlay_announced (e : Env) (b : Blocks) (i : Nat) (z : Zone) (id : Nat) : Announced b (failPlay e b i z id) := by
  unfold failPlay
  split
  · exact (failMember_announced ..).trans ((setChannel_announced ..).trans (arbiter_announced ..))
  · exact (countFailure_announced ..).trans ((setChannel_announced ..).trans (arbiter_announced ..))

theorem deadlinePlay_announced (e : Env) (b : Blocks) (i : Nat) (z : Zone) (id : Nat) : Announced b (deadlinePlay e b i z id) := by
  unfold deadlinePlay
  dsimp only
  split
  · exact (failMember_announced ..).trans ((stopChannel_announced ..).trans (arbiter_announced ..))
  · exact (countFailure_announced ..).trans ((stopChannel_announced ..).trans (arbiter_announced ..))

theorem completeStop_announced (e : Env) (b : Blocks) (i : Nat) (z : Zone) (id : Nat) (cause : StopCause) (done : Bool) :
    Announced b (completeStop e b i z id cause done) := by
  unfold completeStop
  dsimp only
  refine .trans ?_ (arbiter_announced ..)
  refine .trans ?_ (setChannel_announced ..)
  cases cause with
  | withdraw => exact .refl b
  | deadline => exact .refl b
  | preempt =>
    dsimp only
    refine .trans (Announced.ite (done = true) (clearRun_announced b z)) ?_
    generalize (if done = true then clearRun b z else b) = b
    split
    · split
      · exact endPlay_announced ..
      · exact returnChain_announced ..
    · exact .refl _

theorem withdrawOne_announced (e : Env) (b : Blocks) (z : Zone) (c : Chain) : Announced b (withdrawOne e b z c) := by
  unfold withdrawOne
  dsimp only
  refine (discardChain_announced e b z c .withdrawn).trans ?_
  split
  · exact stopChannel_announced ..
  · exact setChannel_announced ..
  · exact .refl _

theorem withdrawWhere_announced (e : Env) (b : Blocks) (p : Chain → Bool) : Announced b (withdrawWhere e b p) := by
  unfold withdrawWhere
  refine Announced.arbiterIfLifted ?_ b
  exact Announced.foldl (fun _ _ => Announced.foldl (fun _ _ => withdrawOne_announced ..) _ _) _ _

theorem offerAuto_announced (e : Env) (b : Blocks) (kind : AutoKind) (z : Zone) (added : List Nat) (expiry : Option Nat)
    (link : Option Link) : Announced b (offerAuto e b kind z added expiry link) := admitOrDrop_announced ..

theorem offerApproach_announced (e : Env) (b : Blocks) (t : Track) (u : Nat) (ph : Option Nat) :
    Announced b (offerApproach e b t u ph) := offerAuto_announced ..

theorem offerDelay_announced (e : Env) (b : Blocks) (r : Incident) (l : Option Nat) : Announced b (offerDelay e b r l) :=
  Announced.foldl (fun _ _ => offerAuto_announced ..) _ _

theorem offerEvacuate_announced (e : Env) (b : Blocks) (r : Incident) : Announced b (offerEvacuate e b r) := by
  unfold offerEvacuate
  split
  · exact Announced.foldl (fun _ _ => offerAuto_announced ..) _ _
  · exact .refl b

theorem offerStalled_announced (e : Env) (b : Blocks) (r : Incident) : Announced b (offerStalled e b r) := by
  unfold offerStalled
  split
  · exact offerAuto_announced ..
  · exact .refl b

theorem offerSuspend_announced (e : Env) (b : Blocks) (t : Track) (sec : TractionSection) : Announced b (offerSuspend e b t sec) :=
  Announced.foldl (fun _ _ => offerAuto_announced ..) _ _

theorem offerHeld_announced (e : Env) (b : Blocks) (t : Track) : Announced b (offerHeld e b t) := offerAuto_announced ..

theorem offerForIncident_announced (e : Env) (b : Blocks) (r : Incident) (l : Option Nat) : Announced b (offerForIncident e b r l) := by
  unfold offerForIncident
  split
  case h_1 => exact offerDelay_announced ..
  case h_2 => exact .ite _ (offerEvacuate_announced ..)
  case h_3 => exact .ite _ (offerStalled_announced ..)
  all_goals exact .refl b

theorem takeAnnounce_announced (e : Env) (b : Blocks) (c : AnnounceContents) : Announced b (takeAnnounce e b c) :=
  .ite _ (Announced.foldl (fun _ _ => admitOrDrop_announced ..) _ _)

theorem notBeforeStep_announced (e : Env) (b : Blocks) (m : Nat) : Announced b (notBeforeStep e b m) := by
  unfold notBeforeStep
  split
  · exact .ite _ ((placeChain_announced ..).trans (arbiter_announced ..))
  · exact .refl b

theorem expiryStep_announced (e : Env) (b : Blocks) (m : Nat) : Announced b (expiryStep e b m) := by
  unfold expiryStep
  split
  · exact .ite _ ((discardChain_announced ..).arbiterIfLifted b)
  · exact .refl b

theorem deadlineStep_announced (e : Env) (b : Blocks) (i : Nat) : Announced b (deadlineStep e b i) := by
  unfold deadlineStep
  split
  · exact .ite _ (deadlinePlay_announced ..)
  · exact .refl b

theorem stopStep_announced (e : Env) (b : Blocks) (i : Nat) : Announced b (stopStep e b i) := by
  unfold stopStep
  split
  · exact .ite _ (completeStop_announced ..)
  · exact .refl b

theorem resetAnnouncer_announced (e : Env) (b : Blocks) : Announced b (resetAnnouncer e b) := by
  have stops : ∀ (b : Blocks) (x : Nat × Channel), Announced b (resetStop e b x) := by
    intro b x
    unfold resetStop
    split
    · exact queueReport_announced ..
    · exact .refl b
    · exact .refl b
  unfold resetAnnouncer
  dsimp only
  refine .trans ?_ (Announced.foldl (fun _ _ => queueReport_announced ..) _ _)
  refine .trans ?_ (setAnnounce_announced _ _ rfl)
  refine .trans ?_ (Announced.foldl (fun _ _ => Announced.foldl (fun _ _ => dropChain_announced ..) _ _) _ _)
  exact .trans (Announced.foldl stops _ b) (setAnnounce_announced _ _ (by simp))

/-! ### The requests of the ANNOUNCE channel -/

theorem admitZones_announced (e : Env) (b : Blocks) (x : AnnounceRequest) (a : AnnounceOrder) : Announced b (admitZones e b x a).1 := by
  have : ∀ (l : List Zone) (acc : Blocks × List Admission), Announced acc.1 (l.foldl (offerZone e x a.link) acc).1 := by
    intro l
    induction l with
    | nil => exact fun acc => .refl _
    | cons z l ih => exact fun acc => (admitChain_announced ..).trans (ih (offerZone e x a.link acc z))
  exact this a.zones.zones (b, [])

theorem withdrawRequest_announced (e : Env) (b : Blocks) (m : Nat) : Announced b (withdrawRequest e b m).1 := by
  unfold withdrawRequest
  split
  · exact (withdrawOne_announced ..).arbiterIfLifted b
  · exact .refl b

theorem audioDoneRequest_announced (e : Env) (b : Blocks) (i m : Nat) : Announced b (audioDoneRequest e b i m).1 := by
  unfold audioDoneRequest
  split
  · exact .refl b
  · split
    · exact completePlay_announced ..
    · exact .refl b
  · split
    · exact completeStop_announced ..
    · exact .refl b
  · exact .refl b

theorem audioFailedRequest_announced (e : Env) (b : Blocks) (i m : Nat) : Announced b (audioFailedRequest e b i m).1 := by
  unfold audioFailedRequest
  split
  · exact .refl b
  · split
    · exact failPlay_announced ..
    · exact .refl b
  · split
    · exact completeStop_announced ..
    · exact .refl b
  · exact .refl b

theorem audioStoppedRequest_announced (e : Env) (b : Blocks) (i m : Nat) : Announced b (audioStoppedRequest e b i m).1 := by
  unfold audioStoppedRequest
  split
  · exact .refl b
  · split
    · exact completeStop_announced ..
    · exact .refl b
  · exact .refl b
  · exact .refl b

theorem audioResetRequest_announced (e : Env) (b : Blocks) (zone : Nat) : Announced b (audioResetRequest e b zone).1 := by
  unfold audioResetRequest
  split
  · exact .refl b
  · dsimp only
    split
    · exact (setAnnounce_announced _ _ (by rfl)).trans ((queueReport_announced ..).trans (arbiter_announced ..))
    · exact setAnnounce_announced _ _ rfl

/-! ### No chain held: nothing to withdraw -/

theorem withdrawWhere_of_no_chain (e : Env) (b : Blocks) (p : Chain → Bool) (h : ∀ z, b.announce.queues.get z = []) :
    withdrawWhere e b p = b := by
  have hf : allZones.foldl (fun b z => ((b.announce.queues.get z).filter p).foldl (fun b c => withdrawOne e b z c) b) b = b := by
    simp [allZones, h]
  unfold withdrawWhere
  rw [hf]
  simp [arbiterIfLifted]

end Sys2Proof.Machine

/-! SUPPORT. The Platform Regulators: what they are told of changes occupied platforms, their starters and announcements alone. -/

namespace Sys2Proof.Machine

/-! ### The record and the starter (R88, R89) -/

@[simp] theorem Phase.state_eq_released (p : Phase) : p.state = .released ↔ p = .released := by cases p <;> simp [Phase.state]

@[simp] theorem Standing.state_occupied (p : Phase) (d : Dwell) : (Standing.occupied p d).state = p.state := rfl

@[simp] theorem Standing.state_eq_vacant (s : Standing) : s.state = .vacant ↔ s = .vacant := by
  cases s with
  | vacant => simp [Standing.state]
  | occupied p d => cases p <;> simp [Standing.state, Phase.state]

@[simp] theorem writeDwell_get (b : Blocks) (t : Track) (p : Phase) (d : Dwell) :
    (writeDwell b t p d).platforms.get t = { b.platforms.get t with standing := .occupied p d } := by simp [writeDwell]

theorem writeDwell_occupied (b : Blocks) (t : Track) (p : Phase) (d : Dwell) :
    ((writeDwell b t p d).platforms.get t).standing ≠ .vacant := by simp

/-- A standing written with the starter that goes with it, at an occupied platform. -/
theorem enter_told {b : Blocks} {t : Track} (p : Phase) (d : Dwell) (v : Bool) (h : (b.platforms.get t).standing ≠ .vacant)
    (hv : v = decide (p = .released)) : Told b ((writeDwell b t p d).setStarter t v) where
  starters hs u := by
    by_cases hu : u = t
    · subst hu; simp [writeDwell, hv]
    · simpa [writeDwell, hu] using hs u
  platform u := by
    by_cases hu : u = t
    · subst hu; simp [writeDwell]
    · simp [writeDwell, hu]
  vacant u hu := by
    have hne : u ≠ t := fun hut => h (hut ▸ hu)
    simpa [writeDwell, hne] using hu
  coils := rfl
  filters := rfl
  delivered := rfl
  alarmLine := rfl
  bus := rfl
  peers := rfl
  timetable := rfl
  describer := rfl
  power := rfl
  incidents := rfl
  channels := rfl
  quiet hv := absurd (hv t) h

/-- A dwell written in the phase the platform stands in. -/
theorem writeDwell_told {b : Blocks} {t : Track} {p : Phase} {d : Dwell} (d' : Dwell)
    (h : (b.platforms.get t).standing = .occupied p d) : Told b (writeDwell b t p d') where
  starters hs u := by
    by_cases hu : u = t
    · subst hu; simpa [writeDwell, h] using hs u
    · simpa [writeDwell, hu] using hs u
  platform u := by
    by_cases hu : u = t
    · subst hu; simp [writeDwell]
    · simp [writeDwell, hu]
  vacant u hu := by
    have hne : u ≠ t := fun hut => by rw [hut, h] at hu; simp at hu
    simpa [writeDwell, hne] using hu
  coils := rfl
  filters := rfl
  delivered := rfl
  alarmLine := rfl
  bus := rfl
  peers := rfl
  timetable := rfl
  describer := rfl
  power := rfl
  incidents := rfl
  channels := rfl
  quiet hv := absurd (hv t) (by simp [h])

theorem Told.ite {b x : Blocks} (p : Prop) [Decidable p] (h : Told b x) : Told b (if p then x else b) := by
  split
  · exact h
  · exact .refl b

theorem watchHeld_told (e : Env) (b : Blocks) (t : Track) : Told b (watchHeld e b t) := by
  unfold watchHeld
  split
  case h_1 d h => exact .ite _ (.trans (writeDwell_told _ h) ((offerHeld_announced ..).told (writeDwell_occupied b t _ _)))
  case h_2 => exact .refl b

theorem reportSet_told (e : Env) {b : Blocks} {t : Track} (p : Phase) (d : Dwell) (h : (b.platforms.get t).standing ≠ .vacant) :
    Told b (reportSet e b t p d) := (queueReport_announced ..).told h

theorem enterHeld_told (e : Env) {b : Blocks} {t : Track} (d : Dwell) (h : (b.platforms.get t).standing ≠ .vacant) :
    Told b (enterHeld e b t d) := by
  unfold enterHeld
  refine .trans ?_ (watchHeld_told ..)
  exact .trans (enter_told .held d false h rfl) (reportSet_told e _ _ (by simp))

theorem enterReleased_told (e : Env) {b : Blocks} {t : Track} (d : Dwell) (h : (b.platforms.get t).standing ≠ .vacant) :
    Told b (enterReleased e b t d) := by
  unfold enterReleased
  refine .trans ?_ (reportSet_told e _ _ ?_)
  · exact enter_told .released _ true h rfl
  · simp

theorem releaseCheck_told (e : Env) {b : Blocks} {t : Track} (d : Dwell) (h : (b.platforms.get t).standing ≠ .vacant) :
    Told b (releaseCheck e b t d) := by
  unfold releaseCheck
  dsimp only
  split
  · exact enterReleased_told e _ h
  · exact enterHeld_told e _ h

/-- An occupied platform is not vacant. -/
theorem Standing.ne_vacant {s : Standing} {p : Phase} {d : Dwell} (h : s = .occupied p d) : s ≠ .vacant := by simp [h]

theorem targetStep_told (e : Env) (b : Blocks) (t : Track) : Told b (targetStep e b t) := by
  unfold targetStep
  split
  case h_1 d h => exact .ite _ (releaseCheck_told e _ (Standing.ne_vacant h))
  case h_2 => exact .refl b

theorem settleHeld_told (e : Env) {b : Blocks} {t : Track} {d : Dwell} (old new : Dwell)
    (h : (b.platforms.get t).standing = .occupied .held d) : Told b (settleHeld e b t old new) := by
  unfold settleHeld
  split
  · exact enterReleased_told e _ (Standing.ne_vacant h)
  · split
    · exact writeDwell_told _ h
    · exact .trans (writeDwell_told _ h) (reportSet_told e _ _ (writeDwell_occupied _ _ _ _))

theorem withdrawRelease_told (e : Env) {b : Blocks} {t : Track} (d : Dwell) (r : Reasons)
    (h : (b.platforms.get t).standing ≠ .vacant) : Told b (withdrawRelease e b t d r) := enterHeld_told e _ h

theorem toldPower_told (e : Env) (b : Blocks) (t : Track) : Told b (toldPower e b t) := by
  unfold toldPower
  split
  case h_1 d h => exact settleHeld_told e _ _ h
  case h_2 d h => exact .ite _ (withdrawRelease_told e _ _ (Standing.ne_vacant h))
  all_goals exact .refl b

theorem toldIncidentAt_told (e : Env) (b : Blocks) (t : Track) : Told b (toldIncidentAt e b t) := by
  unfold toldIncidentAt
  split
  case h_1 d h => exact settleHeld_told e _ _ h
  case h_2 d h => exact .ite _ (withdrawRelease_told e _ _ (Standing.ne_vacant h))
  all_goals exact .refl b

theorem toldIncident_told (e : Env) (b : Blocks) : Told b (toldIncident e b) :=
  .trans (toldIncidentAt_told e b .up) (toldIncidentAt_told ..)

theorem toldLatch_told (e : Env) (b : Blocks) (t : Track) : Told b (toldLatch e b t) := by
  unfold toldLatch
  split
  case h_1 d h => exact settleHeld_told e _ _ h
  case h_2 d h => exact .ite _ (withdrawRelease_told e _ _ (Standing.ne_vacant h))
  all_goals exact .refl b

theorem toldStartsAt_told (e : Env) (b : Blocks) (t : Track) : Told b (toldStartsAt e b t) := by
  unfold toldStartsAt
  split
  case h_1 d h => exact .ite _ (settleHeld_told e _ _ h)
  all_goals exact .refl b

theorem toldStarts_told (e : Env) (b : Blocks) : Told b (toldStarts e b) := .trans (toldStartsAt_told e b .up) (toldStartsAt_told ..)

theorem staggerStep_told (e : Env) (b : Blocks) (t : Track) : Told b (staggerStep e b t) := by
  unfold staggerStep
  split
  case h_1 d h => exact .ite _ (settleHeld_told e _ _ h)
  case h_2 => exact .refl b

theorem graceStep_told (b : Blocks) (t : Track) : Told b (graceStep b t) := by
  unfold graceStep
  split
  case h_1 p d h => exact .ite _ (writeDwell_told _ h)
  case h_2 => exact .refl b

/-! ### The operator's requests (R103 to R105) -/

theorem holdPlatform_told (e : Env) (b : Blocks) (t : Track) : Told b (holdPlatform e b t).1 := by
  unfold holdPlatform
  split
  · exact .refl b
  case h_2 d h => exact withdrawRelease_told e _ _ (Standing.ne_vacant h)
  case h_3 p d _ h =>
    split
    · exact .refl b
    · exact .trans (writeDwell_told _ h) (reportSet_told e _ _ (writeDwell_occupied _ _ _ _))

theorem unholdPlatform_told (e : Env) (b : Blocks) (t : Track) : Told b (unholdPlatform e b t).1 := by
  unfold unholdPlatform
  split
  · exact .refl b
  case h_2 p d h =>
    split
    · exact .refl b
    · cases p with
      | held => exact settleHeld_told e _ _ h
      | dwell => exact .trans (writeDwell_told _ h) (reportSet_told e _ _ (writeDwell_occupied _ _ _ _))
      | released => exact .trans (writeDwell_told _ h) (reportSet_told e _ _ (writeDwell_occupied _ _ _ _))

theorem releasePlatform_told (e : Env) (b : Blocks) (t : Track) : Told b (releasePlatform e b t).1 := by
  unfold releasePlatform
  split
  · exact .refl b
  · exact .refl b
  case h_3 p d _ h =>
    cases p with
    | dwell => exact releaseCheck_told e _ (Standing.ne_vacant h)
    | held => exact settleHeld_told e _ _ h
    | released => exact .refl b

end Sys2Proof.Machine

/-! SUPPORT. The frames that other blocks queue, and the Power Controller's operations that add no lockout. -/

namespace Sys2Proof.Machine

/-! ### Changes of one container -/

/-- A change of the port alone sheds. -/
theorem queueReport_sheds (e x : Env) (b : Blocks) (r : ReportBody) : Sheds e b (queueReport x b r) :=
  (queueReport_announced x b r).sheds fun _ => ⟨rfl, rfl, rfl, fun _ _ h => h⟩

theorem Sheds.ite {e : Env} {b x : Blocks} (p : Prop) [Decidable p] (h : Sheds e b x) : Sheds e b (if p then x else b) := by
  split
  · exact h
  · exact .refl e b

theorem Keeps.ite {b x : Blocks} (p : Prop) [Decidable p] (h : Keeps b x) : Keeps b (if p then x else b) := by
  split
  · exact h
  · exact .refl b

theorem setBus_sheds (e : Env) {b : Blocks} (l : Linebus) (h : BusKept b.bus l) : Sheds e b (b.setBus l) where
  lines _ hx := hx.of_lines rfl (BreakersEase.of_eq rfl).lockouts id id
  platform _ := rfl
  vacant _ h := h
  filters := rfl
  delivered := rfl
  present _ := rfl
  absent _ _ := rfl
  bus := h
  peers := rfl
  timetable := rfl
  describer := rfl
  channels := rfl
  records := .of_eq rfl
  breakers := .of_eq rfl
  still _ := ⟨rfl, rfl, rfl, fun _ _ h => h⟩

/-- The records alone are other than before, and none that did not stand. -/
theorem setRecords_keeps (b : Blocks) (l : List Incident) : Keeps b (b.setRecords l) where
  lines _ hx := hx.of_lines rfl (BreakersEase.of_eq rfl).lockouts id id
  platform _ := rfl
  vacant _ h := h
  filters := rfl
  delivered := rfl
  present _ := rfl
  absent _ _ := rfl
  bus := .refl _
  peers := rfl
  timetable := rfl
  describer := rfl
  channels := rfl

theorem setRecords_sheds (e : Env) {b : Blocks} (l : List Incident)
    (h : RecordsFrom b (b.setRecords l)) : Sheds e b (b.setRecords l) where
  toKeeps := setRecords_keeps b l
  records := h
  breakers := .of_eq rfl
  still _ := ⟨rfl, rfl, rfl, fun _ _ h => h⟩

theorem modifyRecord_keeps (b : Blocks) (id : IncidentId) (f : Incident → Incident) : Keeps b (b.modifyRecord id f) :=
  setRecords_keeps b _

/-- A change under which every record stands on. -/
theorem modifyRecord_sheds (e : Env) (b : Blocks) (id : IncidentId) (f : Incident → Incident) (h : ∀ r : Incident, r.StandsOn (f r)) :
    Sheds e b (b.modifyRecord id f) := by
  refine setRecords_sheds e _ (.of_map rfl fun r => ?_)
  split
  · exact h r
  · exact .inl rfl

theorem setBreaker_spares (b : Blocks) (br : Breaker) (x : BreakerRecord) : Spares b (b.setBreaker br x) where
  platform _ := by simp
  vacant _ h := by simpa using h
  filters := by simp
  delivered := by simp
  present y := by
    rw [Blocks.setBreaker_breakers]
    split
    case isTrue c => obtain ⟨rfl, hs⟩ := c; simp [hs]
    case isFalse => rfl
  absent _ _ := by simp
  bus := by rw [Blocks.setBreaker_bus]; exact .refl _
  peers := by simp
  timetable := by simp
  describer := by simp
  channels := by simp

theorem setBreaker_keeps {b : Blocks} {br : Breaker} {r : BreakerRecord} (x : BreakerRecord) (h : b.power.breakers.get br = some r)
    (hl : x.lockedOut = true → r.lockedOut = true) : Keeps b (b.setBreaker br x) where
  toSpares := setBreaker_spares b br x
  lines _ hx := by
    refine hx.of_lines (by simp) ?_ (by simp) (by simp)
    intro y r' hr' hy
    rw [Blocks.setBreaker_breakers] at hr'
    split at hr'
    case isTrue c =>
      obtain ⟨rfl, -⟩ := c
      obtain rfl := Option.some.inj hr'
      exact ⟨r, h, hl hy⟩
    case isFalse => exact ⟨r', hr', hy⟩

theorem setBreaker_sheds (e : Env) {b : Blocks} {br : Breaker} {r : BreakerRecord} (x : BreakerRecord)
    (h : b.power.breakers.get br = some r) (hx : r.Eases x) : Sheds e b (b.setBreaker br x) where
  toKeeps := setBreaker_keeps x h hx.locked
  records := .of_eq (by simp)
  breakers y r' hr' := by
    rw [Blocks.setBreaker_breakers] at hr'
    split at hr'
    case isTrue c =>
      obtain ⟨rfl, -⟩ := c
      obtain rfl := Option.some.inj hr'
      exact ⟨r, h, hx⟩
    case isFalse => exact ⟨r', hr', .refl r'⟩
  still _ := ⟨by simp, by simp, by simp, fun _ _ h => by simpa using h⟩

theorem modifyBreaker_keeps (b : Blocks) (br : Breaker) (f : BreakerRecord → BreakerRecord)
    (hf : ∀ r, (f r).lockedOut = true → r.lockedOut = true := by exact fun _ h => h) : Keeps b (modifyBreaker b br f) := by
  unfold modifyBreaker
  split
  case h_1 r h => exact setBreaker_keeps _ h (hf r)
  case h_2 => exact .refl b

theorem modifyBreaker_sheds (e : Env) (b : Blocks) (br : Breaker) (f : BreakerRecord → BreakerRecord)
    (hf : ∀ r : BreakerRecord, b.power.breakers.get br = some r → r.Eases (f r)) : Sheds e b (modifyBreaker b br f) := by
  unfold modifyBreaker
  split
  case h_1 r h => exact setBreaker_sheds e _ h (hf r h)
  case h_2 => exact .refl e b

/-! ### Frames (R33, R39 to R41) -/

theorem mem_insertFrame (f g : Frame) (l : List Frame) : g ∈ insertFrame f l ↔ g = f ∨ g ∈ l := by
  induction l with
  | nil => simp [insertFrame]
  | cons x l ih =>
    unfold insertFrame
    split
    · simp
    · simp only [List.mem_cons, ih]; tauto

theorem Transmitter.wake_kept (x : Transmitter) : TxKept x x.wake := by cases x <;> simp [Transmitter.wake, TxKept]

theorem Linebus.insert_kept (l : Linebus) (f : Frame) (hf : f.cls.removable = false) : BusKept l (l.insert f) where
  tx := l.tx.wake_kept
  waiting g hg hr := by
    rcases (mem_insertFrame f g l.waiting).1 hg with rfl | h
    · simp [hf] at hr
    · exact h
  silent := rfl
  advances := rfl
  statusDue := rfl

theorem dropFrame_sheds (e x : Env) (b : Blocks) (cause : TxDropCause) (f : Frame) : Sheds e b (dropFrame x b cause f) := by
  have counted := setBus_sheds e (b := b) { b.bus with dropped := countUp Config.counterMax b.bus.dropped }
    ⟨.refl _, fun _ h _ => h, rfl, rfl, rfl⟩
  unfold dropFrame
  dsimp only
  split
  · exact counted
  · exact counted.trans (queueReport_sheds ..)

theorem admitFrame_sheds (e x : Env) (b : Blocks) (f : Frame) (hf : f.cls.removable = false) : Sheds e b (admitFrame x b f) := by
  unfold admitFrame
  split
  · exact setBus_sheds e _ (b.bus.insert_kept f hf)
  · split
    · split
      · dsimp only
        refine .trans (.trans ?_ (dropFrame_sheds ..)) (setBus_sheds e _ (Linebus.insert_kept _ f hf))
        exact setBus_sheds e _ ⟨.refl _, fun _ h _ => List.mem_of_mem_dropLast h, rfl, rfl, rfl⟩
      · exact dropFrame_sheds ..
    · exact dropFrame_sheds ..

/-- A new snapshot takes the place of a STATUS frame, which waits or stands in BACKOFF. -/
theorem renewStatus_kept (l : Linebus) (c : StatusContents) : BusKept l (renewStatus l c) := by
  have waits : ∀ g ∈ l.waiting.map (fun f => if f.isStatus then Frame.status c else f), g.cls.removable = true → g ∈ l.waiting := by
    intro g hg hr
    obtain ⟨f, hf, rfl⟩ := List.mem_map.1 hg
    cases hs : f.isStatus with
    | true => simp [hs, Frame.cls, FrameClass.removable] at hr
    | false => simpa using hf
  unfold renewStatus
  split
  case h_1 h ht =>
    split
    case isTrue hs => exact ⟨by rw [ht]; exact .inr ⟨hs, c, rfl⟩, fun _ h _ => h, rfl, rfl, rfl⟩
    case isFalse => exact ⟨.refl _, waits, rfl, rfl, rfl⟩
  case h_2 => exact ⟨.refl _, waits, rfl, rfl, rfl⟩

theorem queueFrame_sheds (e x : Env) (b : Blocks) (f : Frame) (hf : f.cls.removable = false) : Sheds e b (queueFrame x b f) := by
  unfold queueFrame
  split
  · exact .refl e b
  · dsimp only
    split
    · exact .trans (admitFrame_sheds e x b f hf) (setBus_sheds e _ (renewStatus_kept ..))
    · exact admitFrame_sheds e x b f hf

theorem queueStatus_sheds (e x : Env) (b : Blocks) : Sheds e b (queueStatus x b) := by
  unfold queueStatus
  split
  · exact .refl e b
  · split
    · exact setBus_sheds e _ (renewStatus_kept ..)
    · exact admitFrame_sheds e x b _ rfl

theorem queuePowerFrame_sheds (e x : Env) (b : Blocks) (br : Breaker) (reason : Option RefusalReason) :
    Sheds e b (queuePowerFrame x b br reason) := by
  unfold queuePowerFrame
  split
  · split
    · exact queueFrame_sheds e x b _ rfl
    · exact .refl e b
  · exact .refl e b

theorem Incident.refreshed_standsOn (r : Incident) : r.StandsOn r.refreshed := by
  unfold Incident.refreshed
  split
  case h_1 o h => exact .inr ⟨o, _, h, rfl⟩
  case h_2 => exact .inl rfl

theorem queueIncidentFrame_sheds (e x : Env) (b : Blocks) (id : IncidentId) (action : IncidentAction) (reason : Option CloseReason) :
    Sheds e b (queueIncidentFrame x b id action reason) := by
  unfold queueIncidentFrame
  split
  · exact .trans (queueFrame_sheds e x b _ rfl) (modifyRecord_sheds e _ id _ Incident.refreshed_standsOn)
  · exact .refl e b

theorem reportIncident_sheds (e x : Env) (b : Blocks) (event : IncidentEvent) (id : IncidentId) :
    Sheds e b (reportIncident x b event id) := by
  unfold reportIncident
  split
  · exact queueReport_sheds ..
  · exact .refl e b

/-! ### Sections and isolation items (R127, R128, R132) -/

theorem withdrawWhere_sheds (e x : Env) (b : Blocks) (p : Chain → Bool) : Sheds e b (withdrawWhere x b p) :=
  (withdrawWhere_announced x b p).sheds fun hs => by rw [withdrawWhere_of_no_chain x b p hs.queues]; exact .refl b

theorem toldPower_sheds (e x : Env) (b : Blocks) (t : Track) : Sheds e b (toldPower x b t) := (toldPower_told x b t).sheds e

theorem toldIncident_sheds (e x : Env) (b : Blocks) : Sheds e b (toldIncident x b) := (toldIncident_told x b).sheds e

theorem toldLatch_sheds (e x : Env) (b : Blocks) (t : Track) : Sheds e b (toldLatch x b t) := (toldLatch_told x b t).sheds e

/-- SUSPEND is offered in SERVICE alone (R128). -/
theorem offerSuspendInService_sheds (e : Env) (b : Blocks) (t : Track) (sec : TractionSection) (p : Prop) [Decidable p] :
    Sheds e b (if p ∧ e.inService then offerSuspend e b t sec else b) :=
  (Announced.ite _ (offerSuspend_announced ..)).sheds fun hs => by
    rw [if_neg (by simp [hs.service])]; exact .refl b

theorem tellSection_sheds (e : Env) (b : Blocks) (sec : TractionSection) (before after : SectionState) :
    Sheds e b (tellSection e b sec before after) := by
  unfold tellSection
  dsimp only
  refine .trans ?_ (.ite _ (withdrawWhere_sheds ..))
  split
  · exact .trans (toldPower_sheds ..) (offerSuspendInService_sheds e _ _ sec (after = .dead))
  · exact .refl e b

theorem sectionUpdate_sheds (e : Env) (b : Blocks) (br : Breaker) : Sheds e b (sectionUpdate e b br) := by
  unfold sectionUpdate
  split
  case h_1 r h =>
    have written (s : Option SectionState) : Sheds e b (b.setBreaker br { r with sectionState := s }) :=
      setBreaker_sheds e _ h ⟨id, .inr rfl, id, fun _ _ => rfl⟩
    split
    · exact .refl e b
    · dsimp only
      split
      · split
        · exact .trans (written _) (toldPower_sheds ..)
        · exact written _
      · split
        · exact .refl e b
        · exact .trans (.trans (written _) (queueReport_sheds ..)) (tellSection_sheds ..)
  case h_2 => exact .refl e b

theorem Incident.setItems_standsOn (r : Incident) (l : List IsolationItem) : r.StandsOn (r.setItems l) := by
  unfold Incident.setItems
  split
  case h_1 o h => exact .inr ⟨o, _, h, rfl⟩
  case h_2 => exact .inl rfl

theorem setItem_sheds (e : Env) (b : Blocks) (id : IncidentId) (sec : TractionSection) (f : IsolationItem → IsolationItem) :
    Sheds e b (setItem b id sec f) := modifyRecord_sheds e b id _ fun r => r.setItems_standsOn _

theorem confirmItem_sheds (e x : Env) (b : Blocks) (id : IncidentId) (sec : TractionSection) : Sheds e b (confirmItem x b id sec) :=
  .ite _ (.trans (setItem_sheds ..) (queueReport_sheds ..))

theorem confirmItems_sheds (e x : Env) (b : Blocks) (p : TractionSection → Bool) : Sheds e b (confirmItems x b p) :=
  Sheds.foldl (fun _ _ => confirmItem_sheds ..) _ _

/-! ### Changes of state, commands and waits (R118 to R122, R138) -/

/-- What follows the write of a breaker's state. -/
theorem setCondition_after (e : Env) (b : Blocks) (br : Breaker) (c : Condition) (cause : Option ChangeCause) :
    Sheds e (modifyBreaker b br fun r => { r with condition := some c }) (setCondition e b br c cause) := by
  have told : Sheds e (modifyBreaker b br fun r => { r with condition := some c })
      (sectionUpdate e (queueReport e (queuePowerFrame e (modifyBreaker b br fun r => { r with condition := some c }) br none)
        (.breakerChange br c.state cause)) br) :=
    .trans (.trans (queuePowerFrame_sheds ..) (queueReport_sheds ..)) (sectionUpdate_sheds ..)
  exact .trans told (.ite _ (confirmItems_sheds ..))

theorem setCondition_keeps (e : Env) (b : Blocks) (br : Breaker) (c : Condition) (cause : Option ChangeCause) :
    Keeps b (setCondition e b br c cause) := by
  refine .trans ?_ (Sheds.keeps (setCondition_after ..))
  exact modifyBreaker_keeps b br _

/-- A breaker that is FAILED or locked out leaves its state for another than FAILED. -/
theorem setCondition_sheds (e : Env) (b : Blocks) (br : Breaker) (c : Condition) (cause : Option ChangeCause) (hc : c ≠ .failed)
    (hb : ∀ r, b.power.breakers.get br = some r → r.condition = some .failed ∨ r.lockedOut = true) :
    Sheds e b (setCondition e b br c cause) := by
  refine .trans ?_ (setCondition_after ..)
  refine modifyBreaker_sheds e b br _ fun r hr => ⟨fun h => absurd (Option.some.inj h) hc, .inr rfl, id, fun hf hl => ?_⟩
  exact absurd (hb r hr) (by simp [hf, hl])

theorem refuseRestore_sheds (e x : Env) (b : Blocks) (br : Breaker) (requester : Nat) (reason : RefusalReason) :
    Sheds e b (refuseRestore x b br requester reason) := .trans (queuePowerFrame_sheds ..) (queueReport_sheds ..)

theorem clearWait_sheds (e : Env) (b : Blocks) (br : Breaker) : Sheds e b (clearWait b br) :=
  modifyBreaker_sheds e b br _ fun _ _ => ⟨id, .inl rfl, id, fun _ _ => rfl⟩

theorem endWait_sheds (e x : Env) (b : Blocks) (br : Breaker) (reason : RefusalReason) : Sheds e b (endWait x b br reason) := by
  unfold endWait
  split
  · exact .trans (clearWait_sheds ..) (refuseRestore_sheds ..)
  · exact .refl e b

/-- A present breaker's lines written so that they stay exclusive and no close pulse begins. -/
theorem setCoils_sheds (e : Env) {b : Blocks} {br : Breaker} {c : CoilLines} (h : b.power.breakers.get br ≠ none)
    (hex : (b.field.coils.get br).exclusive → c.exclusive)
    (hcl : (b.field.coils.get br).closeLine = false ∧ (b.field.coils.get br).pendingClose = false →
      c.closeLine = false ∧ c.pendingClose = false) : Sheds e b (b.setCoils br c) where
  lines x hx :=
    { coils := fun y => by
        by_cases hy : y = br
        · subst hy; simpa using hex (hx.coils y)
        · simpa [hy] using hx.coils y
      locked := fun y r hn hr hl => by
        by_cases hy : y = br
        · subst hy; simpa using hcl (hx.locked y r hn hr hl)
        · simpa [hy] using hx.locked y r hn hr hl
      alarm := hx.alarm
      starters := hx.starters }
  platform _ := rfl
  vacant _ h := h
  filters := rfl
  delivered := rfl
  present _ := rfl
  absent y hy := by
    have : y ≠ br := fun hyb => h (hyb ▸ hy)
    simp [this]
  bus := .refl _
  peers := rfl
  timetable := rfl
  describer := rfl
  channels := rfl
  records := .of_eq rfl
  breakers := .of_eq rfl
  still _ := ⟨rfl, rfl, rfl, fun _ _ h => h⟩

theorem openCoil_sheds (e : Env) {b : Blocks} {br : Breaker} (h : b.power.breakers.get br ≠ none) : Sheds e b (openCoil b br) :=
  setCoils_sheds e h (fun _ => by simp [CoilLines.openPulse, CoilLines.exclusive]) fun _ => ⟨rfl, rfl⟩

theorem endCloseCoil_sheds (e : Env) {b : Blocks} {br : Breaker} (h : b.power.breakers.get br ≠ none) : Sheds e b (endCloseCoil b br) :=
  setCoils_sheds e h (fun _ => by simp [CoilLines.endClose, CoilLines.exclusive]) fun _ => ⟨rfl, rfl⟩

theorem endPulse_sheds (e : Env) (b : Blocks) (br : Breaker) : Sheds e b (endPulse b br) := by
  unfold endPulse
  split
  case h_1 r h =>
    refine setCoils_sheds e (by simp [h]) ?_ ?_ <;> unfold CoilLines.pulseEnd
    · split <;> simp [CoilLines.exclusive]
    · rintro ⟨hc, hp⟩
      split <;> simp [hp]
  case h_2 => exact .refl e b

/-- An open command is at most a change of state, with the coil driven or not, and the end of a restore wait. -/
theorem openCommand_cases (e : Env) (b : Blocks) (br : Breaker) : ∃ x : Blocks, openCommand e b br = endWait e x br .abandoned ∧
    (x = b ∨ (∃ c, b.power.breakers.get br ≠ none ∧ c ≠ .failed ∧ x = setCondition e (openCoil b br) br c none)
      ∨ x = setCondition e b br .opened none) := by
  refine ⟨_, rfl, ?_⟩
  split
  case h_1 r h =>
    have present : b.power.breakers.get br ≠ none := by simp [h]
    split
    · exact .inr (.inl ⟨_, present, by simp, rfl⟩)
    · exact .inr (.inl ⟨_, present, by simp, rfl⟩)
    · exact .inl rfl
    · exact .inl rfl
    · split
      · exact .inr (.inl ⟨_, present, by simp, rfl⟩)
      · exact .inr (.inr rfl)
    · exact .inl rfl
  case h_2 => exact .inl rfl

theorem openCommand_keeps (e : Env) (b : Blocks) (br : Breaker) : Keeps b (openCommand e b br) := by
  obtain ⟨x, hx, rfl | ⟨c, present, -, rfl⟩ | rfl⟩ := openCommand_cases e b br <;> rw [hx] <;> refine .trans ?_ (endWait_sheds e ..).keeps
  · exact .refl _
  · exact .trans (openCoil_sheds e present).keeps (setCondition_keeps ..)
  · exact setCondition_keeps ..

theorem openCommand_sheds (e : Env) {b : Blocks} {br : Breaker} {r : BreakerRecord} (h : b.power.breakers.get br = some r)
    (hr : r.condition = some .failed ∨ r.lockedOut = true) : Sheds e b (openCommand e b br) := by
  have same (r' : BreakerRecord) (hr' : b.power.breakers.get br = some r') : r'.condition = some .failed ∨ r'.lockedOut = true :=
    Option.some.inj (h.symm.trans hr') ▸ hr
  obtain ⟨x, hx, rfl | ⟨c, present, hc, rfl⟩ | rfl⟩ := openCommand_cases e b br <;> rw [hx] <;> refine .trans ?_ (endWait_sheds ..)
  · exact .refl e _
  · exact .trans (openCoil_sheds e present) (setCondition_sheds e _ br c none hc same)
  · exact setCondition_sheds e b br .opened none (by simp) same

theorem openIfLocked_sheds (e : Env) (b : Blocks) (br : Breaker) : Sheds e b (openIfLocked e b br) := by
  unfold openIfLocked
  split
  case h_1 r h =>
    split
    case isTrue locked => exact openCommand_sheds e h (.inr locked.1)
    case isFalse => exact .refl e b
  case h_2 => exact .refl e b

theorem followInput_sheds (e : Env) (b : Blocks) (br : Breaker) : Sheds e b (followInput e b br) := by
  unfold followInput
  split
  case h_1 r h =>
    split
    case isTrue failed =>
      refine .trans (setCondition_sheds e b br _ _ ?_ fun r' hr' => .inl ?_) (openIfLocked_sheds ..)
      · split <;> simp
      · exact Option.some.inj (h.symm.trans hr') ▸ failed
    case isFalse => exact .refl e b
  case h_2 => exact .refl e b

/-! ### Lockout sets that lose ids (R126) -/

theorem reportLockout_sheds (e x : Env) (b : Blocks) (br : Breaker) (before : BreakerRecord) :
    Sheds e b (reportLockout x b br before) := by
  unfold reportLockout
  split
  · split
    · exact .refl e b
    · exact queueReport_sheds ..
  · exact .refl e b

/-- A set that loses ids locks out no breaker. -/
theorem BreakerRecord.lockedOut_filter (r : BreakerRecord) (p : IncidentId → Bool) (o : Bool) (ho : o = true → r.overlock = true)
    (h : ({ r with lockout := r.lockout.filter p, overlock := o } : BreakerRecord).lockedOut = true) : r.lockedOut = true := by
  simp only [BreakerRecord.lockedOut, Bool.or_eq_true] at h ⊢
  refine h.imp (fun h => ?_) ho
  cases hl : r.lockout with
  | nil => simp [hl] at h
  | cons => simp

theorem lockoutRemove_sheds (e x : Env) (b : Blocks) (br : Breaker) (id : IncidentId) : Sheds e b (lockoutRemove x b br id) := by
  unfold lockoutRemove
  split
  case h_1 r h =>
    refine .ite _ (.trans ?_ (reportLockout_sheds ..))
    exact setBreaker_sheds e _ h ⟨fun h => h, .inr rfl, r.lockedOut_filter _ _ fun h => h, fun _ _ => rfl⟩
  case h_2 => exact .refl e b

theorem forceLockout_sheds (e x : Env) (b : Blocks) (br : Breaker) : Sheds e b (forceLockout x b br) := by
  unfold forceLockout
  split
  case h_1 r h =>
    refine .trans ?_ (reportLockout_sheds ..)
    exact setBreaker_sheds e _ h ⟨id, .inr rfl, r.lockedOut_filter _ _ (by simp), fun _ _ => rfl⟩
  case h_2 => exact .refl e b

theorem failIdLeft_sheds (e : Env) (b : Blocks) (br : Breaker) (id : IncidentId) : Sheds e b (failIdLeft e b br id) := by
  unfold failIdLeft
  split
  case h_1 r h =>
    refine .ite _ (.trans ?_ (followInput_sheds ..))
    exact setBreaker_sheds e _ h ⟨fun h => h, .inr rfl, fun h => h, fun _ _ => rfl⟩
  case h_2 => exact .refl e b

/-- The breakers stay as they are. -/
theorem setPower_sheds (e : Env) (b : Blocks) (p : Power) (h : p.breakers = b.power.breakers) : Sheds e b (b.setPower p) where
  lines _ hx := hx.of_lines rfl (BreakersEase.of_eq h).lockouts id id
  platform _ := rfl
  vacant _ h := h
  filters := rfl
  delivered := rfl
  present _ := by simp [h]
  absent _ _ := rfl
  bus := .refl _
  peers := rfl
  timetable := rfl
  describer := rfl
  channels := rfl
  records := .of_eq rfl
  breakers := .of_eq h
  still _ := ⟨rfl, rfl, rfl, fun _ _ h => h⟩

theorem setLatch_sheds (e : Env) (b : Blocks) (t : Track) (l : Latch) : Sheds e b (b.setLatch t l) := setPower_sheds e b _ rfl

theorem latchIdLeft_sheds (e : Env) (b : Blocks) (t : Track) (id : IncidentId) : Sheds e b (latchIdLeft b t id) :=
  .ite _ (setLatch_sheds ..)

theorem tellLatchCleared_sheds (e x : Env) (b : Blocks) (t : Track) (id : IncidentId) (before : Blocks) :
    Sheds e b (tellLatchCleared x b t id before) := .ite _ (.trans (toldLatch_sheds ..) (queueReport_sheds ..))

theorem powerIdLeft_sheds (e : Env) (b : Blocks) (id : IncidentId) : Sheds e b (powerIdLeft e b id) := by
  unfold powerIdLeft
  refine .trans ?_ (Sheds.foldl (fun _ _ => failIdLeft_sheds ..) _ _)
  refine .trans ?_ (Sheds.foldl (fun _ _ => tellLatchCleared_sheds ..) _ _)
  refine .trans ?_ (Sheds.foldl (fun _ _ => lockoutRemove_sheds ..) _ _)
  exact Sheds.foldl (fun _ _ => latchIdLeft_sheds ..) _ _

/-! ### Records that leave the table (R154, R163) -/

theorem mem_freeWhere {s : Store} {p : Holder → Bool} {h : Holder} (hm : some h ∈ (s.freeWhere p).blocks) : some h ∈ s.blocks := by
  obtain ⟨x, hx, hxe⟩ := List.mem_map.1 hm
  split at hxe
  · simp at hxe
  · exact hxe ▸ hx

theorem releaseIncident_sheds (e : Env) (b : Blocks) (id : IncidentId) : Sheds e b (releaseIncident b id) :=
  (setStore_announced b _).sheds fun _ => ⟨rfl, rfl, rfl, fun _ _ h => mem_freeWhere h⟩

theorem leaveTable_sheds (e : Env) (b : Blocks) (id : IncidentId) : Sheds e b (leaveTable b id) :=
  .trans (setRecords_sheds e _ (.of_sublist List.filter_sublist)) (releaseIncident_sheds ..)

theorem tellDeparture_sheds (e : Env) (b : Blocks) (id : IncidentId) : Sheds e b (tellDeparture e b id) :=
  .trans (.trans (powerIdLeft_sheds ..) (withdrawWhere_sheds ..)) (toldIncident_sheds ..)

theorem removeCopy_sheds (e : Env) (b : Blocks) (id : IncidentId) : Sheds e b (removeCopy e b id) :=
  .trans (leaveTable_sheds ..) (tellDeparture_sheds ..)

theorem closeRecord_sheds (e : Env) (b : Blocks) (r : Incident) (reason : CloseReason) : Sheds e b (closeRecord e b r reason) := by
  unfold closeRecord
  dsimp only
  refine .trans (.trans ?_ (removeCopy_sheds ..)) (queueReport_sheds ..)
  split
  · exact .refl e b
  · exact queueFrame_sheds e e b _ rfl

theorem closeOwned_sheds (e : Env) (b : Blocks) (id : Option IncidentId) (kind : IncidentKind) :
    Sheds e b (closeOwned e b id kind) := by
  unfold closeOwned
  split
  · exact closeRecord_sheds ..
  · exact .refl e b

theorem closeWhere_sheds (e : Env) (b : Blocks) (p : Incident → Bool) (reason : CloseReason) : Sheds e b (closeWhere e b p reason) := by
  refine Sheds.foldl (fun b id => ?_) _ _
  split
  · exact closeRecord_sheds ..
  · exact .refl e b

theorem evictCopy_sheds (e : Env) (b : Blocks) (r : Incident) : Sheds e b (evictCopy e b r) :=
  .trans (removeCopy_sheds ..) (queueReport_sheds ..)

theorem makeRoom_sheds (e : Env) {b b' : Blocks} {severity : Nat} {isLocal : Bool} (h : makeRoom e b severity isLocal = some b') :
    Sheds e b b' := by
  unfold makeRoom at h
  split at h
  · obtain rfl := Option.some.inj h; exact .refl e b
  · split at h
    · obtain rfl := Option.some.inj h; exact evictCopy_sheds ..
    · split at h
      · split at h
        · obtain rfl := Option.some.inj h; exact closeRecord_sheds ..
        · split at h
          · obtain rfl := Option.some.inj h; exact evictCopy_sheds ..
          · split at h
            · obtain rfl := Option.some.inj h; exact closeRecord_sheds ..
            · cases h
      · cases h

end Sys2Proof.Machine

/-! SUPPORT. The Power Controller and the Incident Table where they add lockouts, close breakers and raise: the lines stay true. -/

namespace Sys2Proof.Machine

/-! ### What sheds keeps -/

theorem Keeps.iteElse {b x : Blocks} (p : Prop) [Decidable p] (h : Keeps b x) : Keeps b (if p then b else x) := by
  split
  · exact .refl b
  · exact h

theorem queueReport_keeps (e : Env) (b : Blocks) (r : ReportBody) : Keeps b (queueReport e b r) := (queueReport_announced e b r).keeps

theorem queuePowerFrame_keeps (e : Env) (b : Blocks) (br : Breaker) (reason : Option RefusalReason) :
    Keeps b (queuePowerFrame e b br reason) := (queuePowerFrame_sheds e e b br reason).keeps

theorem queueIncidentFrame_keeps (e : Env) (b : Blocks) (id : IncidentId) (action : IncidentAction) (reason : Option CloseReason) :
    Keeps b (queueIncidentFrame e b id action reason) := (queueIncidentFrame_sheds e e b id action reason).keeps

theorem reportIncident_keeps (e : Env) (b : Blocks) (event : IncidentEvent) (id : IncidentId) :
    Keeps b (reportIncident e b event id) := (reportIncident_sheds e e b event id).keeps

theorem refuseRestore_keeps (e : Env) (b : Blocks) (br : Breaker) (requester : Nat) (reason : RefusalReason) :
    Keeps b (refuseRestore e b br requester reason) := (refuseRestore_sheds e e b br requester reason).keeps

theorem clearWait_keeps (b : Blocks) (br : Breaker) : Keeps b (clearWait b br) := modifyBreaker_keeps b br _

theorem endWait_keeps (e : Env) (b : Blocks) (br : Breaker) (reason : RefusalReason) : Keeps b (endWait e b br reason) :=
  (endWait_sheds e e b br reason).keeps

theorem openIfLocked_keeps (e : Env) (b : Blocks) (br : Breaker) : Keeps b (openIfLocked e b br) := (openIfLocked_sheds e b br).keeps

theorem setItem_keeps (b : Blocks) (id : IncidentId) (sec : TractionSection) (f : IsolationItem → IsolationItem) :
    Keeps b (setItem b id sec f) := modifyRecord_keeps b id _

theorem confirmItems_keeps (e : Env) (b : Blocks) (p : TractionSection → Bool) : Keeps b (confirmItems e b p) :=
  (confirmItems_sheds e e b p).keeps

theorem toldIncident_keeps (e : Env) (b : Blocks) : Keeps b (toldIncident e b) := (toldIncident_sheds e e b).keeps

theorem setLatch_keeps (e : Env) (b : Blocks) (t : Track) (l : Latch) : Keeps b (b.setLatch t l) := (setLatch_sheds e b t l).keeps

/-! ### Lockout sets that gain an id (R125) -/

/-- A record written on a breaker leaves the lines true but for that breaker's own. -/
theorem setBreaker_linesOk {x : Breaker → Prop} {b : Blocks} (h : b.LinesOk x) (br : Breaker) (r : BreakerRecord) :
    (b.setBreaker br r).LinesOk fun y => x y ∨ y = br where
  coils y := by simpa using h.coils y
  locked y r' hn hr' hl := by
    have hne : y ≠ br := fun hy => hn (.inr hy)
    rw [Blocks.setBreaker_breakers, if_neg fun c => hne c.1] at hr'
    simpa using h.locked y r' (fun hx => hn (.inl hx)) hr' hl
  alarm := by simpa using h.alarm
  starters t := by simpa using h.starters t

/-- The end of a breaker's close pulse makes its own lines true again. -/
theorem endCloseCoil_linesOk {x : Breaker → Prop} {b : Blocks} {br : Breaker} (h : b.LinesOk fun y => x y ∨ y = br) :
    (endCloseCoil b br).LinesOk x where
  coils y := by
    by_cases hy : y = br
    · subst hy; simp [endCloseCoil, CoilLines.endClose, CoilLines.exclusive]
    · simpa [endCloseCoil, hy] using h.coils y
  locked y r hn hr hl := by
    by_cases hy : y = br
    · subst hy; simp [endCloseCoil, CoilLines.endClose]
    · simpa [endCloseCoil, hy] using h.locked y r (fun c => c.elim hn hy) hr hl
  alarm := h.alarm
  starters := h.starters

theorem examineBreaker_spares (e : Env) {b : Blocks} {br : Breaker} (h : b.power.breakers.get br ≠ none) :
    Spares b (examineBreaker e b br) := by
  have opened := (openCommand_keeps e b br).spares
  have present : (openCommand e b br).power.breakers.get br ≠ none := by
    have := opened.present br
    rw [Ne, ← Option.isNone_iff_eq_none, Option.isNone_eq_false_iff.2]
    · simp
    · rw [this]; exact Option.isSome_iff_ne_none.2 h
  exact opened.trans (.trans (endCloseCoil_sheds e present).keeps.spares (endWait_keeps ..).spares)

/-- An open command and the end of the close pulse make true again what an addition has broken. -/
theorem examineBreaker_linesOk (e : Env) {x : Breaker → Prop} {b : Blocks} {br : Breaker} (h : b.LinesOk fun y => x y ∨ y = br) :
    (examineBreaker e b br).LinesOk x :=
  (endWait_keeps ..).lines x (endCloseCoil_linesOk ((openCommand_keeps e b br).lines _ h))

theorem lockoutAdd_keeps (e : Env) (b : Blocks) (br : Breaker) (id : IncidentId) (latch : Bool) :
    Keeps b (lockoutAdd e b br id latch) := by
  unfold lockoutAdd
  split
  case h_1 r h =>
    split
    · exact .refl b
    · have written := setBreaker_spares b br (r.addLockout id latch)
      have reported := reportLockout_sheds e e (b.setBreaker br (r.addLockout id latch)) br r
      refine ⟨(written.trans reported.keeps.spares).trans (examineBreaker_spares e ?_), fun x hx => ?_⟩
      · have := (written.trans reported.keeps.spares).present br
        exact Option.isSome_iff_ne_none.1 (by rw [this, h]; rfl)
      · exact examineBreaker_linesOk e (reported.lines _ (setBreaker_linesOk hx br _))
  case h_2 => exact .refl b

/-! ### Closing (R119, R135 to R138) -/

/-- A breaker that the close conditions let close is present and no lockout stands on it (R135). -/
theorem closeRefusal_eq_none {e : Env} {b : Blocks} {br : Breaker} {fromPort : Bool} (h : closeRefusal e b br fromPort = none) :
    ∃ r, b.power.breakers.get br = some r ∧ r.lockedOut = false := by
  unfold closeRefusal at h
  split at h
  case h_1 r hr =>
    refine ⟨r, hr, ?_⟩
    simp only [BreakerRecord.lockedOut, Bool.or_eq_false_iff]
    split_ifs at h with _ h2 h3
    exact ⟨by simpa using h2, by simpa using h3⟩
  case h_2 => cases h

theorem CoilLines.closePulse_exclusive {c : CoilLines} (h : c.exclusive) : c.closePulse.exclusive := by
  unfold CoilLines.closePulse
  obtain ⟨h1, h2⟩ := h
  split
  case isTrue ho => exact ⟨h1, fun _ => ho⟩
  case isFalse ho => exact ⟨fun hc => ho hc.1, h2⟩

theorem closeCoil_keeps {b : Blocks} {br : Breaker} {r : BreakerRecord} (h : b.power.breakers.get br = some r)
    (hl : r.lockedOut = false) : Keeps b (closeCoil b br) where
  platform _ := rfl
  vacant _ h := h
  filters := rfl
  delivered := rfl
  present _ := rfl
  absent y hy := by
    have : y ≠ br := fun hyb => by subst hyb; simp [h] at hy
    simp [closeCoil, this]
  bus := .refl _
  peers := rfl
  timetable := rfl
  describer := rfl
  channels := rfl
  lines x hx :=
    { coils := fun y => by
        by_cases hy : y = br
        · subst hy; simpa [closeCoil] using CoilLines.closePulse_exclusive (hx.coils y)
        · simpa [closeCoil, hy] using hx.coils y
      locked := fun y s hn hs hsl => by
        by_cases hy : y = br
        · subst hy
          obtain rfl : s = r := Option.some.inj (hs.symm.trans h)
          simp [hl] at hsl
        · simpa [closeCoil, hy] using hx.locked y s hn hs hsl
      alarm := hx.alarm
      starters := hx.starters }

theorem closeCommand_keeps (e : Env) {b : Blocks} {br : Breaker} {r : BreakerRecord} (h : b.power.breakers.get br = some r)
    (hl : r.lockedOut = false) : Keeps b (closeCommand e b br) := .trans (closeCoil_keeps h hl) (setCondition_keeps ..)

/-- A close command after the end of the wait that stood for it. -/
theorem closeCommand_clearWait_keeps (e : Env) {b : Blocks} {br : Breaker} {r : BreakerRecord} (h : b.power.breakers.get br = some r)
    (hl : r.lockedOut = false) : Keeps b (closeCommand e (clearWait b br) br) := by
  have hc : (clearWait b br).power.breakers.get br = some { r with wait := none } := by
    rw [clearWait, modifyBreaker_eq b br r _ h]; exact setBreaker_get b br r _ h
  exact .trans (clearWait_keeps b br) (closeCommand_keeps e hc hl)

theorem meetLow_keeps (e : Env) (b : Blocks) (br : Breaker) (fromPort : Bool) (requester : Nat) :
    Keeps b (meetLow e b br fromPort requester) := by
  unfold meetLow
  split
  case h_1 h =>
    obtain ⟨r, hr, hl⟩ := closeRefusal_eq_none h
    exact closeCommand_keeps e hr hl
  case h_2 => exact refuseRestore_keeps ..

theorem meetHigh_keeps (e : Env) (b : Blocks) (br : Breaker) (fromPort : Bool) (requester : Nat) (id : Option IncidentId) :
    Keeps b (meetHigh e b br fromPort requester id) := by
  unfold meetHigh
  split
  case h_1 => exact .trans (clearWait_keeps b br) (refuseRestore_keeps ..)
  case h_2 h =>
    obtain ⟨r, hr, hl⟩ := closeRefusal_eq_none h
    split
    · exact closeCommand_clearWait_keeps e hr hl
    · dsimp only
      have waits := modifyBreaker_keeps b br
        (fun r => { r with wait := some { fromPort := fromPort, requester := requester, id := id, count := 0 } })
      split
      · exact waits
      · exact waits.trans (queuePowerFrame_keeps ..)

theorem namedCleanup_keeps (e : Env) (b : Blocks) (br : Breaker) (id : Option IncidentId) : Keeps b (namedCleanup e b br id) := by
  unfold namedCleanup
  split
  · exact .ite _ (lockoutRemove_sheds e ..).keeps
  · exact .refl b

theorem meetRestore_keeps (e : Env) (b : Blocks) (br : Breaker) (fromPort : Bool) (requester : Nat) (id : Option IncidentId) :
    Keeps b (meetRestore e b br fromPort requester id) := by
  unfold meetRestore
  dsimp only
  refine .trans (namedCleanup_keeps e b br id) ?_
  split
  · exact queuePowerFrame_keeps ..
  · exact queuePowerFrame_keeps ..
  · split
    · exact meetHigh_keeps ..
    · exact meetLow_keeps ..

theorem tryWait_keeps (e : Env) (b : Blocks) (br : Breaker) : Keeps b (tryWait e b br) := by
  unfold tryWait
  split
  · split
    case h_1 h =>
      obtain ⟨r, hr, hl⟩ := closeRefusal_eq_none h
      exact closeCommand_clearWait_keeps e hr hl
    case h_2 => exact .trans (clearWait_keeps b br) (refuseRestore_keeps ..)
  · exact .refl b

theorem toldFarEnd_keeps (e : Env) (b : Blocks) (br : Breaker) : Keeps b (toldFarEnd e b br) := by
  unfold toldFarEnd
  dsimp only
  refine .trans ?_ (.ite _ (tryWait_keeps ..))
  exact .trans (sectionUpdate_sheds e b br).keeps (confirmItems_keeps ..)

theorem toldLost_keeps (e : Env) (b : Blocks) (p : Nat) : Keeps b (toldLost e b p) :=
  Keeps.foldl (fun _ _ => .ite _ (tryWait_keeps ..)) _ _

theorem settleBreaker_keeps (e : Env) (b : Blocks) (br : Breaker) (isClosed : Bool) : Keeps b (settleBreaker e b br isClosed) := by
  unfold settleBreaker
  refine .trans ?_ (openIfLocked_keeps ..)
  exact .trans (modifyBreaker_keeps b br _) (setCondition_keeps ..)

theorem thirdStep_keeps (e : Env) (b : Blocks) (br : Breaker) : Keeps b (thirdStep e b br) := by
  unfold thirdStep
  split
  · exact .ite _ (setCondition_keeps ..)
  · exact .refl b

theorem waitStep_keeps (e : Env) (b : Blocks) (br : Breaker) : Keeps b (waitStep e b br) := by
  unfold waitStep
  split
  · exact .ite _ (endWait_keeps ..)
  · exact .refl b

/-! ### The Incident Table (chapter 8) -/

theorem setAlarm_keeps (b : Blocks) (on : Bool) : Keeps b (setAlarm b on) where
  platform _ := rfl
  vacant _ h := h
  filters := rfl
  delivered := rfl
  present _ := rfl
  absent _ _ := rfl
  bus := .refl _
  peers := rfl
  timetable := rfl
  describer := rfl
  channels := rfl
  lines _ hx := hx.of_lines rfl (BreakersEase.of_eq rfl).lockouts (fun _ => rfl) id

theorem soundAlarm_keeps (b : Blocks) (severity : Nat) : Keeps b (soundAlarm b severity) := .ite _ (setAlarm_keeps b true)

theorem tellEntry_keeps (e : Env) (b : Blocks) (r : Incident) (lateness : Option Nat) : Keeps b (tellEntry e b r lateness) :=
  .trans (.trans (toldIncident_keeps e b) (soundAlarm_keeps ..)) (offerForIncident_announced ..).keeps

theorem tellChange_keeps (e : Env) (b : Blocks) (before after : Nat) : Keeps b (tellChange e b before after) := by
  unfold tellChange
  exact .trans (toldIncident_keeps e b) (.ite _ (soundAlarm_keeps ..))

/-- The table is other than before, with the alarm state it had. -/
theorem setIncidents_keeps (b : Blocks) (i : IncidentTable) (h : i.alarm = b.incidents.alarm) : Keeps b (b.setIncidents i) where
  platform _ := rfl
  vacant _ h := h
  filters := rfl
  delivered := rfl
  present _ := rfl
  absent _ _ := rfl
  bus := .refl _
  peers := rfl
  timetable := rfl
  describer := rfl
  channels := rfl
  lines _ hx := hx.of_lines rfl (BreakersEase.of_eq rfl).lockouts (fun ha => ha.trans h.symm) id

theorem enterRecord_keeps (b : Blocks) (r : Incident) : Keeps b (enterRecord b r) :=
  .trans (setIncidents_keeps b _ (by rfl)) (setStore_announced ..).keeps

theorem makeRoom_keeps {e : Env} {b b' : Blocks} {severity : Nat} {isLocal : Bool} (h : makeRoom e b severity isLocal = some b') :
    Keeps b b' := (makeRoom_sheds e h).keeps

theorem raiseIncident_keeps (e : Env) (b : Blocks) (x : Raise) (lateness : Option Nat) : Keeps b (raiseIncident e b x lateness).1 := by
  unfold raiseIncident
  split
  · dsimp only
    split
    · exact .refl b
    · exact queueReport_keeps ..
  case h_2 b' h =>
    refine .trans (makeRoom_keeps h) ?_
    refine .trans ?_ (tellEntry_keeps ..)
    refine .trans ?_ (reportIncident_keeps ..)
    refine .trans ?_ (queueIncidentFrame_keeps ..)
    refine .trans ?_ (enterRecord_keeps ..)
    exact setIncidents_keeps b' _ rfl

theorem acknowledgeIncident_keeps (e : Env) (b : Blocks) (id : IncidentId) : Keeps b (acknowledgeIncident e b id).1 := by
  unfold acknowledgeIncident
  split
  · exact .refl b
  · split
    · exact .refl b
    · split
      · exact .refl b
      · refine .trans ?_ (reportIncident_keeps ..)
        refine .trans ?_ (queueIncidentFrame_keeps ..)
        exact modifyRecord_keeps ..

theorem changeIncident_keeps (e : Env) (b : Blocks) (id : IncidentId) (severity : Nat) : Keeps b (changeIncident e b id severity).1 := by
  unfold changeIncident
  split
  · exact .refl b
  · split
    · exact .refl b
    · split
      · exact .refl b
      · split
        · exact .refl b
        · refine .trans ?_ (tellChange_keeps ..)
          refine .trans ?_ (reportIncident_keeps ..)
          refine .trans ?_ (queueIncidentFrame_keeps ..)
          exact modifyRecord_keeps ..

theorem escalate_keeps (e : Env) (b : Blocks) (id : IncidentId) : Keeps b (escalate e b id) := by
  unfold escalate
  split
  · refine .ite _ ?_
    split
    · refine .trans ?_ (queueIncidentFrame_keeps ..)
      exact modifyRecord_keeps ..
    · refine .trans ?_ (tellChange_keeps ..)
      refine .trans ?_ (reportIncident_keeps ..)
      refine .trans ?_ (queueIncidentFrame_keeps ..)
      exact modifyRecord_keeps ..
  · exact .refl b

theorem closeIncident_keeps (e : Env) (b : Blocks) (id : IncidentId) : Keeps b (closeIncident e b id).1 := by
  unfold closeIncident
  split
  · exact .refl b
  · split
    · exact .refl b
    · split
      · exact .refl b
      · exact (closeRecord_sheds ..).keeps

theorem storeCopy_keeps (e : Env) (b : Blocks) (c : IncidentContents) : Keeps b (storeCopy e b c) := by
  unfold storeCopy
  split
  · exact .refl b
  · split
    · split
      · exact queueReport_keeps ..
      case h_2 b' h =>
        refine .trans (makeRoom_keeps h) ?_
        refine .trans ?_ (tellEntry_keeps ..)
        exact .trans (enterRecord_keeps ..) (reportIncident_keeps ..)
    · exact .refl b

theorem updateCopy_keeps (e : Env) (b : Blocks) (r : Incident) (p : CopyPart) (c : IncidentContents) :
    Keeps b (updateCopy e b r p c) := by
  unfold updateCopy
  split
  · exact .refl b
  · refine .ite _ ?_
    dsimp only
    refine .trans ?_ (.iteElse _ (reportIncident_keeps ..))
    refine .trans ?_ (.iteElse _ (tellChange_keeps ..))
    exact modifyRecord_keeps ..

theorem meetLocal_keeps (e : Env) (b : Blocks) (r : Incident) (c : IncidentContents) : Keeps b (meetLocal e b r c) := by
  unfold meetLocal
  split
  · split
    · exact (removeCopy_sheds ..).keeps
    · dsimp only
      refine .trans ?_ (reportIncident_keeps ..)
      refine .trans ?_ (.iteElse _ (tellChange_keeps ..))
      exact modifyRecord_keeps ..
  · split
    · exact .refl b
    · exact queueIncidentFrame_keeps ..

theorem takeIncident_keeps (e : Env) (b : Blocks) (c : IncidentContents) : Keeps b (takeIncident e b c) := by
  unfold takeIncident
  split
  · split
    · exact (powerIdLeft_sheds ..).keeps
    · exact storeCopy_keeps ..
  · split
    · exact meetLocal_keeps ..
    · split
      · exact (removeCopy_sheds ..).keeps
      · exact updateCopy_keeps ..

theorem orphanCopies_keeps (e : Env) (b : Blocks) (peer : Nat) : Keeps b (orphanCopies e b peer) := by
  refine Keeps.foldl (fun b id => ?_) _ _
  refine .trans ?_ (reportIncident_keeps ..)
  exact modifyRecord_keeps ..

theorem checkAdoptedLost_keeps (e : Env) (b : Blocks) : Keeps b (checkAdoptedLost e b) := (closeWhere_sheds ..).keeps

theorem toldLiveness_keeps (e : Env) (b : Blocks) (peer : Nat) (after : Liveness) : Keeps b (toldLiveness e b peer after) := by
  refine .trans ?_ (checkAdoptedLost_keeps ..)
  cases after with
  | lost => exact orphanCopies_keeps ..
  | current => exact setRecords_keeps ..
  | stale => exact .refl b
  | unheard => exact .refl b

theorem adoptIncident_keeps (e : Env) (b : Blocks) (id : IncidentId) : Keeps b (adoptIncident e b id).1 := by
  unfold adoptIncident
  split
  · exact .refl b
  · split
    · exact .refl b
    · split
      · exact .refl b
      · refine .trans ?_ (checkAdoptedLost_keeps ..)
        refine .trans ?_ (reportIncident_keeps ..)
        refine .trans ?_ (queueIncidentFrame_keeps ..)
        exact modifyRecord_keeps ..

theorem refreshStep_keeps (e : Env) (b : Blocks) (id : IncidentId) : Keeps b (refreshStep e b id) := by
  unfold refreshStep
  split
  · exact .ite _ (queueIncidentFrame_keeps ..)
  · exact .refl b

theorem localAgeStep_keeps (e : Env) (b : Blocks) (id : IncidentId) : Keeps b (localAgeStep e b id) := by
  unfold localAgeStep
  split
  · exact .ite _ (closeRecord_sheds ..).keeps
  · exact .refl b

theorem copyDropStep_keeps (e : Env) (b : Blocks) (id : IncidentId) : Keeps b (copyDropStep e b id) := by
  unfold copyDropStep
  split
  · exact .ite _ (.trans (removeCopy_sheds ..).keeps (queueReport_keeps ..))
  · exact .refl b

/-! ### Isolations, movements, emergency stop and frames (R120 to R142) -/

theorem queueFrame_keeps (e : Env) (b : Blocks) (f : Frame) (hf : f.cls.removable = false) : Keeps b (queueFrame e b f) :=
  (queueFrame_sheds e e b f hf).keeps

theorem sendIsolate_keeps (e : Env) (b : Blocks) (id : IncidentId) (sec : TractionSection) : Keeps b (sendIsolate e b id sec) :=
  .trans (queueFrame_keeps e b _ rfl) (setItem_keeps ..)

theorem beginIsolation_keeps (e : Env) (b : Blocks) (id : IncidentId) (sec : TractionSection) :
    Keeps b (beginIsolation e b id sec) := by
  unfold beginIsolation
  split
  case h_1 r _ =>
    dsimp only
    refine .trans ?_ (.ite _ (sendIsolate_keeps ..))
    have restarted : Keeps b (if restarts r.items sec then
          queueReport e (b.modifyRecord id fun r => r.setItems (placeItem r.items sec)) (.itemChange id sec .pending)
        else b.modifyRecord id fun r => r.setItems (placeItem r.items sec)) :=
      .trans (modifyRecord_keeps ..) (.ite _ (queueReport_keeps ..))
    split
    · exact restarted.trans (lockoutAdd_keeps ..)
    · exact restarted
  case h_2 => exact .refl b

theorem failItem_keeps (e : Env) (b : Blocks) (id : IncidentId) (sec : TractionSection) : Keeps b (failItem e b id sec) := by
  unfold failItem
  refine .trans ?_ (escalate_keeps ..)
  refine .trans ?_ (queueReport_keeps ..)
  exact setItem_keeps ..

theorem repeatStep_keeps (e : Env) (b : Blocks) (id : IncidentId) (sec : TractionSection) : Keeps b (repeatStep e b id sec) := by
  unfold repeatStep
  split
  · refine .ite _ ?_
    refine .trans (b := setItem b id sec fun i => { i with repeats := 0 }) (setItem_keeps ..) ?_
    dsimp only
    split
    · exact (confirmItem_sheds e ..).keeps
    · split
      · exact sendIsolate_keeps ..
      · exact failItem_keeps ..
  · exact .refl b

theorem protectionTrip_keeps (e : Env) (b : Blocks) (br : Breaker) : Keeps b (protectionTrip e b br) := by
  unfold protectionTrip
  dsimp only
  have tripped := setCondition_keeps e b br .opened (some .trip)
  have raised := raiseIncident_keeps e (setCondition e b br .opened (some .trip)) (sectionRaise .sectionTrip (e.fed br)) none
  split <;> rename_i hx <;> rw [hx] at raised
  · exact (tripped.trans raised).trans (.trans (lockoutAdd_keeps ..) (beginIsolation_keeps ..))
  · exact tripped.trans raised

theorem uncommandedClose_keeps (e : Env) (b : Blocks) (br : Breaker) : Keeps b (uncommandedClose e b br) := by
  unfold uncommandedClose
  refine .trans ?_ (openIfLocked_keeps ..)
  exact .trans (setCondition_keeps ..) (raiseIncident_keeps ..)

theorem breakerChange_keeps (e : Env) (b : Blocks) (br : Breaker) (isClosed : Bool) : Keeps b (breakerChange e b br isClosed) := by
  have changes {x : Blocks} (c : Condition) (cause : Option ChangeCause) : Keeps x (setCondition e x br c cause) :=
    setCondition_keeps ..
  unfold breakerChange
  dsimp only
  refine .trans (b := modifyBreaker b br fun r => { r with inputClosed := some isClosed }) (modifyBreaker_keeps ..) ?_
  split
  · exact .ite _ (changes _ _)
  · split
    · exact changes _ _
    · exact .ite _ (modifyBreaker_keeps _ br _)
  · split
    · exact .refl _
    · exact protectionTrip_keeps ..
  · exact .ite _ (uncommandedClose_keeps ..)
  · exact (followInput_sheds ..).keeps
  · exact .refl _

theorem limitStep_keeps (e : Env) (b : Blocks) (br : Breaker) : Keeps b (limitStep e b br) := by
  unfold limitStep
  split
  · refine .ite _ ?_
    dsimp only
    refine .trans ?_ (endWait_keeps ..)
    refine .trans ?_ (setCondition_keeps ..)
    refine .trans ?_ (modifyBreaker_keeps _ br _)
    exact .trans (modifyBreaker_keeps b br _) (raiseIncident_keeps ..)
  · exact .refl b

theorem emergencyStop_keeps (e : Env) (b : Blocks) (t : Track) : Keeps b (emergencyStop e b t) := by
  unfold emergencyStop
  dsimp only
  refine .trans ?_ (queueReport_keeps ..)
  refine .trans ?_ (queueReport_keeps ..)
  refine .trans ?_ (toldLatch_sheds e ..).keeps
  have raised (l l' : Latch) : Keeps b ((raiseIncident e (b.setLatch t l) (estopRaise e t) none).1.setLatch t l') :=
    .trans (.trans (setLatch_keeps e b t l) (raiseIncident_keeps ..)) (setLatch_keeps e _ t l')
  split
  · refine .trans ?_ (Keeps.foldl (fun _ _ => beginIsolation_keeps ..) _ _)
    exact .trans (raised _ _) (Keeps.foldl (fun _ _ => lockoutAdd_keeps ..) _ _)
  · exact raised _ _

theorem plungerPress_keeps (e : Env) (b : Blocks) (t : Track) : Keeps b (plungerPress e b t) := by
  unfold plungerPress
  dsimp only
  split
  · exact .trans (setLatch_keeps e b t _) (queueReport_keeps ..)
  · exact emergencyStop_keeps ..

theorem plungerRelease_keeps (e : Env) (b : Blocks) (t : Track) : Keeps b (plungerRelease e b t) := queueReport_keeps ..

theorem keyLevel_keeps (e : Env) (b : Blocks) (isSet : Bool) : Keeps b (keyLevel e b isSet) := by
  unfold keyLevel
  split
  · exact .refl b
  · refine .trans ?_ (queueReport_keeps ..)
    exact (setPower_sheds e b { b.power with keyLocal := isSet } rfl).keeps

theorem takeIsolate_keeps (e : Env) (b : Blocks) (sec : TractionSection) (id : IncidentId) : Keeps b (takeIsolate e b sec id) := by
  unfold takeIsolate
  split
  · split
    · exact queuePowerFrame_keeps ..
    · exact .trans (lockoutAdd_keeps ..) (queuePowerFrame_keeps ..)
  · exact .refl b

theorem takeRestore_keeps (e : Env) (b : Blocks) (sec : TractionSection) (requester : Nat) (id : Option IncidentId) :
    Keeps b (takeRestore e b sec requester id) := by
  unfold takeRestore
  refine .ite _ ?_
  split
  · exact meetRestore_keeps ..
  · exact .refl b

theorem takePower_keeps (e : Env) (b : Blocks) (source : Nat) (c : PowerContents) : Keeps b (takePower e b source c) := by
  unfold takePower
  dsimp only
  have failed (l : List (IncidentId × TractionSection)) (p : Prop) [Decidable p] :
      Keeps b (confirmItems e (if p then l.foldl (fun b x => failItem e b x.1 x.2) b else b) fun _ => true) :=
    .trans (.ite _ (Keeps.foldl (fun _ _ => failItem_keeps ..) _ b)) (confirmItems_keeps ..)
  split
  · exact .trans (failed _ _) (.ite _ (endWait_keeps ..))
  · exact failed _ _

theorem isolateRequest_keeps (e : Env) (b : Blocks) (sec : Option TractionSection) (id : IncidentId) :
    Keeps b (isolateRequest e b sec id).1 := by
  unfold isolateRequest
  split
  · exact .refl b
  · split
    · exact .refl b
    · split
      · exact .refl b
      · exact beginIsolation_keeps ..

theorem restoreRequest_keeps (e : Env) (b : Blocks) (sec : Option TractionSection) (id : Option IncidentId) (force : Bool) :
    Keeps b (restoreRequest e b sec id force).1 := by
  unfold restoreRequest
  split
  · exact .refl b
  · split
    · exact .refl b
    · split
      · split
        · exact .refl b
        · exact queueFrame_keeps e b _ rfl
      · split
        · exact .refl b
        · dsimp only
          refine .trans ?_ (queueFrame_keeps e _ _ rfl)
          exact .trans (.ite _ (forceLockout_sheds e ..).keeps) (meetRestore_keeps ..)

end Sys2Proof.Machine

/-! SUPPORT. Every command's effect on the blocks keeps the lines true. -/

namespace Sys2Proof.Machine

theorem LinesKept.ite {b x : Blocks} (p : Prop) [Decidable p] (h : LinesKept b x) : LinesKept b (if p then x else b) := by
  split
  · exact h
  · exact .refl b

theorem queueReport_linesKept (e : Env) (b : Blocks) (r : ReportBody) : LinesKept b (queueReport e b r) :=
  (queueReport_keeps e b r).linesKept

/-! ### Updates of blocks that no line stands in -/

theorem setBus_linesKept (b : Blocks) (l : Linebus) : LinesKept b (b.setBus l) := .of_eq rfl rfl rfl rfl rfl fun _ => rfl

theorem setPeers_linesKept (b : Blocks) (p : PeerView) : LinesKept b (b.setPeers p) := .of_eq rfl rfl rfl rfl rfl fun _ => rfl

theorem setTimetable_linesKept (b : Blocks) (x : Timetable) : LinesKept b (b.setTimetable x) := .of_eq rfl rfl rfl rfl rfl fun _ => rfl

theorem setApproach_linesKept (b : Blocks) (t : Track) (q : List Approach) : LinesKept b (b.setApproach t q) :=
  .of_eq rfl rfl rfl rfl rfl fun _ => rfl

theorem setPort_linesKept (b : Blocks) (p : Port) : LinesKept b (b.setPort p) := (setPort_announced b p).keeps.linesKept

theorem setAnnounce_linesKept (b : Blocks) (a : Announcer) : LinesKept b (b.setAnnounce a) := .of_eq rfl rfl rfl rfl rfl fun _ => rfl

/-- Filters and accepted changes are no lines. -/
theorem setField_linesKept (b : Blocks) (f : Filters) (w : Deliveries) :
    LinesKept b (b.setField { b.field with filters := f, waiting := w }) := .of_eq rfl rfl rfl rfl rfl fun _ => rfl

/-- A platform's record written with the standing it has. -/
theorem setPlatform_linesKept (b : Blocks) (t : Track) (p : Platform) (h : p.standing = (b.platforms.get t).standing) :
    LinesKept b (b.setPlatform t p) := by
  refine .of_eq rfl rfl rfl rfl rfl fun u => ?_
  by_cases hu : u = t
  · subst hu; simpa using h
  · simp [hu]

/-! ### The Peer View (chapter 4) -/

theorem modifyPeer_linesKept (b : Blocks) (n : Nat) (f : PeerEntry → PeerEntry) : LinesKept b (modifyPeer b n f) :=
  setPeers_linesKept ..

theorem toldStarts_linesKept (e : Env) (b : Blocks) : LinesKept b (toldStarts e b) := ((toldStarts_told e b).sheds e).keeps.linesKept

theorem offerStart_linesKept (e : Env) (b : Blocks) (sec : TractionSection) (d : Nat) : LinesKept b (offerStart e b sec d) := by
  unfold offerStart
  dsimp only
  split
  · exact .refl b
  · exact .trans (setPeers_linesKept ..) (toldStarts_linesKept ..)

theorem lapseStep_linesKept (e : Env) (b : Blocks) (node : Nat) : LinesKept b (lapseStep e b node) := by
  unfold lapseStep
  split
  · refine .ite _ (.trans ?_ (toldStarts_linesKept ..))
    exact setPeers_linesKept ..
  · exact .refl b

theorem emptyStarts_linesKept (e : Env) (b : Blocks) : LinesKept b (emptyStarts e b) := by
  refine .trans ?_ (toldStarts_linesKept ..)
  exact setPeers_linesKept ..

theorem raiseLost_linesKept (e : Env) (b : Blocks) (peer : Nat) : LinesKept b (raiseLost e b peer) :=
  .ite _ (.trans (raiseIncident_keeps ..).linesKept (setPeers_linesKept ..))

theorem closeLost_linesKept (e : Env) (b : Blocks) (peer : Nat) : LinesKept b (closeLost e b peer) := by
  refine .ite _ (.trans ?_ (setPeers_linesKept ..))
  split
  · exact .ite _ (closeRecord_sheds ..).keeps.linesKept
  · exact .refl b

theorem tellLiveness_linesKept (e : Env) (b : Blocks) (peer : Nat) (before after : Liveness) :
    LinesKept b (tellLiveness e b peer before after) := by
  unfold tellLiveness
  dsimp only
  refine .trans ?_ (.ite _ (toldLost_keeps ..).linesKept)
  exact .trans (queueReport_linesKept ..) (toldLiveness_keeps ..).linesKept

theorem hear_linesKept (e : Env) (b : Blocks) (source : Nat) : LinesKept b (hear e b source) := by
  unfold hear
  dsimp only
  refine .trans (b := modifyPeer b source fun p => { p with liveness := .current, silence := 0, lastHeard := some e.now })
    (modifyPeer_linesKept ..) ?_
  split
  · exact .refl _
  · exact .trans (tellLiveness_linesKept ..) (.ite _ (closeLost_linesKept ..))

theorem withFarEnds_linesKept (e : Env) (b : Blocks) (f : Blocks → Blocks) (h : LinesKept b (f b)) : LinesKept b (withFarEnds e b f) :=
  .trans h (LinesKept.foldl (fun _ _ => (toldFarEnd_keeps ..).linesKept) _ _)

theorem staleStep_linesKept (e : Env) (b : Blocks) (node : Nat) : LinesKept b (staleStep e b node) := by
  refine .ite _ (.trans ?_ (tellLiveness_linesKept ..))
  exact modifyPeer_linesKept ..

theorem lostStep_linesKept (e : Env) (b : Blocks) (node : Nat) : LinesKept b (lostStep e b node) := by
  refine .ite _ (withFarEnds_linesKept e b _ ?_)
  refine .trans ?_ (raiseLost_linesKept ..)
  refine .trans ?_ (tellLiveness_linesKept ..)
  exact modifyPeer_linesKept ..

theorem hearFrom_linesKept (e : Env) (b : Blocks) (source : Nat) : LinesKept b (hearFrom e b source) :=
  .trans (.trans (staleStep_linesKept ..) (lostStep_linesKept ..)) (hear_linesKept ..)

theorem statusStart_linesKept (e : Env) (source : Nat) (c : StatusContents) (b : Blocks) (t : Track) :
    LinesKept b (statusStart e source c b t) := by
  unfold statusStart
  split
  · exact offerStart_linesKept ..
  · exact .refl b

theorem peerStatus_linesKept (e : Env) (b : Blocks) (source : Nat) (c : StatusContents) : LinesKept b (peerStatus e b source c) := by
  refine withFarEnds_linesKept e b _ ?_
  refine .trans ?_ (LinesKept.foldl (fun _ _ => statusStart_linesKept ..) _ _)
  exact modifyPeer_linesKept ..

theorem peerPower_linesKept (e : Env) (b : Blocks) (source : Nat) (c : PowerContents) : LinesKept b (peerPower e b source c) :=
  withFarEnds_linesKept e b _ (modifyPeer_linesKept ..)

theorem peerDepart_linesKept (e : Env) (b : Blocks) (c : DepartContents) : LinesKept b (peerDepart e b c) := by
  unfold peerDepart
  split
  · exact offerStart_linesKept ..
  · exact .refl b

theorem trimPeers_linesKept (b : Blocks) (n : Nat) : LinesKept b (trimPeers b n) := setPeers_linesKept ..

theorem raiseStandingLost_linesKept (e : Env) (b : Blocks) : LinesKept b (raiseStandingLost e b) :=
  LinesKept.foldl (fun _ _ => .ite _ (raiseLost_linesKept ..)) _ _

/-! ### The timetable and the approaching queues (chapter 5) -/

theorem emptyTimetable_linesKept (b : Blocks) (load : LoadState) : LinesKept b (emptyTimetable b load) := setTimetable_linesKept ..

theorem storePart_linesKept (b : Blocks) (start : PerTrack (List Entry)) (p : PartRequest) : LinesKept b (storePart b start p).1 := by
  unfold storePart
  split
  · exact setTimetable_linesKept ..
  · exact emptyTimetable_linesKept ..

theorem takePart_linesKept (b : Blocks) (p : PartRequest) : LinesKept b (takePart b p).1 := by
  unfold takePart
  split
  · exact emptyTimetable_linesKept ..
  · split
    · exact storePart_linesKept ..
    · split
      · split
        · exact storePart_linesKept ..
        · exact emptyTimetable_linesKept ..
      all_goals exact emptyTimetable_linesKept ..

theorem holdAmendment_linesKept (b : Blocks) (t : Track) (a : Amendment) : LinesKept b (holdAmendment b t a) :=
  setPlatform_linesKept b t _ rfl

theorem setSequence_linesKept (b : Blocks) (t : Track) (l : List Entry) : LinesKept b (b.setSequence t l) := setTimetable_linesKept ..

theorem amendChange_linesKept (b : Blocks) (platform trip departure : Nat) : LinesKept b (amendChange b platform trip departure).1 := by
  unfold amendChange
  split
  · exact .refl b
  · dsimp only
    split
    · exact .refl b
    · split
      · split
        · exact .refl b
        · exact setSequence_linesKept ..
      · split
        · exact .refl b
        · exact holdAmendment_linesKept ..
      all_goals exact .refl b

theorem amendCancel_linesKept (b : Blocks) (platform trip : Nat) : LinesKept b (amendCancel b platform trip).1 := by
  unfold amendCancel
  split
  · exact .refl b
  · dsimp only
    split
    · exact .refl b
    · split
      · exact setSequence_linesKept ..
      · exact holdAmendment_linesKept ..
      all_goals exact .refl b

theorem amendInsert_linesKept (b : Blocks) (x : EntryRequest) : LinesKept b (amendInsert b x).1 := by
  unfold amendInsert
  split
  · exact .refl b
  · split
    · exact .refl b
    · dsimp only
      split
      · exact .refl b
      · split
        · exact .refl b
        · split
          · exact .refl b
          · exact setSequence_linesKept ..

theorem finishEntry_linesKept (e : Env) (b : Blocks) (t : Track) (trip : Nat) : LinesKept b (finishEntry e b t trip) := by
  unfold finishEntry
  dsimp only
  refine .trans (b := b.setPlatform t { b.platforms.get t with amendment := none }) (setPlatform_linesKept b t _ rfl) ?_
  split
  · exact .refl _
  · split
    · exact setSequence_linesKept ..
    · exact setSequence_linesKept ..
    · split
      · exact setSequence_linesKept ..
      · refine .trans ?_ (queueReport_linesKept ..)
        exact setSequence_linesKept ..

theorem stallCheck_linesKept (e : Env) (b : Blocks) (t : Track) : LinesKept b (stallCheck e b t) := by
  unfold stallCheck
  split
  · exact .ite _ (.trans (raiseIncident_keeps ..).linesKept (setApproach_linesKept ..))
  · exact .refl b

theorem toldAddition_told (e : Env) (b : Blocks) (t : Track) (wasEmpty : Bool) : Told b (toldAddition e b t wasEmpty) := by
  unfold toldAddition
  split
  case h_1 d h =>
    refine .ite _ ?_
    dsimp only
    have written (d' : Dwell) (r : ReportBody) : Told b (queueReport e (writeDwell b t .dwell d') r) :=
      .trans (writeDwell_told d' h) ((queueReport_announced ..).told (writeDwell_occupied _ _ _ _))
    split
    · refine .trans ?_ (releaseCheck_told e _ ?_)
      · exact written _ _
      · simp
    · exact written _ _
  case h_2 => exact .refl b

theorem addApproach_linesKept (e : Env) (b : Blocks) (t : Track) (trip upstream : Nat) (source : ApproachSource) :
    LinesKept b (addApproach e b t trip upstream source) := by
  unfold addApproach
  dsimp only
  refine .trans ?_ (.ite _ (stallCheck_linesKept ..))
  refine .trans ?_ (.ite _ (offerApproach_announced ..).keeps.linesKept)
  refine .trans ?_ ((toldAddition_told ..).sheds e).keeps.linesKept
  exact .trans (setApproach_linesKept ..) (queueReport_linesKept ..)

theorem describeError_linesKept (e : Env) (b : Blocks) (t : Track) (trip : Nat) : LinesKept b (describeError e b t trip) := by
  unfold describeError
  split
  · exact .refl b
  · exact (raiseIncident_keeps ..).linesKept

theorem takeDepart_linesKept (e : Env) (b : Blocks) (source : Nat) (c : DepartContents) : LinesKept b (takeDepart e b source c) := by
  refine .ite _ ?_
  dsimp only
  split
  · exact .trans (describeError_linesKept ..) (queueReport_linesKept ..)
  · exact addApproach_linesKept ..

theorem injectTrain_linesKept (e : Env) (b : Blocks) (platform trip : Nat) (upstream : Option Nat) :
    LinesKept b (injectTrain e b platform trip upstream).1 := by
  unfold injectTrain
  split
  · exact .refl b
  · dsimp only
    split
    · exact .refl b
    · split
      · exact .refl b
      · split
        · exact .refl b
        · exact addApproach_linesKept ..

theorem closeOwned_linesKept (e : Env) (b : Blocks) (id : Option IncidentId) (kind : IncidentKind) :
    LinesKept b (closeOwned e b id kind) := (closeOwned_sheds ..).keeps.linesKept

theorem flushTrain_linesKept (e : Env) (b : Blocks) (platform trip : Nat) : LinesKept b (flushTrain e b platform trip).1 := by
  unfold flushTrain
  split
  · exact .refl b
  · split
    · exact .refl b
    · dsimp only
      split
      · exact .refl b
      · dsimp only
        refine .trans ?_ (.ite _ (stallCheck_linesKept ..))
        refine .trans ?_ (queueReport_linesKept ..)
        exact .trans (setApproach_linesKept ..) (closeOwned_linesKept ..)

theorem takeHead_linesKept (e : Env) (b : Blocks) (t : Track) (a : Approach) (rest : List Approach) :
    LinesKept b (takeHead e b t a rest) :=
  .trans (.trans (setApproach_linesKept ..) (closeOwned_linesKept ..)) (stallCheck_linesKept ..)

/-! ### Arrival and departure (R90, R91, R107, R108) -/

theorem matchArrival_linesKept (e : Env) (b : Blocks) (t : Track) : LinesKept b (matchArrival e b t).1 := by
  unfold matchArrival
  split
  · dsimp only
    split
    · exact .trans (takeHead_linesKept ..) (setSequence_linesKept ..)
    · exact takeHead_linesKept ..
  · dsimp only
    have used : LinesKept b (match cursor (b.timetable.sequences.get t) with
        | some x => b.setSequence t (useTrip (b.timetable.sequences.get t) x.trip).1
        | none => b) := by
      split
      · exact setSequence_linesKept ..
      · exact .refl b
    split
    · exact used
    · exact used.trans (describeError_linesKept ..)

/-- A train comes to a vacant platform: its starter stays INACTIVE (R89). -/
theorem writeDwell_arrival {x : Breaker → Prop} {b : Blocks} {t : Track} (d : Dwell) (h : b.LinesOk x)
    (ht : (b.platforms.get t).standing = .vacant) : (writeDwell b t .dwell d).LinesOk x where
  coils := h.coils
  locked := h.locked
  alarm := h.alarm
  starters u := by
    by_cases hu : u = t
    · subst hu; simpa [writeDwell, ht, Standing.state, Phase.state] using h.starters u
    · simpa [writeDwell, hu] using h.starters u

theorem manualArrival_linesOk (e : Env) {x : Breaker → Prop} {b : Blocks} {t : Track} (stamp : Nat) (h : b.LinesOk x)
    (ht : (b.platforms.get t).standing = .vacant) : (manualArrival e b t stamp).LinesOk x := by
  unfold manualArrival
  dsimp only
  refine (queueReport_linesKept ..).lines x ?_
  split
  · exact writeDwell_arrival _ ((takeHead_linesKept ..).lines x h) ((takeHead_linesKept ..).vacant t ht)
  · exact writeDwell_arrival _ h ht

theorem regulatedArrival_linesOk (e : Env) {x : Breaker → Prop} {b : Blocks} {t : Track} (stamp : Nat) (h : b.LinesOk x)
    (ht : (b.platforms.get t).standing = .vacant) : (regulatedArrival e b t stamp).LinesOk x := by
  have matched := matchArrival_linesKept e b t
  have written (d : Dwell) (r : ReportBody) : (queueReport e (writeDwell (matchArrival e b t).1 t .dwell d) r).LinesOk x :=
    (queueReport_linesKept ..).lines x (writeDwell_arrival d (matched.lines x h) (matched.vacant t ht))
  unfold regulatedArrival
  dsimp only
  split
  · refine (((releaseCheck_told e _ ?_).sheds e).lines x ?_)
    · simp
    · exact written _ _
  · exact written _ _

theorem arrive_linesOk (e : Env) {x : Breaker → Prop} {b : Blocks} (t : Track) (stamp : Nat) (h : b.LinesOk x) :
    (arrive e b t stamp).LinesOk x := by
  unfold arrive
  split
  · exact (queueReport_linesKept ..).lines x h
  case h_2 ht =>
    split
    · exact h
    · exact manualArrival_linesOk e stamp h ht
    · exact regulatedArrival_linesOk e stamp h ht

theorem judgeLateness_linesKept (e : Env) (b : Blocks) (t : Track) (trip : Nat) (lateness : Int) :
    LinesKept b (judgeLateness e b t trip lateness) := by
  unfold judgeLateness
  dsimp only
  refine .trans (b := b.setPlatform t { b.platforms.get t with
    delayId := ((b.platforms.get t).delayId).filter fun i => (b.incidents.findOwned i .delay).isSome })
    (setPlatform_linesKept b t _ rfl) ?_
  split
  · split
    · exact .refl _
    · exact .trans (raiseIncident_keeps ..).linesKept (setPlatform_linesKept _ t _ rfl)
  · split
    · split
      · exact .trans (closeOwned_linesKept ..) (setPlatform_linesKept _ t _ rfl)
      · exact .refl _
    · exact .refl _

/-- A platform becomes vacant with its starter INACTIVE (R89). -/
theorem leave_linesOk {x : Breaker → Prop} {b : Blocks} (t : Track) (p : Platform) (hp : p.standing = .vacant) (h : b.LinesOk x) :
    ((b.setPlatform t p).setStarter t false).LinesOk x where
  coils := h.coils
  locked := h.locked
  alarm := h.alarm
  starters u := by
    by_cases hu : u = t
    · subst hu; simp [hp, Standing.state]
    · simpa [hu] using h.starters u

theorem queueFrame_linesKept (e : Env) (b : Blocks) (f : Frame) : LinesKept b (queueFrame e b f) := by
  have dropped (b : Blocks) (cause : TxDropCause) (g : Frame) : LinesKept b (dropFrame e b cause g) :=
    (dropFrame_sheds e e b cause g).keeps.linesKept
  have admitted : LinesKept b (admitFrame e b f) := by
    unfold admitFrame
    split
    · exact setBus_linesKept ..
    · split
      · split
        · dsimp only
          exact .trans (.trans (setBus_linesKept ..) (dropped ..)) (setBus_linesKept ..)
        · exact dropped ..
      · exact dropped ..
  unfold queueFrame
  split
  · exact .refl b
  · exact .trans admitted (.ite _ (setBus_linesKept ..))

theorem departTrain_linesOk (e : Env) {x : Breaker → Prop} {b : Blocks} (t : Track) (phase : Phase) (d : Dwell) (dact : Nat)
    (h : b.LinesOk x) : (departTrain e b t phase d dact).LinesOk x := by
  have finished {b : Blocks} (o : Option Nat) :
      LinesKept b (match o with | some trip => finishEntry e b t trip | none => b) := by
    cases o with
    | some trip => exact finishEntry_linesKept ..
    | none => exact .refl b
  have started {b : Blocks} (o : Option TractionSection) :
      LinesKept b (match o with | some sec => offerStart e b sec dact | none => b) := by
    cases o with
    | some sec => exact offerStart_linesKept ..
    | none => exact .refl b
  have judged {b : Blocks} (o : Option Int) :
      LinesKept b (match o with | some l => judgeLateness e b t d.trip l | none => b) := by
    cases o with
    | some l => exact judgeLateness_linesKept ..
    | none => exact .refl b
  unfold departTrain
  dsimp only
  refine (LinesKept.ite _ (queueReport_linesKept ..)).lines x ?_
  refine (queueReport_linesKept ..).lines x ?_
  refine (LinesKept.ite _ (raiseIncident_keeps ..).linesKept).lines x ?_
  refine (judged _).lines x ?_
  refine (queueFrame_linesKept ..).lines x ?_
  refine (started _).lines x ?_
  refine (finished _).lines x ?_
  exact leave_linesOk t _ rfl h

theorem depart_linesOk (e : Env) {x : Breaker → Prop} {b : Blocks} (t : Track) (stamp : Nat) (h : b.LinesOk x) :
    (depart e b t stamp).LinesOk x := by
  unfold depart
  split
  · exact (queueReport_linesKept ..).lines x h
  · exact departTrain_linesOk e t _ _ stamp h

/-! ### The linebus (chapter 3) -/

theorem noteError_linesKept (e : Env) (b : Blocks) : LinesKept b (noteError e b) := by
  unfold noteError
  split
  · exact .trans (setBus_linesKept ..) (queueReport_linesKept ..)
  · exact setBus_linesKept ..

theorem countCheckError_linesKept (e : Env) (b : Blocks) : LinesKept b (countCheckError e b) :=
  .trans (setBus_linesKept ..) (noteError_linesKept ..)
theorem countClassError_linesKept (e : Env) (b : Blocks) : LinesKept b (countClassError e b) :=
  .trans (setBus_linesKept ..) (noteError_linesKept ..)
theorem countContentError_linesKept (e : Env) (b : Blocks) : LinesKept b (countContentError e b) :=
  .trans (setBus_linesKept ..) (noteError_linesKept ..)
theorem countTruncated_linesKept (e : Env) (b : Blocks) : LinesKept b (countTruncated e b) :=
  .trans (setBus_linesKept ..) (noteError_linesKept ..)
theorem countLengthError_linesKept (e : Env) (b : Blocks) : LinesKept b (countLengthError e b) :=
  .trans (setBus_linesKept ..) (noteError_linesKept ..)

theorem errorReportStep_linesKept (e : Env) (b : Blocks) : LinesKept b (errorReportStep e b) :=
  .ite _ (.trans (setBus_linesKept ..) (queueReport_linesKept ..))

theorem setRx_linesKept (b : Blocks) (a : Assembly) : LinesKept b (setRx b a) := setBus_linesKept ..
theorem setIdle_linesKept (b : Blocks) (n : Nat) : LinesKept b (setIdle b n) := setBus_linesKept ..

theorem noteIdle_linesKept (e : Env) (b : Blocks) : LinesKept b (noteIdle e b) := by
  unfold noteIdle
  split
  · exact setRx_linesKept ..
  · exact .refl b
  · exact .trans (setRx_linesKept ..) (countTruncated_linesKept ..)

theorem rxError_linesKept (e : Env) (b : Blocks) : LinesKept b (rxError e b) := by
  unfold rxError
  split
  · exact .refl b
  · exact setRx_linesKept ..
  · exact .trans (setRx_linesKept ..) (countTruncated_linesKept ..)

theorem enterSilent_linesKept (e : Env) (b : Blocks) : LinesKept b (enterSilent e b) := by
  unfold enterSilent
  split
  · exact .refl b
  · exact .trans (setBus_linesKept ..) (queueReport_linesKept ..)

theorem deliver_linesKept (e : Env) (b : Blocks) (source : Nat) (f : Frame) : LinesKept b (deliver e b source f) := by
  unfold deliver
  dsimp only
  refine .trans (hearFrom_linesKept e b source) ?_
  cases f with
  | status c => exact peerStatus_linesKept ..
  | power c => exact .trans (peerPower_linesKept ..) (takePower_keeps ..).linesKept
  | depart c => exact .trans (peerDepart_linesKept ..) (takeDepart_linesKept ..)
  | isolate sec id => exact (takeIsolate_keeps ..).linesKept
  | restore sec requester id => exact (takeRestore_keeps ..).linesKept
  | incident c => exact (takeIncident_keeps ..).linesKept
  | announce c => exact (takeAnnounce_announced ..).keeps.linesKept

theorem judgeContent_linesKept (e : Env) (b : Blocks) (source : Byte) (cls : FrameClass) (payload : List Byte) :
    LinesKept b (judgeContent e b source cls payload) := by
  unfold judgeContent
  split
  · exact countContentError_linesKept ..
  · dsimp only
    split
    · exact .trans (setBus_linesKept ..) (enterSilent_linesKept ..)
    · exact .trans (setBus_linesKept ..) (deliver_linesKept ..)

theorem judgeFrame_linesKept (e : Env) (b : Blocks) (source cls : Byte) (payload : List Byte) (check : Check) :
    LinesKept b (judgeFrame e b source cls payload check) := by
  unfold judgeFrame
  split
  · exact countCheckError_linesKept ..
  · split
    · exact countClassError_linesKept ..
    · exact judgeContent_linesKept ..

/-- The assembly when a frame has been taken from it. -/
theorem clearAssembly_linesKept (b : Blocks) : LinesKept b (setIdle (setRx b .skip) 0) :=
  .trans (setRx_linesKept ..) (setIdle_linesKept ..)

theorem receiveFrame_linesKept (e : Env) (b : Blocks) (source : Byte) (cls : FrameClass) (payload : List Byte) :
    LinesKept b (receiveFrame e b source cls payload) := by
  refine .ite _ (.trans (clearAssembly_linesKept b) ?_)
  split
  · exact countLengthError_linesKept ..
  · exact judgeContent_linesKept ..

theorem discardFrame_linesKept (e : Env) (b : Blocks) (source cls : Byte) (payload : List Byte) (check : Check) :
    LinesKept b (discardFrame e b source cls payload check) :=
  .ite _ (.trans (clearAssembly_linesKept b) (judgeFrame_linesKept ..))

theorem lengthError_linesKept (e : Env) (b : Blocks) (source cls len : Byte) : LinesKept b (lengthError e b source cls len) :=
  .ite _ (.trans (clearAssembly_linesKept b) (countLengthError_linesKept ..))

theorem takeInFrame_linesKept (e : Env) (b : Blocks) (taken : List Byte) : LinesKept b (takeInFrame e b taken) := by
  unfold takeInFrame
  split
  · split
    · exact .trans (setRx_linesKept ..) (countLengthError_linesKept ..)
    · split
      · exact .trans (setRx_linesKept ..) (judgeFrame_linesKept ..)
      · exact setRx_linesKept ..
  · exact setRx_linesKept ..

theorem takeChar_linesKept (e : Env) (b : Blocks) (c : Byte) : LinesKept b (takeChar e b c) := by
  unfold takeChar
  dsimp only
  refine .trans (setIdle_linesKept b 0) ?_
  split
  · exact .refl _
  · split
    · exact setRx_linesKept ..
    · exact setRx_linesKept ..
  · exact takeInFrame_linesKept ..

theorem takeChars_linesKept (e : Env) (b : Blocks) (heard : List Byte) : LinesKept b (takeChars e b heard) :=
  LinesKept.foldl (fun _ _ => takeChar_linesKept ..) _ _

theorem characterError_linesKept (e : Env) (b : Blocks) (heard : List Byte) : LinesKept b (characterError e b heard) :=
  .trans (.trans (takeChars_linesKept ..) (setIdle_linesKept ..)) (rxError_linesKept ..)

theorem lineIdle_linesKept (e : Env) (b : Blocks) (heard : List Byte) (idle : Nat) : LinesKept b (lineIdle e b heard idle) := by
  unfold lineIdle
  dsimp only
  refine .trans ?_ (.ite _ (noteIdle_linesKept ..))
  exact .trans (takeChars_linesKept ..) (setIdle_linesKept ..)

theorem otherCharacter_linesKept (b : Blocks) (c : Option Byte) : LinesKept b (otherCharacter b c) := by
  unfold otherCharacter
  split
  · split
    · exact .refl b
    · exact clearAssembly_linesKept b
  all_goals exact .refl b

theorem stayIdle_linesKept (e : Env) (b : Blocks) (more : Nat) : LinesKept b (stayIdle e b more) := by
  unfold stayIdle
  dsimp only
  exact .trans (setIdle_linesKept ..) (.ite _ (noteIdle_linesKept ..))

theorem attemptBegin_linesKept (e : Env) (b : Blocks) (idle : Nat) : LinesKept b (attemptBegin e b idle) := by
  unfold attemptBegin
  split
  · dsimp only
    exact .trans (stayIdle_linesKept e b idle) (.ite _ (setBus_linesKept ..))
  · exact .refl b

theorem backoffRetry_linesKept (e : Env) (b : Blocks) (idle : Nat) : LinesKept b (backoffRetry e b idle) := by
  unfold backoffRetry
  split
  · dsimp only
    exact .trans (stayIdle_linesKept e b idle) (.ite _ (setBus_linesKept ..))
  · exact .refl b

theorem dropFrame_linesKept (e : Env) (b : Blocks) (cause : TxDropCause) (f : Frame) : LinesKept b (dropFrame e b cause f) :=
  (dropFrame_sheds e e b cause f).keeps.linesKept

theorem collideHand_linesKept (e : Env) (b : Blocks) (h : Hand) : LinesKept b (collideHand e b h) := by
  unfold collideHand
  split
  · exact setBus_linesKept ..
  · split
    · exact .trans (setBus_linesKept ..) (dropFrame_linesKept ..)
    · exact setBus_linesKept ..

theorem collide_linesKept (e : Env) (b : Blocks) (cause : CollisionCause) (heard : List Byte) :
    LinesKept b (collide e b cause heard) := by
  unfold collide
  split
  · dsimp only
    refine .trans ?_ (.ite _ (rxError_linesKept ..))
    refine .trans ?_ (takeChars_linesKept ..)
    exact .trans (setBus_linesKept ..) (collideHand_linesKept ..)
  · exact .refl b

theorem judgeOwn_linesKept (e : Env) (b : Blocks) (f : Frame) : LinesKept b (judgeOwn e b f) := by
  unfold judgeOwn
  split
  · exact .refl b
  · split
    · exact setBus_linesKept ..
    · exact .trans (setRx_linesKept ..) (countContentError_linesKept ..)

theorem frameSent_linesKept (e : Env) (b : Blocks) : LinesKept b (frameSent e b) := by
  unfold frameSent
  split
  · exact .trans (.trans (setBus_linesKept ..) (setBus_linesKept ..)) (judgeOwn_linesKept ..)
  · exact .refl b

theorem statusStep_linesKept (e : Env) (b : Blocks) : LinesKept b (statusStep e b) := by
  refine .ite _ (.trans ?_ (queueStatus_sheds e e _).keeps.linesKept)
  exact setBus_linesKept ..

/-! ### The field lines (chapter 2) -/

theorem setWaiting_linesKept (b : Blocks) (w : Deliveries) : LinesKept b (setWaiting b w) := setField_linesKept b b.field.filters w

theorem occupancyRise_linesOk (e : Env) {x : Breaker → Prop} {b : Blocks} (t : Track) (h : b.LinesOk x) :
    (occupancyRise e b t).LinesOk x := by
  unfold occupancyRise
  split
  · split
    · exact arrive_linesOk e t _ ((setWaiting_linesKept ..).lines x h)
    · exact h
  · exact h

theorem occupancyFall_linesOk (e : Env) {x : Breaker → Prop} {b : Blocks} (t : Track) (h : b.LinesOk x) :
    (occupancyFall e b t).LinesOk x := by
  unfold occupancyFall
  split
  · split
    · exact depart_linesOk e t _ ((setWaiting_linesKept ..).lines x h)
    · exact h
  · exact h

theorem plungerRise_linesKept (e : Env) (b : Blocks) (t : Track) : LinesKept b (plungerRise e b t) := by
  unfold plungerRise
  split
  · exact .ite _ (.trans (setWaiting_linesKept ..) (plungerPress_keeps ..).linesKept)
  · exact .refl b

theorem plungerFall_linesKept (e : Env) (b : Blocks) (t : Track) : LinesKept b (plungerFall e b t) := by
  unfold plungerFall
  split
  · exact .ite _ (.trans (setWaiting_linesKept ..) (plungerRelease_keeps ..).linesKept)
  · exact .refl b

theorem breakerSettles_linesKept (e : Env) (b : Blocks) (br : Breaker) (isClosed : Bool) :
    LinesKept b (breakerSettles e b br isClosed) := by
  unfold breakerSettles
  split
  · exact .ite _ (.trans (setWaiting_linesKept ..) (settleBreaker_keeps ..).linesKept)
  · exact .refl b

theorem breakerMoves_linesKept (e : Env) (b : Blocks) (br : Breaker) (isClosed : Bool) :
    LinesKept b (breakerMoves e b br isClosed) := by
  unfold breakerMoves
  split
  · exact .ite _ (.trans (setWaiting_linesKept ..) (breakerChange_keeps ..).linesKept)
  · exact .refl b

theorem keyMoves_linesKept (e : Env) (b : Blocks) (isSet : Bool) : LinesKept b (keyMoves e b isSet) :=
  .ite _ (.trans (setWaiting_linesKept ..) (keyLevel_keeps ..).linesKept)

theorem deliverStatus_linesKept (e : Env) (b : Blocks) (br : Breaker) : LinesKept b (deliverStatus e b br) := by
  unfold deliverStatus
  split
  · split
    · exact breakerSettles_linesKept ..
    · exact breakerMoves_linesKept ..
  · exact .refl b

theorem deliverKey_linesKept (e : Env) (b : Blocks) : LinesKept b (deliverKey e b) := by
  unfold deliverKey
  split
  · exact keyMoves_linesKept ..
  · exact .refl b

theorem deliverPlunger_linesKept (e : Env) (b : Blocks) (t : Track) : LinesKept b (deliverPlunger e b t) :=
  .trans (plungerRise_linesKept ..) (plungerFall_linesKept ..)

theorem deliverAll_linesOk (e : Env) {x : Breaker → Prop} {b : Blocks} (h : b.LinesOk x) : (deliverAll e b).LinesOk x := by
  unfold deliverAll
  dsimp only
  refine (deliverKey_linesKept ..).lines x ?_
  refine (LinesKept.foldl (fun _ _ => deliverStatus_linesKept ..) _ _).lines x ?_
  refine (LinesKept.foldl (fun _ _ => deliverPlunger_linesKept ..) _ _).lines x ?_
  exact foldl_keeps (P := fun b => b.LinesOk x) (fun b t hb => occupancyFall_linesOk e t (occupancyRise_linesOk e t hb)) _ b h

theorem sampleOccupancy_linesKept (e : Env) (l : InputLevels) (b : Blocks) (t : Track) : LinesKept b (sampleOccupancy e l b t) :=
  .ite _ (setField_linesKept ..)

theorem samplePlunger_linesKept (e : Env) (l : InputLevels) (b : Blocks) (t : Track) : LinesKept b (samplePlunger e l b t) :=
  setField_linesKept ..

theorem sampleStatus_linesKept (e : Env) (l : InputLevels) (b : Blocks) (br : Breaker) : LinesKept b (sampleStatus e l b br) := by
  unfold sampleStatus
  split
  · exact setField_linesKept ..
  · exact .refl b

theorem sampleKey_linesKept (l : InputLevels) (b : Blocks) : LinesKept b (sampleKey l b) := setField_linesKept ..

theorem samplingPoint_linesOk (e : Env) {x : Breaker → Prop} {b : Blocks} (l : InputLevels) (h : b.LinesOk x) :
    (samplingPoint e b l).LinesOk x := by
  unfold samplingPoint
  dsimp only
  refine (sampleKey_linesKept ..).lines x ?_
  refine (LinesKept.foldl (fun _ _ => sampleStatus_linesKept ..) _ _).lines x ?_
  refine (LinesKept.foldl (fun _ _ => samplePlunger_linesKept ..) _ _).lines x ?_
  refine (LinesKept.foldl (fun _ _ => sampleOccupancy_linesKept ..) _ _).lines x ?_
  exact deliverAll_linesOk e h

end Sys2Proof.Machine

/-! SUPPORT. Service time, the node-state requests and the station port keep the lines true, and so does every step. -/

namespace Sys2Proof.Machine

/-! ### An advance (R5, R8) -/

theorem settle_linesOk (e : Env) {x : Breaker → Prop} {b : Blocks} (h : b.LinesOk x) : (settle e b).LinesOk x := by
  have kept {α : Type} {f : Blocks → α → Blocks} (hf : ∀ b a, LinesKept b (f b a)) {l : List α} {b : Blocks} (hb : b.LinesOk x) :
      (l.foldl f b).LinesOk x := (LinesKept.foldl hf l b).lines x hb
  unfold settle
  dsimp only
  refine kept (fun _ _ => (stopStep_announced ..).keeps.linesKept) ?_
  refine kept (fun _ _ => (deadlineStep_announced ..).keeps.linesKept) ?_
  refine kept (fun _ _ => (expiryStep_announced ..).keeps.linesKept) ?_
  refine kept (fun _ _ => (notBeforeStep_announced ..).keeps.linesKept) ?_
  refine kept (fun _ _ => (copyDropStep_keeps ..).linesKept) ?_
  refine kept (fun _ _ => (localAgeStep_keeps ..).linesKept) ?_
  refine kept (fun _ _ => (refreshStep_keeps ..).linesKept) ?_
  refine kept (fun _ _ => ((watchHeld_told ..).sheds e).keeps.linesKept) ?_
  refine kept (fun _ _ => ((graceStep_told ..).sheds e).keeps.linesKept) ?_
  refine kept (fun _ _ => ((staggerStep_told ..).sheds e).keeps.linesKept) ?_
  refine kept (fun _ _ => ((targetStep_told ..).sheds e).keeps.linesKept) ?_
  refine kept (fun _ _ => stallCheck_linesKept ..) ?_
  refine kept (fun _ _ => lapseStep_linesKept ..) ?_
  refine kept (fun _ _ => lostStep_linesKept ..) ?_
  refine kept (fun _ _ => staleStep_linesKept ..) ?_
  refine (errorReportStep_linesKept ..).lines x ?_
  refine (statusStep_linesKept ..).lines x ?_
  refine kept (fun _ _ => (waitStep_keeps ..).linesKept) ?_
  refine kept (fun _ _ => (repeatStep_keeps ..).linesKept) ?_
  refine kept (fun _ _ => (limitStep_keeps ..).linesKept) ?_
  refine kept (fun _ _ => (thirdStep_keeps ..).linesKept) ?_
  exact deliverAll_linesOk e h

@[simp] theorem Power.tick_get (p : Power) (br : Breaker) : p.tick.breakers.get br = (p.breakers.get br).map BreakerRecord.tick := by
  cases br <;> rfl

@[simp] theorem Blocks.tick_platforms_get (b : Blocks) (configured : Bool) (before after : Nat) (t : Track) :
    (b.tick configured before after).platforms.get t = (b.platforms.get t).tick := by cases t <;> rfl

@[simp] theorem Standing.tick_state (s : Standing) : s.tick.state = s.state := by cases s <;> rfl

/-- The counts of an advance touch no line, no lockout set and no platform's state. -/
theorem tick_linesOk {x : Breaker → Prop} {b : Blocks} (configured : Bool) (before after : Nat) (h : b.LinesOk x) :
    (b.tick configured before after).LinesOk x where
  coils := h.coils
  locked br r hx hr hl := by
    have hr : (b.power.breakers.get br).map BreakerRecord.tick = some r := by rw [← Power.tick_get]; exact hr
    obtain ⟨r', hr', rfl⟩ := Option.map_eq_some_iff.1 hr
    exact h.locked br r' hx hr' hl
  alarm := h.alarm
  starters t := by
    rw [Blocks.tick_platforms_get, Platform.tick, Standing.tick_state]
    exact h.starters t

theorem advance_linesTrue {n : Node} (h : n.LinesTrue) : (advance n).LinesTrue := by
  obtain ⟨time, lines⟩ := n.linesTrue_iff.1 h
  refine (Node.linesTrue_iff _).2 ⟨countUp_le _ _ time, ?_⟩
  exact (LinesKept.ite _ (queueReport_linesKept ..)).lines _ (tick_linesOk _ _ _ (settle_linesOk _ lines))

/-- Service time and the blocks are what the lines depend on. -/
theorem Node.LinesTrue.of_env {n m : Node} (h : n.LinesTrue) (ht : m.env.time.service = n.env.time.service)
    (hb : LinesKept n.blk m.blk) : m.LinesTrue := by
  obtain ⟨time, lines⟩ := n.linesTrue_iff.1 h
  exact m.linesTrue_iff.2 ⟨ht ▸ time, hb.lines _ lines⟩

theorem clockPulse_linesTrue {n : Node} (since : Nat) (h : n.LinesTrue) : (clockPulse n since).LinesTrue := by
  unfold clockPulse
  split
  · exact advance_linesTrue h
  · dsimp only
    generalize (if since < Config.pulseRunMs then n.env.time.run + 1 else 1) = run
    split
    · exact h.of_env rfl (queueReport_linesKept ..)
    · exact h.of_env rfl (.refl _)

theorem pulseTimeout_linesTrue {n : Node} (h : n.LinesTrue) : (pulseTimeout n).LinesTrue := by
  unfold pulseTimeout
  split
  · refine Node.LinesTrue.of_env (advance_linesTrue (advance_linesTrue ?_)) rfl (queueReport_linesKept ..)
    exact h.of_env rfl (.refl _)
  · exact h

theorem oscillatorAdvance_linesTrue {n : Node} (h : n.LinesTrue) : (oscillatorAdvance n).LinesTrue := by
  unfold oscillatorAdvance
  split
  · exact advance_linesTrue h
  · exact h

theorem atReset_linesTrue (k : Nat) : (Node.atReset k).LinesTrue where
  time := Nat.zero_le _
  coils br := by cases br <;> simp [Node.atReset, Blocks.atReset, PerBreaker.get, CoilLines.rest, CoilLines.exclusive]
  locked br r _ _ := by cases br <;> exact ⟨rfl, rfl⟩
  alarm := rfl
  starters t := by cases t <;> rfl

/-! ### The requests that move the node between its states (R11 to R14) -/

theorem discardBreaker_linesOk (e : Env) {x : Breaker → Prop} {b : Blocks} (br : Breaker) (h : b.LinesOk x) :
    (discardBreaker e b br).LinesOk x := by
  unfold discardBreaker
  split
  · exact h
  · refine (setField_linesKept ..).lines x ?_
    exact
      { coils := fun y => by
          by_cases hy : y = br
          · subst hy; simp [CoilLines.rest, CoilLines.exclusive]
          · simpa [hy] using h.coils y
        locked := fun y r hx hr hl => by
          by_cases hy : y = br
          · subst hy; simp [CoilLines.rest]
          · simp only [Blocks.setCoils_power, Blocks.setPower_power, PerBreaker.get_set, hy, if_false] at hr
            simpa [hy] using h.locked y r hx hr hl
        alarm := h.alarm
        starters := h.starters }

theorem restartOccupancy_linesKept (b : Blocks) : LinesKept b (restartOccupancy b) := setField_linesKept b _ b.field.waiting

theorem enableBus_linesKept (b : Blocks) : LinesKept b (enableBus b) := by
  unfold enableBus
  split
  · exact .refl b
  · split
    · exact setBus_linesKept ..
    · exact .refl b

theorem trimLocal_keeps (e : Env) (b : Blocks) (id : IncidentId) : Keeps b (trimLocal e b id) := by
  unfold trimLocal
  split
  · refine .ite _ ?_
    split
    · exact (closeRecord_sheds ..).keeps
    · refine .trans ?_ (reportIncident_keeps ..)
      refine .trans ?_ (tellChange_keeps ..)
      exact modifyRecord_keeps ..
  · exact .refl b

theorem deferredSend_keeps (e : Env) (b : Blocks) (x : IncidentId × TractionSection) : Keeps b (deferredSend e b x) := by
  unfold deferredSend
  split
  · exact .ite _ (sendIsolate_keeps ..)
  · exact .refl b

theorem offerStanding_announced (e : Env) (b : Blocks) (r : Incident) : Announced b (offerStanding e b r) := by
  unfold offerStanding
  split
  · exact .ite _ (offerEvacuate_announced ..)
  · exact offerDelay_announced ..
  · exact .refl b

theorem applyConfigure_linesOk (e : Env) {x : Breaker → Prop} {b : Blocks} (h : b.LinesOk x) : (applyConfigure e b).LinesOk x := by
  unfold applyConfigure
  dsimp only
  refine (raiseStandingLost_linesKept ..).lines x ?_
  refine (Announced.foldl (fun _ _ => offerStanding_announced ..) _ _).keeps.lines x ?_
  refine (setAnnounce_linesKept ..).lines x ?_
  refine (Keeps.foldl (fun _ _ => queueIncidentFrame_keeps ..) _ _).lines x ?_
  refine (Keeps.foldl (fun _ _ => deferredSend_keeps ..) _ _).lines x ?_
  refine (Keeps.foldl (fun _ _ => (removeCopy_sheds ..).keeps) _ _).lines x ?_
  refine (Keeps.foldl (fun _ _ => trimLocal_keeps ..) _ _).lines x ?_
  refine (enableBus_linesKept ..).lines x ?_
  refine (toldStarts_linesKept ..).lines x ?_
  refine (trimPeers_linesKept ..).lines x ?_
  refine (restartOccupancy_linesKept ..).lines x ?_
  exact foldl_keeps (P := Blocks.LinesOk x) (fun b br hb => discardBreaker_linesOk e br hb) _ b h

theorem Node.delivered_linesTrue {n : Node} (h : n.LinesTrue) : n.delivered.LinesTrue := by
  obtain ⟨time, lines⟩ := n.linesTrue_iff.1 h
  exact (Node.linesTrue_iff _).2 ⟨time, deliverAll_linesOk _ lines⟩

theorem configure_linesTrue {n : Node} (r : RawConfig) (h : n.LinesTrue) : (configure n r).1.LinesTrue := by
  unfold configure
  split
  · exact h
  · obtain ⟨time, lines⟩ := (Node.linesTrue_iff _).1 (Node.delivered_linesTrue h)
    exact (Node.linesTrue_iff _).2 ⟨time, applyConfigure_linesOk _ lines⟩

theorem suspendAgain_announced (e : Env) (b : Blocks) (t : Track) : Announced b (suspendAgain e b t) := by
  unfold suspendAgain
  split
  · exact .ite _ (offerSuspend_announced ..)
  · exact .refl b

theorem forgetDeparture_linesKept (b : Blocks) (t : Track) : LinesKept b (forgetDeparture b t) := setPlatform_linesKept b t _ rfl

theorem forgetDelay_linesKept (b : Blocks) (t : Track) : LinesKept b (forgetDelay b t) := setPlatform_linesKept b t _ rfl

theorem dayStart_linesTrue {n : Node} (day start : Nat) (h : n.LinesTrue) : (dayStart n day start).1.LinesTrue := by
  obtain ⟨time, lines⟩ := n.linesTrue_iff.1 h
  unfold dayStart
  split
  · split
    · exact h
    case isFalse hs =>
      refine (Node.linesTrue_iff _).2 ⟨Nat.not_lt.1 hs, ?_⟩
      dsimp only
      refine (Announced.foldl (fun _ _ => suspendAgain_announced ..) _ _).keeps.lines _ ?_
      refine (emptyStarts_linesKept ..).lines _ ?_
      refine (LinesKept.foldl (fun _ _ => forgetDeparture_linesKept ..) _ _).lines _ ?_
      refine (setAnnounce_linesKept ..).lines _ ?_
      exact (LinesKept.ite _ (queueReport_linesKept ..)).lines _ lines
  all_goals exact h

theorem clearQueue_linesKept (e : Env) (b : Blocks) (t : Track) : LinesKept b (clearQueue e b t) :=
  .trans (setApproach_linesKept b t []) (LinesKept.foldl (fun _ _ => closeOwned_linesKept ..) _ _)

theorem dayEnd_linesTrue {n : Node} (h : n.LinesTrue) : (dayEnd n).1.LinesTrue := by
  have delivered := Node.delivered_linesTrue h
  obtain ⟨time, lines⟩ := (Node.linesTrue_iff _).1 delivered
  unfold dayEnd
  dsimp only
  split
  · refine (Node.linesTrue_iff _).2 ⟨time, ?_⟩
    refine (LinesKept.foldl (fun _ _ => forgetDelay_linesKept ..) _ _).lines _ ?_
    refine (closeWhere_sheds ..).lines _ ?_
    refine (LinesKept.foldl (fun _ _ => clearQueue_linesKept ..) _ _).lines _ ?_
    exact (emptyTimetable_linesKept ..).lines _ lines
  · exact delivered

theorem removeFrames_linesKept (b : Blocks) : LinesKept b (removeFrames b) := setBus_linesKept ..

theorem modifyBreaker_get {b : Blocks} {br : Breaker} {r : BreakerRecord} (h : b.power.breakers.get br = some r)
    (f : BreakerRecord → BreakerRecord) : (modifyBreaker b br f).power.breakers.get br = some (f r) := by
  rw [modifyBreaker_eq b br r f h, setBreaker_get b br r (f r) h]

/-- The state a FAILED breaker takes at a SERVICE RESET (R144). -/
def BreakerRecord.followed (r : BreakerRecord) : Condition := if r.inputClosed = some true then .closed else .opened

theorem BreakerRecord.followed_ne_failed (r : BreakerRecord) : r.followed ≠ .failed := by
  unfold BreakerRecord.followed
  split <;> simp

theorem resetFailed_of_failed {b : Blocks} {br : Breaker} {r : BreakerRecord} (h : b.power.breakers.get br = some r)
    (hf : r.condition = some .failed) (e : Env) : resetFailed e b br =
      setCondition e (modifyBreaker b br fun r => { r with failId := none }) br r.followed (some .followInput) := by
  simp only [resetFailed, h, hf, if_true]
  rfl

theorem resetFailed_of_not_failed {b : Blocks} {br : Breaker} (h : ∀ r, b.power.breakers.get br = some r → r.condition ≠ some .failed)
    (e : Env) : resetFailed e b br = b := by
  unfold resetFailed
  split
  case h_1 r hr => exact if_neg (h r hr)
  case h_2 => rfl

theorem resetFailed_sheds (e : Env) (b : Blocks) (br : Breaker) : Sheds e b (resetFailed e b br) := by
  by_cases h : ∃ r, b.power.breakers.get br = some r ∧ r.condition = some .failed
  · obtain ⟨r, hr, hf⟩ := h
    have cleared : Sheds e b (modifyBreaker b br fun r => { r with failId := none }) :=
      modifyBreaker_sheds e b br _ fun _ _ => ⟨fun h => h, .inr rfl, fun h => h, fun _ _ => rfl⟩
    rw [resetFailed_of_failed hr hf]
    refine cleared.trans (setCondition_sheds e _ br _ _ r.followed_ne_failed fun r' hr' => .inl ?_)
    rw [modifyBreaker_get hr] at hr'
    exact Option.some.inj hr' ▸ hf
  · rw [resetFailed_of_not_failed fun r hr hf => h ⟨r, hr, hf⟩]
    exact .refl e b

theorem applyReset_linesOk (e : Env) {x : Breaker → Prop} {b : Blocks} (h : b.LinesOk x) : (applyReset e b).LinesOk x := by
  unfold applyReset
  dsimp only
  refine (raiseStandingLost_linesKept ..).lines x ?_
  refine (Keeps.foldl (fun _ _ => openIfLocked_keeps ..) _ _).lines x ?_
  refine (closeWhere_sheds ..).lines x ?_
  refine (setPeers_linesKept ..).lines x ?_
  refine (Sheds.foldl (fun _ _ => resetFailed_sheds ..) _ _).lines x ?_
  refine (Keeps.foldl (fun _ _ => clearWait_keeps ..) _ _).lines x ?_
  refine (removeFrames_linesKept ..).lines x ?_
  refine (restartOccupancy_linesKept ..).lines x ?_
  refine foldl_keeps (P := Blocks.LinesOk x) (fun b t hb => leave_linesOk t _ rfl hb) _ _ ?_
  refine (resetAnnouncer_announced ..).keeps.lines x ?_
  refine (LinesKept.foldl (fun _ _ => setApproach_linesKept ..) _ _).lines x ?_
  exact (emptyTimetable_linesKept ..).lines x h

theorem serviceReset_linesTrue {n : Node} (h : n.LinesTrue) : (serviceReset n).1.LinesTrue := by
  have delivered := Node.delivered_linesTrue h
  obtain ⟨time, lines⟩ := (Node.linesTrue_iff _).1 delivered
  unfold serviceReset
  dsimp only
  split
  · exact delivered
  · exact (Node.linesTrue_iff _).2 ⟨time, applyReset_linesOk _ lines⟩

/-! ### The station port (chapter 11) -/

/-- An owner that keeps the lines true makes a request that does. -/
theorem request_linesTrue {n : Node} {ch : PortChannel} {kind : Nat} {tag : Byte} {payload : List Byte} {shape : Bool} {a : Allowed}
    {owner : Node → Node × Reply} (ho : ∀ {m : Node}, m.LinesTrue → (owner m).1.LinesTrue) (h : n.LinesTrue) :
    (request n ch kind tag payload shape a owner).LinesTrue := by
  have completed : ({ n with blk := n.blk.setPort n.blk.port.completed } : Node).LinesTrue := h.of_env rfl (setPort_linesKept ..)
  unfold request
  split
  · dsimp only
    split
    · exact completed.of_env rfl (.trans (setPort_linesKept ..) (queueReport_linesKept ..))
    · refine Node.LinesTrue.of_env (n := (dispatch _ shape a owner).1) ?_ rfl (setPort_linesKept ..)
      unfold dispatch
      split
      · exact completed
      · split
        · exact completed
        · exact ho completed
  · exact h

theorem plainOwner_linesTrue {f : Env → Blocks → Blocks × Status} (hf : ∀ e b, LinesKept b (f e b).1) {n : Node} (h : n.LinesTrue) :
    (plainOwner f n).1.LinesTrue := h.of_env rfl (hf ..)

theorem fieldOwner_linesTrue {f : Env → Blocks → Blocks × Reply} (hf : ∀ e b, LinesKept b (f e b).1) {n : Node} (h : n.LinesTrue) :
    (fieldOwner f n).1.LinesTrue := h.of_env rfl (hf ..)

theorem onTrack_linesKept {b : Blocks} (code : Nat) {f : Track → Blocks × Status} (hf : ∀ t, LinesKept b (f t).1) :
    LinesKept b (onTrack b code f).1 := by
  unfold onTrack
  split
  · exact hf _
  · exact .refl b

theorem ownRestore_linesKept (e : Env) (b : Blocks) (sec : Option TractionSection) (id : Option IncidentId) (force : Nat) :
    LinesKept b (ownRestore e b sec id force).1 := by
  unfold ownRestore
  split
  · exact .refl b
  · exact (restoreRequest_keeps ..).linesKept

theorem raiseRequest_linesKept (e : Env) (b : Blocks) (x : Option Raise) : LinesKept b (raiseRequest e b x).1 := by
  unfold raiseRequest
  split
  · exact .refl b
  case h_2 x =>
    have raised := raiseIncident_keeps e b x none
    split <;> rename_i hx <;> rw [hx] at raised <;> exact raised.linesKept

theorem announceRequest_linesKept (e : Env) (b : Blocks) (x : AnnounceRequest) : LinesKept b (announceRequest e b x).1 := by
  unfold announceRequest
  split
  · exact .refl b
  · split
    · exact .refl b
    · split
      · exact (admitZones_announced ..).keeps.linesKept
      · dsimp only
        split
        · exact .trans (queueFrame_linesKept ..) (admitZones_announced ..).keeps.linesKept
        · exact queueFrame_linesKept ..

theorem setFramer_linesKept (b : Blocks) (a : Assembly) (quiet : Nat) : LinesKept b (setFramer b a quiet) := setPort_linesKept ..

theorem portGap_linesKept (b : Blocks) (heard : List Byte) (quiet : Nat) : LinesKept b (portGap b heard quiet) := by
  unfold portGap
  dsimp only
  split
  · exact .refl b
  · split
    · exact setFramer_linesKept ..
    · split
      · exact setFramer_linesKept ..
      · exact setFramer_linesKept ..
      · exact .trans (setFramer_linesKept ..) (setPort_linesKept ..)

theorem portError_linesKept (b : Blocks) (heard : List Byte) : LinesKept b (portError b heard) := by
  unfold portError
  dsimp only
  split
  · exact .refl b
  · split
    · exact setFramer_linesKept ..
    · exact setFramer_linesKept ..
    · exact .trans (setFramer_linesKept ..) (setPort_linesKept ..)

theorem portLength_linesKept (b : Blocks) (len : Byte) : LinesKept b (portLength b len) :=
  .ite _ (.trans (setFramer_linesKept ..) (setPort_linesKept ..))

theorem portNak_linesKept (b : Blocks) (channel kind tag : Byte) (payload : List Byte) (check : Check) :
    LinesKept b (portNak b channel kind tag payload check) := by
  refine .ite _ ?_
  split
  · exact .trans (setFramer_linesKept ..) (setPort_linesKept ..)
  · exact .refl b

theorem portEnd_linesKept (b : Blocks) : LinesKept b (portEnd b) := by
  unfold portEnd
  split
  · exact setPort_linesKept ..
  · exact .refl b

/-! ### Every command -/

/-- A command that completes keeps the lines true. -/
theorem exec_linesTrue (c : Instr) {n : Node} {q : List Instr} {t : State} (h : n.LinesTrue) (ht : exec c ⟨n, q⟩ = .next t) :
    t.node.LinesTrue := by
  obtain ⟨time, lines⟩ := n.linesTrue_iff.1 h
  have delivers {b : Blocks} (hb : b.LinesOk noBreaker) : ({ n with blk := b } : Node).LinesTrue := (Node.linesTrue_iff _).2 ⟨time, hb⟩
  have kept {b : Blocks} (hb : LinesKept n.blk b) : ({ n with blk := b } : Node).LinesTrue := delivers (hb.lines _ lines)
  cases c with
  | powerOnReset straps => cases ht; exact atReset_linesTrue _
  | clockPulse since => cases ht; exact clockPulse_linesTrue since h
  | pulseTimeout => cases ht; exact pulseTimeout_linesTrue h
  | oscillatorAdvance => cases ht; exact oscillatorAdvance_linesTrue h
  | occupancyRise t => cases ht; exact delivers (occupancyRise_linesOk n.env t lines)
  | departure t => cases ht; exact delivers (occupancyFall_linesOk n.env t lines)
  | samplingPoint levels => cases ht; exact delivers (samplingPoint_linesOk n.env levels lines)
  | linebusOtherCharacter char => cases ht; exact kept (otherCharacter_linesKept ..)
  | plungerPress t => cases ht; exact kept (plungerRise_linesKept ..)
  | plungerRelease t => cases ht; exact kept (plungerFall_linesKept ..)
  | breakerSettlement br isClosed => cases ht; exact kept (breakerSettles_linesKept ..)
  | breakerStatusChange br isClosed => cases ht; exact kept (breakerMoves_linesKept ..)
  | localKeyChange isSet => cases ht; exact kept (keyMoves_linesKept ..)
  | pulseEnd br => cases ht; exact kept ((endPulse_sheds n.env n.blk br).keeps.linesKept)
  | thirdAdvanceOpen br => cases ht; exact kept ((thirdStep_keeps ..).linesKept)
  | breakerTimeLimit br => cases ht; exact kept ((limitStep_keeps ..).linesKept)
  | isolateRepeat id sec => cases ht; exact kept ((repeatStep_keeps ..).linesKept)
  | restoreWaitTimeout br => cases ht; exact kept ((waitStep_keeps ..).linesKept)
  | attemptBegin idle => cases ht; exact kept (attemptBegin_linesKept ..)
  | backoffRetry idle => cases ht; exact kept (backoffRetry_linesKept ..)
  | collision cause heard => cases ht; exact kept (collide_linesKept ..)
  | frameSent => cases ht; exact kept (frameSent_linesKept ..)
  | statusPoint => cases ht; exact kept (statusStep_linesKept ..)
  | lineIdle heard idle => cases ht; exact kept (lineIdle_linesKept ..)
  | linebusCharacterError heard => cases ht; exact kept (characterError_linesKept ..)
  | linebusLengthError source cls len => cases ht; exact kept (lengthError_linesKept ..)
  | linebusFrameDiscarded source cls payload check => cases ht; exact kept (discardFrame_linesKept ..)
  | frameErrorReport => cases ht; exact kept (errorReportStep_linesKept ..)
  | statusFrame source payload => cases ht; exact kept (receiveFrame_linesKept ..)
  | powerFrame source payload => cases ht; exact kept (receiveFrame_linesKept ..)
  | isolateFrame source payload => cases ht; exact kept (receiveFrame_linesKept ..)
  | restoreFrame source payload => cases ht; exact kept (receiveFrame_linesKept ..)
  | incidentFrame source payload => cases ht; exact kept (receiveFrame_linesKept ..)
  | departFrame source payload => cases ht; exact kept (receiveFrame_linesKept ..)
  | announceFrame source payload => cases ht; exact kept (receiveFrame_linesKept ..)
  | peerStale node => cases ht; exact kept (staleStep_linesKept ..)
  | peerLost node => cases ht; exact kept (lostStep_linesKept ..)
  | lapse node => cases ht; exact kept (lapseStep_linesKept ..)
  | overdueInstant t => cases ht; exact kept (stallCheck_linesKept ..)
  | dwellTargetReached t => cases ht; exact kept (((targetStep_told ..).sheds n.env).keeps.linesKept)
  | staggerTimeReached t => cases ht; exact kept (((staggerStep_told ..).sheds n.env).keeps.linesKept)
  | graceExpiry t => cases ht; exact kept (((graceStep_told ..).sheds n.env).keeps.linesKept)
  | wmaxReached t => cases ht; exact kept (((watchHeld_told ..).sheds n.env).keeps.linesKept)
  | refresh id => cases ht; exact kept ((refreshStep_keeps ..).linesKept)
  | localAgeClose id => cases ht; exact kept ((localAgeStep_keeps ..).linesKept)
  | copyDrop id => cases ht; exact kept ((copyDropStep_keeps ..).linesKept)
  | notBeforeReached message => cases ht; exact kept ((notBeforeStep_announced ..).keeps.linesKept)
  | messageExpiry message => cases ht; exact kept ((expiryStep_announced ..).keeps.linesKept)
  | playDeadline channel => cases ht; exact kept ((deadlineStep_announced ..).keeps.linesKept)
  | stopTimeout channel => cases ht; exact kept ((stopStep_announced ..).keeps.linesKept)
  | portFrameGap heard quietUs => cases ht; exact kept (portGap_linesKept ..)
  | portCharacterError heard => cases ht; exact kept (portError_linesKept ..)
  | portLengthError len => cases ht; exact kept (portLength_linesKept ..)
  | nak channel kind tag payload check => cases ht; exact kept (portNak_linesKept ..)
  | portFrameEnd => cases ht; exact kept (portEnd_linesKept ..)
  | configure tag payload => cases ht; exact request_linesTrue (configure_linesTrue _) h
  | dayStart tag payload => cases ht; exact request_linesTrue (dayStart_linesTrue _ _) h
  | dayEnd tag payload => cases ht; exact request_linesTrue (dayEnd_linesTrue) h
  | serviceReset tag payload => cases ht; exact request_linesTrue (serviceReset_linesTrue) h
  | readStatus tag payload => cases ht; exact request_linesTrue (fieldOwner_linesTrue fun _ _ => .refl _) h
  | alarmAck tag payload => cases ht; exact request_linesTrue (plainOwner_linesTrue fun _ _ => (setAlarm_keeps ..).linesKept) h
  | timetablePart tag payload => cases ht; exact request_linesTrue (fieldOwner_linesTrue fun _ _ => takePart_linesKept ..) h
  | amendChange tag payload => cases ht; exact request_linesTrue (plainOwner_linesTrue fun _ _ => amendChange_linesKept ..) h
  | amendCancel tag payload => cases ht; exact request_linesTrue (plainOwner_linesTrue fun _ _ => amendCancel_linesKept ..) h
  | amendInsert tag payload => cases ht; exact request_linesTrue (plainOwner_linesTrue fun _ _ => amendInsert_linesKept ..) h
  | inject tag payload => cases ht; exact request_linesTrue (plainOwner_linesTrue fun _ _ => injectTrain_linesKept ..) h
  | flush tag payload => cases ht; exact request_linesTrue (plainOwner_linesTrue fun _ _ => flushTrain_linesKept ..) h
  | hold tag payload => cases ht; exact request_linesTrue (plainOwner_linesTrue fun _ _ =>
      onTrack_linesKept _ fun _ => ((holdPlatform_told ..).sheds n.env).keeps.linesKept) h
  | unhold tag payload => cases ht; exact request_linesTrue (plainOwner_linesTrue fun _ _ =>
      onTrack_linesKept _ fun _ => ((unholdPlatform_told ..).sheds n.env).keeps.linesKept) h
  | release tag payload => cases ht; exact request_linesTrue (plainOwner_linesTrue fun _ _ =>
      onTrack_linesKept _ fun _ => ((releasePlatform_told ..).sheds n.env).keeps.linesKept) h
  | readPlatform tag payload => cases ht; exact request_linesTrue (fieldOwner_linesTrue fun _ _ => .refl _) h
  | isolate tag payload => cases ht; exact request_linesTrue (plainOwner_linesTrue fun _ _ => (isolateRequest_keeps ..).linesKept) h
  | restore tag payload => cases ht; exact request_linesTrue (plainOwner_linesTrue fun _ _ => ownRestore_linesKept ..) h
  | readPower tag payload => cases ht; exact request_linesTrue (fieldOwner_linesTrue fun _ _ => .refl _) h
  | raise tag payload => cases ht; exact request_linesTrue (fieldOwner_linesTrue fun _ _ => raiseRequest_linesKept ..) h
  | acknowledge tag payload => cases ht; exact request_linesTrue (plainOwner_linesTrue fun _ _ => (acknowledgeIncident_keeps ..).linesKept) h
  | close tag payload => cases ht; exact request_linesTrue (plainOwner_linesTrue fun _ _ => (closeIncident_keeps ..).linesKept) h
  | adopt tag payload => cases ht; exact request_linesTrue (plainOwner_linesTrue fun _ _ => (adoptIncident_keeps ..).linesKept) h
  | change tag payload => cases ht; exact request_linesTrue (plainOwner_linesTrue fun _ _ => (changeIncident_keeps ..).linesKept) h
  | readIncidents tag payload => cases ht; exact request_linesTrue (fieldOwner_linesTrue fun _ _ => .refl _) h
  | announce tag payload => cases ht; exact request_linesTrue (fieldOwner_linesTrue fun _ _ => announceRequest_linesKept ..) h
  | withdraw tag payload => cases ht; exact request_linesTrue (plainOwner_linesTrue fun _ _ => (withdrawRequest_announced ..).keeps.linesKept) h
  | audioDone tag payload => cases ht; exact request_linesTrue (plainOwner_linesTrue fun _ _ => (audioDoneRequest_announced ..).keeps.linesKept) h
  | audioFailed tag payload => cases ht; exact request_linesTrue (plainOwner_linesTrue fun _ _ => (audioFailedRequest_announced ..).keeps.linesKept) h
  | audioStopped tag payload => cases ht; exact request_linesTrue (plainOwner_linesTrue fun _ _ =>
      (audioStoppedRequest_announced ..).keeps.linesKept) h
  | audioReset tag payload => cases ht; exact request_linesTrue (plainOwner_linesTrue fun _ _ => (audioResetRequest_announced ..).keeps.linesKept) h

/-- Settles O55: the front command keeps the lines true, and an empty queue changes nothing. -/
theorem stepKeepsLinesTrue : Obligations.StepKeepsLinesTrue := by
  rintro ⟨n, q⟩ t h ht
  cases q with
  | nil => cases ht; exact h
  | cons c rest => exact exec_linesTrue c h ht

end Sys2Proof.Machine

/-! SUPPORT. Reset and service time: the invariants at reset, what an advance counts, and the run of pulses that ends holdover. -/

namespace Sys2Proof.Machine

/-! ### Power-on reset (R10, R221) -/

@[simp] theorem atReset_platform (k : Nat) (t : Track) : (Blocks.atReset k).platforms.get t = .atReset := by cases t <;> rfl

@[simp] theorem atReset_sequence (k : Nat) (t : Track) : (Blocks.atReset k).timetable.sequences.get t = [] := by cases t <;> rfl

@[simp] theorem atReset_queue (k : Nat) (z : Zone) : (Blocks.atReset k).announce.queues.get z = [] := by cases z <;> rfl

@[simp] theorem atReset_approaching (k : Nat) (t : Track) : (Blocks.atReset k).describer.get t = [] := by cases t <;> rfl

@[simp] theorem atReset_latch (k : Nat) (t : Track) : (Blocks.atReset k).power.latches.get t = .clear := by cases t <;> rfl

/-- The breakers of the provisional line have their records at reset (R4, R116). -/
@[simp] theorem atReset_breaker (k : Nat) (br : Breaker) :
    (Blocks.atReset k).power.breakers.get br = if presentAt 32 k br then some .atReset else none := by
  cases br <;> simp [Blocks.atReset, PerBreaker.get, presentAt, Config.provisionalNodeCount]

theorem atReset_lockout {k : Nat} {br : Breaker} {r : BreakerRecord} (h : (Blocks.atReset k).power.breakers.get br = some r) :
    r.lockout = [] := by
  rw [atReset_breaker] at h
  split at h <;> cases h
  rfl

theorem atReset_incidents_proper (k : Nat) : (Blocks.atReset k).incidents.proper := ⟨Nat.zero_le _, List.nodup_nil⟩

theorem atReset_releasesClear (k : Nat) : (Node.atReset k).ReleasesClear where
  platforms t := by simp [Node.atReset, Platform.atReset, Standing.sourcesTrue]
  table := atReset_incidents_proper k
  latches t h := by simp [Node.atReset, Latch.clear] at h
  severities r hr := absurd hr (by simp [Node.atReset, Blocks.atReset])
  sets br r hr := by simp [atReset_lockout hr]

theorem atReset_linksProper (k : Nat) : (Node.atReset k).LinksProper where
  port :=
    { answers := Nat.zero_le _, reports := Nat.zero_le _, discard := Nat.zero_le _
      idle := by simp [Node.atReset, Blocks.atReset, Port.atReset] }
  bus :=
    { full := Nat.zero_le _, ranked := .nil
      off := by simp [Node.atReset, Blocks.atReset, Linebus.atReset, Env.atReset]
      agrees := rfl, oneStatus := Nat.zero_le _ }

theorem atReset_storeTrue (k : Nat) : (Node.atReset k).StoreTrue where
  table := atReset_incidents_proper k
  size := by simp [Node.atReset, Blocks.atReset]
  incidents id := by simp [Node.atReset, Blocks.atReset, List.count_replicate]
  messages := by simp [Node.atReset, Blocks.atReset, Store.messages, Config.storeReserve, Config.storeBlocks]

theorem atReset_tablesProper (k : Nat) : (Node.atReset k).TablesProper where
  sequences t := by simp [Node.atReset, ordered]
  entries t := by simp [Node.atReset, Platform.atReset, entriesTrue]
  total := Nat.zero_le _
  load := trivial
  approaching t := by simp [Node.atReset, queueProper]
  zones z := by simp [Node.atReset, messageCount]
  ranked z := by simp [Node.atReset]
  channels := Nat.zero_le _
  oneChannel := List.nodup_nil
  lockouts br r hr := by simp [atReset_lockout hr]

/-- Settles O60: at reset every table is empty, every platform VACANT and every line at rest. -/
theorem resetMeetsInvariants : Obligations.ResetMeetsInvariants :=
  ⟨fun k _ => ⟨atReset_linesTrue k, atReset_releasesClear k, atReset_linksProper k, atReset_storeTrue k, atReset_tablesProper k⟩,
    rfl, rfl⟩

/-- Settles O3, register by register; what is indexed by a track, a breaker or a zone is read off at each index. -/
theorem powerOnResetValues : Obligations.PowerOnResetValues := by
  refine ⟨fun straps n q => ⟨.atReset straps.toNat, .atReset straps.toNat, rfl, ?_⟩, rfl⟩
  refine ⟨rfl, rfl, rfl, rfl, ?occupancy, ?plunger, ?status, rfl, rfl, ?coils, ?starters, rfl, rfl, rfl, rfl, rfl, rfl, rfl, rfl, rfl, rfl,
    rfl, rfl, rfl, rfl, rfl, rfl, rfl, rfl, rfl, rfl, rfl, rfl, rfl, ?sequences, rfl, rfl, ?approaching, ?platforms, ?breakers, ?latches,
    rfl, rfl, rfl, rfl, rfl, rfl, rfl, ?queues, rfl, ?faults, rfl, rfl, rfl, rfl, rfl, rfl, rfl, rfl, rfl, rfl, rfl, rfl, rfl, rfl,
    rfl, rfl, rfl, rfl⟩
  case sequences => exact atReset_sequence _
  case approaching => exact atReset_approaching _
  case platforms => exact atReset_platform _
  case breakers => exact atReset_breaker _
  case latches => exact atReset_latch _
  case queues => exact atReset_queue _
  all_goals
    intro i
    cases i <;> rfl

/-! ### Service time (R5, R6, R7, R9) -/

theorem countUp_eq_min {limit n : Nat} (h : n ≤ limit) : countUp limit n = min (n + 1) limit := by
  unfold countUp
  split <;> omega

/-- Two counts from `n` come to `n + 2` or the limit. -/
theorem countUp_twice {limit n : Nat} (h : n ≤ limit) : countUp limit (countUp limit n) = min (n + 2) limit := by
  rw [countUp_eq_min h, countUp_eq_min (Nat.min_le_right _ _)]
  omega

theorem clockPulse_pulsed {n : Node} (h : n.env.time.mode = .pulsed) (since : Nat) : clockPulse n since = advance n := by
  simp [clockPulse, h]

theorem oscillatorAdvance_holdover {n : Node} (h : n.env.time.mode = .holdover) : oscillatorAdvance n = advance n := by
  simp [oscillatorAdvance, h]

theorem pulseTimeout_pulsed {n m : Node} (h : n.env.time.mode = .pulsed)
    (hm : advance (advance { n with env := { n.env with time := { n.env.time with mode := .holdover, run := 0 } } }) = m) :
    pulseTimeout n = ⟨m.env, queueReport m.env m.blk .holdoverBegun⟩ := by
  subst hm
  simp [pulseTimeout, h]

/-- Settles O4: the three commands come to `advance`, whose service time is counted up to the limit. -/
theorem advancesMoveServiceTime : Obligations.AdvancesMoveServiceTime := by
  intro e b q
  refine ⟨?one, ?two⟩
  case one =>
    rintro service overrun e' b' rfl rfl rfl rfl
    have moved : advance ⟨e, b⟩ = ⟨{ e with time := e.time.advance },
        if e.time.advance.overrun = true ∧ e.time.overrun = false then
          queueReport { e with time := e.time.advance } ((settle e b).tick e.configured e.time.service e.time.advance.service) .dayOverrun
        else (settle e b).tick e.configured e.time.service e.time.advance.service⟩ := by
      simp [advance, Env.configured, Env.now]
    dsimp only
    refine ⟨fun hm since => ?_, fun hm => ?_⟩
    · rw [exec_clockPulse, clockPulse_pulsed hm, moved]
      rfl
    · rw [exec_oscillatorAdvance, oscillatorAdvance_holdover hm, moved]
      rfl
  case two =>
    intro hm hs
    refine ⟨_, _, ?_, rfl, countUp_twice hs, rfl, rfl, rfl, rfl, rfl, rfl⟩
    rw [exec_pulseTimeout, pulseTimeout_pulsed (n := ⟨e, b⟩) hm rfl]
    rfl

/-- A pulse that leaves the run short of ten in HOLDOVER counts toward it and does nothing else. -/
theorem clockPulse_counts {e : Env} {b : Blocks} {since run : Nat} (hm : e.time.mode = .holdover)
    (hr : (if since < Config.pulseRunMs then e.time.run + 1 else 1) = run) (h : run < 10) :
    clockPulse ⟨e, b⟩ since = ⟨{ e with time := { e.time with run := run } }, b⟩ := by
  have short : ¬ Config.runLength ≤ run := Nat.not_le.2 h
  simp [clockPulse, hm, hr, short]

/-- The tenth pulse of a run ends HOLDOVER. -/
theorem clockPulse_ends {e : Env} {b : Blocks} {since : Nat} (hm : e.time.mode = .holdover) (hs : since < 250) (hr : e.time.run = 9) :
    clockPulse ⟨e, b⟩ since = ⟨{ e with time := { e.time with mode := .pulsed, run := 0 } },
      queueReport { e with time := { e.time with mode := .pulsed, run := 0 } } b .holdoverEnded⟩ := by
  simp [clockPulse, hm, hr, hs, Config.pulseRunMs, Config.runLength]

theorem run_clockPulse (k since : Nat) (n : Node) (q : List Instr) :
    Host.Core.run Sys2Proof.core (k + 1) (⟨n, .clockPulse since :: q⟩ : State)
      = Host.Core.run Sys2Proof.core k (⟨clockPulse n since, q⟩ : State) := rfl

/-- Near pulses that come to a run of at most ten, from a run already begun. -/
theorem run_near_pulses (gaps : List Nat) : ∀ (e : Env) (b : Blocks) (q : List Instr), e.time.mode = .holdover → e.time.run < 10 →
    e.time.run + gaps.length ≤ 10 → (∀ g ∈ gaps, g < 250) →
    ∃ e' b', Host.Core.run Sys2Proof.core gaps.length (⟨⟨e, b⟩, gaps.map Instr.clockPulse ++ q⟩ : State) = .next (⟨⟨e', b'⟩, q⟩ : State)
      ∧ (e.time.run + gaps.length < 10 → e' = { e with time := { e.time with run := e.time.run + gaps.length } } ∧ b' = b)
      ∧ (e.time.run + gaps.length = 10 → e' = { e with time := { e.time with mode := .pulsed, run := 0 } }
          ∧ b' = queueReport e' b .holdoverEnded) := by
  induction gaps with
  | nil => exact fun e b q _ hr _ _ => ⟨e, b, rfl, fun _ => ⟨rfl, rfl⟩, fun h => absurd h (Nat.ne_of_lt hr)⟩
  | cons g gaps ih =>
    intro e b q hm hr hl hg
    have near : g < 250 := hg g (by simp)
    simp only [List.length_cons, List.map_cons, List.cons_append, run_clockPulse] at hl ⊢
    by_cases last : e.time.run = 9
    · obtain rfl : gaps = [] := List.length_eq_zero_iff.1 (by omega)
      rw [clockPulse_ends hm near last]
      exact ⟨_, _, rfl, fun h => absurd h (by simp [last]), fun _ => ⟨rfl, rfl⟩⟩
    · rw [clockPulse_counts hm (if_pos near) (by omega)]
      obtain ⟨e', b', hrun, counted, ended⟩ := ih { e with time := { e.time with run := e.time.run + 1 } } b q hm
        (by dsimp only; omega) (by dsimp only; omega) fun x hx => hg x (by simp [hx])
      have sum : e.time.run + 1 + gaps.length = e.time.run + (gaps.length + 1) := by omega
      simp only [sum] at counted ended
      exact ⟨e', b', hrun, counted, ended⟩

/-- Settles O6: the first pulse leaves a run of one, and the near pulses after it count from there. -/
theorem tenPulsesEndHoldover : Obligations.TenPulsesEndHoldover := by
  intro e b q first gaps hm hfirst hl hg
  have one : (if first < Config.pulseRunMs then e.time.run + 1 else 1) = 1 := by
    have : Config.pulseRunMs = 250 := rfl
    split <;> omega
  obtain ⟨e', b', hrun, counted, ended⟩ := run_near_pulses gaps { e with time := { e.time with run := 1 } } b q hm
    (by simp) (by dsimp only; omega) hg
  refine ⟨e', b', ?_, fun h => ?_, fun h => ended (by simp [h])⟩
  · rw [List.map_cons, List.cons_append, run_clockPulse, clockPulse_counts hm one (by decide)]
    exact hrun
  · rw [Nat.add_comm gaps.length]
    exact counted (by dsimp only; omega)

/-! ### The counts of an advance (R5, R8) -/

theorem PeerEntry.tick_eq (p : PeerEntry) :
    p.tick = if p.liveness = .current ∨ p.liveness = .stale then { p with silence := countUp 60 p.silence } else p := by
  cases hp : p.liveness <;> simp [PeerEntry.tick, hp, Liveness.heard, Config.lostAt]

theorem StartEntry.tick_eq (s : StartEntry) : s.tick = if s.start.isSome then { s with age := countUp 601 s.age } else s := by
  cases hs : s.start <;> simp [StartEntry.tick, hs, Config.startAgeMax]

theorem Platform.tick_of_vacant {p : Platform} (h : p.standing = .vacant) : p.tick = p := by
  cases p
  cases h
  rfl

theorem Announcer.tick_queue (before after : Nat) (a : Announcer) (z : Zone) :
    (a.tick before after).queues.get z = (a.queues.get z).map (Chain.tick before after) := by cases z <;> rfl

/-- Settles O5: what is counted in a table is counted entry by entry, and what the tick does not name it leaves. -/
theorem advanceRaisesCounts : Obligations.AdvanceRaisesCounts := by
  rintro b configured before after x rfl
  refine ⟨rfl, rfl, rfl, rfl, rfl, rfl, rfl, Power.tick_get _, fun _ => rfl, fun _ => rfl, rfl, rfl, rfl, rfl, ?peers, ?starts, rfl, rfl,
    ?vacant, ?occupied, rfl, rfl, rfl, ?owned, ?copy, ?playing, ?stopping, ?idle, ?channels, ?records, ?table, ?startTable, ?queues,
    ?chains, rfl, rfl, rfl⟩
  case peers =>
    intro i p hp
    simp [Blocks.tick, PeerView.tick, hp, PeerEntry.tick_eq]
  case starts =>
    intro i s hs
    simp [Blocks.tick, PeerView.tick, hs, StartEntry.tick_eq]
  case vacant => exact fun t h => (Blocks.tick_platforms_get ..).trans (Platform.tick_of_vacant h)
  case occupied =>
    intro t p d h
    rw [Blocks.tick_platforms_get, Platform.tick, h]
    rfl
  case owned =>
    intro i r o hr ho
    simp [Blocks.tick, hr, Incident.tick, ho, Config.refreshPeriod, Config.localAgeMax, IsolationItem.tick, Config.isolationRepeat]
  case copy =>
    intro i r c hr hc
    simp [Blocks.tick, hr, Incident.tick, hc, Config.silenceAgeMax]
  case playing =>
    intro i z m n began h
    simp [Blocks.tick, Announcer.tick, h, Channel.tick]
  case stopping =>
    intro i z m cause n began h
    simp [Blocks.tick, Announcer.tick, h, Channel.tick, Config.stopLimit]
  case idle =>
    intro i h
    simp [Blocks.tick, Announcer.tick, h, Channel.tick]
  case chains =>
    intro z i c h
    simp [Blocks.tick, Announcer.tick_queue, h, Chain.tick]
  case queues =>
    intro z
    simp [Blocks.tick, Announcer.tick_queue]
  all_goals simp [Blocks.tick, Announcer.tick, PeerView.tick]

end Sys2Proof.Machine

/-! SUPPORT. The release check at its sources, the ends of a section, and the repeat point of an isolation item. -/

namespace Sys2Proof.Machine

/-! ### The sources of the hold reasons (R99, R100, R146) -/

theorem Reasons.isEmpty_iff (r : Reasons) : r.isEmpty = true ↔ r = .empty := by
  cases r
  simp [Reasons.isEmpty, Reasons.empty, and_assoc]

@[simp] theorem breakerAt_gap (sec : TractionSection) : sec.breakerAt sec.gap = some sec.track.highBreaker := by
  simp [TractionSection.breakerAt]

@[simp] theorem breakerAt_gap_succ (sec : TractionSection) :
    sec.breakerAt (sec.gap + 1) = some sec.track.lowBreaker := by
  simp [TractionSection.breakerAt]

theorem Blocks.heldSection_eq_dead_iff (b : Blocks) (br : Breaker) :
    b.heldSection br = some .dead ↔ ∃ r, b.power.breakers.get br = some r ∧ r.sectionState = some .dead := by
  unfold Blocks.heldSection
  cases b.power.breakers.get br <;> simp

/-- POWER stands where the breaker by which this node feeds the section ahead has a DEAD section record. -/
theorem reasonPower_iff (e : Env) (b : Blocks) (t : Track) : reasonPower e b t = true ↔
    ∃ sec br, e.sectionAhead t = some sec ∧ e.ownBreaker sec = some br ∧
      ∃ r, b.power.breakers.get br = some r ∧ r.sectionState = some .dead := by
  unfold reasonPower
  cases h : e.sectionAhead t with
  | none => simp
  | some sec => cases hb : e.ownBreaker sec <;> simp [sectionDead, hb, Blocks.heldSection_eq_dead_iff]

theorem ownBreaker_ahead_up {e : Env} {sec : TractionSection} (h : e.sectionAhead .up = some sec) : e.ownBreaker sec = some .uh := by
  simp only [Env.sectionAhead, sectionAheadAt] at h
  split at h
  next inLine =>
    cases h
    simp [Env.ownBreaker, TractionSection.breakerAt, Track.highBreaker, Env.present, presentAt, inLine]
  · cases h

theorem ownBreaker_ahead_down {e : Env} {sec : TractionSection} (h : e.sectionAhead .down = some sec) :
    e.ownBreaker sec = some .dl := by
  simp only [Env.sectionAhead, sectionAheadAt] at h
  split at h
  next inLine =>
    cases h
    have notHigh : ¬ e.nodeNumber = e.nodeNumber - 1 := by omega
    have low : e.nodeNumber = e.nodeNumber - 1 + 1 := by omega
    simp [Env.ownBreaker, TractionSection.breakerAt, Track.lowBreaker, Env.present, presentAt, inLine, notHigh, ← low]
  · cases h

theorem reasonPower_iff_of_ownBreaker {e : Env} {t : Track} {br : Breaker}
    (h : ∀ sec, e.sectionAhead t = some sec → e.ownBreaker sec = some br) (b : Blocks) :
    reasonPower e b t = true ↔ e.sectionAhead t ≠ none ∧ ∃ r, b.power.breakers.get br = some r ∧ r.sectionState = some .dead := by
  rw [reasonPower_iff]
  cases ha : e.sectionAhead t with
  | none => simp
  | some sec => simp [h sec ha]

theorem TrackSet.has_iff (s : TrackSet) (t : Track) : s.has t = true ↔ s = .both ∨ s = .one t := by
  cases s <;> cases t <;> simp [TrackSet.has, TrackSet.one]

theorem Env.sectionAhead_track {e : Env} {t : Track} {sec : TractionSection} (h : e.sectionAhead t = some sec) : sec.track = t := by
  cases t <;> simp only [Env.sectionAhead, sectionAheadAt] at h <;> split at h <;> cases h <;> rfl

theorem reasonIncident_iff (e : Env) (b : Blocks) (t : Track) : reasonIncident e b t = true ↔ ∃ sec, e.sectionAhead t = some sec ∧
    ∃ r ∈ b.incidents.records, 3 ≤ r.severity ∧ (r.span.tracks = .both ∨ r.span.tracks = .one t) ∧ r.span.first ≤ sec.gap
      ∧ sec.gap ≤ r.span.last := by
  unfold reasonIncident
  cases h : e.sectionAhead t with
  | none => simp
  | some sec => simp [IncidentTable.coverage, Span.covers, TrackSet.has_iff, Env.sectionAhead_track h, and_assoc]

/-- The later of two optional times, of which one stands and is not before the other. -/
theorem later_eq_left {x y : Option Nat} {l : Nat} (hx : x = some l) (hy : ∀ other, y = some other → other ≤ l) :
    later x y = some l := by
  cases y with
  | none => simp [hx, later]
  | some o => simp [hx, later, hy o rfl]

theorem later_eq_right {x y : Option Nat} {l : Nat} (hy : y = some l) (hx : ∀ other, x = some other → other ≤ l) :
    later x y = some l := by
  cases x with
  | none => simp [hy, later]
  | some o => simp [hy, later, hx o rfl]

theorem staggerTime_ahead {e : Env} {t : Track} {sec : TractionSection} (h : e.sectionAhead t = some sec) (b : Blocks) :
    staggerTime e b t =
      (later (b.peers.start sec.gap) (b.peers.start (sec.gap + 1))).map fun l => saturate (l + (e.platformConfig t).stagger) := by
  simp [staggerTime, h]

theorem targetStep_due {e : Env} {b : Blocks} {t : Track} {d : Dwell} {target : Nat} (hs : (b.platforms.get t).standing = .occupied .dwell d)
    (hm : d.mode = .regulated) (ht : d.target = some target) (hd : target ≤ e.time.service) :
    targetStep e b t = releaseCheck e b t { d with targetOver := true } := by
  simp [targetStep, hs, targetDue, hm, Env.passed, ht, Env.reached, Env.now, hd]

theorem not_reached (e : Env) (i : Nat) : (!e.reached i) = decide (e.time.service < i) := by
  have : e.time.service = e.now := rfl
  rw [this, Bool.eq_iff_iff]
  simp [Env.reached]

theorem reasonStagger_eq (e : Env) (isOpen : Bool) (p : Option Nat) :
    reasonStagger e isOpen p = (isOpen && (p.map fun i => decide (e.time.service < i)).getD false) := by
  simp only [reasonStagger, not_reached]

theorem checkedDwell_eq {e : Env} {b : Blocks} {t : Track} {d : Dwell} {stagger : Option Nat} {set : Reasons}
    (hp : stagger = if d.staggerOpen then staggerTime e b t else d.staggerTime)
    (hset : set = { power := reasonPower e b t, incident := reasonIncident e b t, estop := reasonEstop b t
                    stagger := d.staggerOpen && (stagger.map fun i => decide (e.time.service < i)).getD false
                    operator := d.reasons.operator }) :
    checkedDwell e b t { d with targetOver := true } = { d with targetOver := true, staggerTime := stagger, reasons := set } := by
  subst hp hset
  simp only [checkedDwell, reasonStagger_eq]

theorem releaseCheck_of_empty {e : Env} {b : Blocks} {t : Track} {d d' : Dwell} (hd : checkedDwell e b t d = d') (h : d'.reasons = .empty) :
    releaseCheck e b t d = enterReleased e b t d' := by
  simp [releaseCheck, hd, (Reasons.isEmpty_iff _).2 h]

theorem releaseCheck_of_not_empty {e : Env} {b : Blocks} {t : Track} {d d' : Dwell} (hd : checkedDwell e b t d = d')
    (h : d'.reasons ≠ .empty) : releaseCheck e b t d = enterHeld e b t d' := by
  simp [releaseCheck, hd, mt (Reasons.isEmpty_iff _).1 h]

/-- Settles O24: the check decides on the set it finds, and each source is read where the rules place it. -/
theorem releaseCheckDecides : Obligations.ReleaseCheckDecides := by
  refine ⟨?decides, fun e b => ⟨rfl, rfl, reasonPower_iff_of_ownBreaker (fun _ => ownBreaker_ahead_up) b,
    reasonPower_iff_of_ownBreaker (fun _ => ownBreaker_ahead_down) b, reasonIncident_iff e b, fun _ => rfl, fun t h => ?alone, ?start⟩⟩
  case decides =>
    intro e b q t d target stagger set hs hm ht hd hp hset
    have found := checkedDwell_eq hp hset
    simp only [exec_dwellTargetReached, targetStep_due hs hm ht hd]
    refine ⟨fun hempty => ?_, fun hset => ?_⟩
    · rw [releaseCheck_of_empty found hempty]
      rfl
    · rw [releaseCheck_of_not_empty found hset]
      rfl
  case alone => simp [staggerTime, h]
  case start =>
    intro t sec start hsec hstart
    obtain rfl : start = b.peers.start := funext hstart
    rw [staggerTime_ahead hsec]
    refine ⟨fun none₁ none₂ => by simp [none₁, none₂, later], fun i j l p hij hi hj hp => ?_⟩
    have hlater : later (b.peers.start sec.gap) (b.peers.start (sec.gap + 1)) = some l := by
      rcases hij with ⟨rfl, rfl⟩ | ⟨rfl, rfl⟩
      · exact later_eq_left hi hj
      · exact later_eq_right hi hj
    rw [hlater, hp]
    rfl

/-! ### The ends of a section (R55, R132) -/

theorem PeerView.entry_of_some {p : PeerView} {n : Nat} {x : PeerEntry} (h : p.table[n]? = some x) : p.entry n = x := by
  simp [PeerView.entry, h]

theorem PeerView.reported_of_heard {v : PeerView} {n : Nat} {p : PeerEntry} (h : v.table[n]? = some p)
    (hp : p.liveness = .current ∨ p.liveness = .stale) (br : Breaker) :
    v.reported n br = (p.reports.get br).map fun x => (x.state, x.keyLocal) := by
  rcases hp with hp | hp <;> simp [PeerView.reported, PeerView.entry_of_some h, hp, Liveness.heard]

theorem PeerView.reported_of_unheard {v : PeerView} {n : Nat} (h : (v.entry n).liveness = .unheard ∨ (v.entry n).liveness = .lost)
    (br : Breaker) : v.reported n br = none := by
  rcases h with h | h <;> simp [PeerView.reported, h, Liveness.heard]

/-- A peer is known to have its breaker OPEN where it counts as heard and last reported so. -/
theorem PeerView.reported_opened_iff (v : PeerView) (n : Nat) (br : Breaker) : (v.reported n br).map (·.1) = some .opened ↔
    ∃ p x, v.table[n]? = some p ∧ (p.liveness = .current ∨ p.liveness = .stale) ∧ p.reports.get br = some x ∧ x.state = .opened := by
  cases h : v.table[n]? with
  | none =>
    rw [PeerView.reported_of_unheard (by simp [PeerView.entry, h, PeerEntry.unheard])]
    simp
  | some p =>
    by_cases hp : p.liveness = .current ∨ p.liveness = .stale
    · rw [PeerView.reported_of_heard h hp]
      simp [hp]
    · have unheard : p.liveness = .unheard ∨ p.liveness = .lost := by
        cases hl : p.liveness <;> simp_all
      rw [PeerView.reported_of_unheard (by rwa [PeerView.entry_of_some h])]
      simp [hp]

theorem Condition.state_eq_opened (c : Condition) : c.state = .opened ↔ c = .opened := by cases c <;> simp [Condition.state]

theorem Blocks.breakerState_eq_opened_iff (b : Blocks) (br : Breaker) :
    b.breakerState br = some .opened ↔ ∃ r, b.power.breakers.get br = some r ∧ r.condition = some .opened := by
  unfold Blocks.breakerState
  cases b.power.breakers.get br <;> simp [Condition.state_eq_opened]

theorem endOpen_iff {sec : TractionSection} {node : Nat} {br : Breaker} (h : sec.breakerAt node = some br) (e : Env) (b : Blocks) :
    endOpen e b node sec = true ↔
      if node = e.nodeNumber then ∃ r, b.power.breakers.get br = some r ∧ r.condition = some .opened
      else ∃ p x, b.peers.table[node]? = some p ∧ (p.liveness = .current ∨ p.liveness = .stale) ∧ p.reports.get br = some x
        ∧ x.state = .opened := by
  simp only [endOpen, h]
  split
  · rw [decide_eq_true_iff, Blocks.breakerState_eq_opened_iff]
  · rw [decide_eq_true_iff, PeerView.reported_opened_iff]

/-- A report of an item and a change of its record move no breaker and no peer, which are all that `bothOpen` reads. -/
theorem bothOpen_congr {e : Env} {b b' : Blocks} (hp : b'.peers = b.peers) (hb : b'.power = b.power) (sec : TractionSection) :
    bothOpen e b' sec = bothOpen e b sec := by
  have hs : b'.breakerState = b.breakerState := by
    funext br
    rw [Blocks.breakerState, hb]
    rfl
  simp only [bothOpen, endOpen, hs, hp]

/-! ### Frames and reports leave the Incident Table alone -/

/-- Only the Linebus Controller and the reports are other than before. -/
structure BusAlone (b b' : Blocks) : Prop where
  field : b'.field = b.field := by rfl
  power : b'.power = b.power := by rfl
  incidents : b'.incidents = b.incidents := by rfl

theorem BusAlone.refl (b : Blocks) : BusAlone b b where

theorem BusAlone.trans {a b c : Blocks} (h : BusAlone a b) (k : BusAlone b c) : BusAlone a c where
  field := k.field.trans h.field
  power := k.power.trans h.power
  incidents := k.incidents.trans h.incidents

theorem setBus_busAlone (b : Blocks) (l : Linebus) : BusAlone b (b.setBus l) where

theorem dropFrame_busAlone (e : Env) (b : Blocks) (cause : TxDropCause) (f : Frame) : BusAlone b (dropFrame e b cause f) := by
  unfold dropFrame
  dsimp only
  split <;> exact {}

theorem admitFrame_busAlone (e : Env) (b : Blocks) (f : Frame) : BusAlone b (admitFrame e b f) := by
  unfold admitFrame
  split
  · exact setBus_busAlone ..
  · split
    · split
      · exact .trans (.trans (setBus_busAlone ..) (dropFrame_busAlone ..)) (setBus_busAlone ..)
      · exact dropFrame_busAlone ..
    · exact dropFrame_busAlone ..

theorem queueFrame_busAlone (e : Env) (b : Blocks) (f : Frame) : BusAlone b (queueFrame e b f) := by
  unfold queueFrame
  dsimp only
  split
  · exact .refl b
  · split
    · exact .trans (admitFrame_busAlone ..) (setBus_busAlone ..)
    · exact admitFrame_busAlone ..

@[simp] theorem queueFrame_incidents (e : Env) (b : Blocks) (f : Frame) : (queueFrame e b f).incidents = b.incidents :=
  (queueFrame_busAlone e b f).incidents

@[simp] theorem reportIncident_incidents (e : Env) (b : Blocks) (event : IncidentEvent) (id : IncidentId) :
    (reportIncident e b event id).incidents = b.incidents := by
  unfold reportIncident
  split <;> rfl

/-! ### Records found by their id -/

theorem IncidentTable.find_id {i : IncidentTable} {id : IncidentId} {r : Incident} (h : i.find id = some r) : r.id = id := by
  simpa using List.find?_some h

theorem modifyRecord_find_same {b : Blocks} {id : IncidentId} {r : Incident} {f : Incident → Incident} (h : b.incidents.find id = some r)
    (hf : ∀ r, (f r).id = r.id) : (b.modifyRecord id f).incidents.find id = some (f r) := by
  have same : ((fun r : Incident => decide (r.id = id)) ∘ fun r => if r.id = id then f r else r) = fun r => decide (r.id = id) := by
    funext r
    by_cases hr : r.id = id <;> simp [hr, hf]
  have found : b.incidents.records.find? (fun r => decide (r.id = id)) = some r := h
  rw [IncidentTable.find, Blocks.modifyRecord_incidents, List.find?_map, same, found, Option.map_some, if_pos (IncidentTable.find_id h)]

@[simp] theorem Incident.refreshed_id (r : Incident) : r.refreshed.id = r.id := by
  unfold Incident.refreshed
  split <;> rfl

@[simp] theorem Incident.mapOwned_id (r : Incident) (f : Owned → Owned) : (r.mapOwned f).id = r.id := by
  unfold Incident.mapOwned
  split <;> rfl

theorem queueIncidentFrame_find {e : Env} {b : Blocks} {id : IncidentId} {r : Incident} (h : b.incidents.find id = some r)
    (action : IncidentAction) (reason : Option CloseReason) :
    (queueIncidentFrame e b id action reason).incidents.find id = some r.refreshed := by
  simp only [queueIncidentFrame, h]
  exact modifyRecord_find_same (by simpa using h) Incident.refreshed_id

@[simp] theorem soundAlarm_find (b : Blocks) (severity : Nat) (id : IncidentId) :
    (soundAlarm b severity).incidents.find id = b.incidents.find id := by
  unfold soundAlarm
  split <;> rfl

/-- What the regulators and the alarm do of a change moves no record. -/
theorem tellChange_find (e : Env) (b : Blocks) (before after : Nat) (id : IncidentId) :
    (tellChange e b before after).incidents.find id = b.incidents.find id := by
  unfold tellChange
  dsimp only
  split <;> simp [(toldIncident_told e b).incidents]

/-! ### The repeat point of an isolation item (R132, R153) -/

theorem repeatStep_due {e : Env} {b b' : Blocks} {id : IncidentId} {sec : TractionSection} {i : IsolationItem}
    (hi : b.item id sec = some i) (hp : i.state = .pending) (hr : 20 ≤ i.repeats)
    (hb : b' = setItem b id sec (fun i => { i with repeats := 0 })) :
    repeatStep e b id sec =
      if bothOpen e b sec then confirmItem e b' id sec
      else if i.sends < 5 then sendIsolate e b' id sec
      else failItem e b' id sec := by
  have due : repeatDue i = true := by simp [repeatDue, hp, Config.isolationRepeat, hr]
  have same : bothOpen e b' sec = bothOpen e b sec := bothOpen_congr (by simp [hb, setItem]) (by simp [hb, setItem]) sec
  simp only [repeatStep, hi, due, ← hb, same, Config.isolationSends, if_true]

theorem escalate_below_four {e : Env} {b : Blocks} {id : IncidentId} {r : Incident} {o : Owned} (h : b.incidents.find id = some r)
    (ho : r.holding = .owned o) (hf : r.isolationFailed = false) (hs : r.severity ≠ 4) :
    (escalate e b id).incidents.find id =
      some { r with severity := 4, isolationFailed := true, holding := .owned { o with floor := 4, refresh := 0 } } := by
  have own : r.isLocal = true := by simp [Incident.isLocal, ho, Holding.isLocal]
  simp only [escalate, h, own, hf, hs, Bool.false_eq_true, not_false_eq_true, and_self, if_true, if_false]
  rw [tellChange_find, reportIncident_incidents]
  refine (queueIncidentFrame_find (modifyRecord_find_same h fun r => ?_) _ _).trans ?_
  · exact Incident.mapOwned_id r _
  · simp [Incident.mapOwned, ho, Incident.refreshed]

/-- Settles O18: the repeat point takes one of its three turns, and an end or a far-end report is read at its node. -/
theorem isolationRepeatPoint : Obligations.IsolationRepeatPoint := by
  refine ⟨?step, fun e b => ⟨?ends, ?far⟩⟩
  case step =>
    intro e b b' q id sec i hi hp hr hb
    have same : bothOpen e b' sec = bothOpen e b sec := bothOpen_congr (by simp [hb, setItem]) (by simp [hb, setItem]) sec
    simp only [exec_isolateRepeat, repeatStep_due hi hp hr hb]
    refine ⟨fun opened => ?_, fun shut more => ?_, fun shut spent => ?_, fun r o hfind ho => ⟨fun failed => ?_, fun clear four => ?_, ?_⟩⟩
    · simp [opened, confirmItem, same]
    · simp [shut, more, sendIsolate]
    · simp [shut, Nat.not_lt.2 spent, failItem]
    · simp [escalate, hfind, failed]
    · simp [escalate, hfind, clear, four, Incident.isLocal, ho, Holding.isLocal]
    · exact fun clear low => ⟨_, _, escalate_below_four hfind ho clear low, rfl, rfl, rfl, rfl⟩
  case ends =>
    intro sec knownOpen known
    have ends : bothOpen e b sec = true ↔ knownOpen sec.gap sec.track.highBreaker ∧ knownOpen (sec.gap + 1) sec.track.lowBreaker := by
      rw [known, known, bothOpen, Bool.and_eq_true, endOpen_iff (breakerAt_gap sec), endOpen_iff (breakerAt_gap_succ sec)]
    rw [ends]
    cases sec.track <;> rfl
  case far =>
    intro br far n p hmem
    have place : e.farNode br = n ∧ br.far = far := by
      simp only [List.mem_cons, List.not_mem_nil, or_false, Prod.mk.injEq] at hmem
      rcases hmem with ⟨rfl, rfl, rfl⟩ | ⟨rfl, rfl, rfl⟩ | ⟨rfl, rfl, rfl⟩ | ⟨rfl, rfl, rfl⟩ <;> exact ⟨rfl, rfl⟩
    obtain ⟨rfl, rfl⟩ := place
    refine ⟨rfl, fun hp => ⟨fun heard => PeerView.reported_of_heard hp heard _, fun unheard => ?_⟩⟩
    exact PeerView.reported_of_unheard (by rwa [PeerView.entry_of_some hp]) _

end Sys2Proof.Machine

/-! SUPPORT. The checks that every request meets before its owner (R10, R211). -/

namespace Sys2Proof.Machine

/-- Every row of the request table is run by `request` with the row's checks and an owner of its own. -/
theorem exec_requestOf {c : Instr} {r : RequestRow} (h : requestOf c = some r) : ∃ owner : Node → Node × Reply, ∀ n q,
    exec c ⟨n, q⟩ = .next ⟨request n r.channel r.kind r.tag r.payload r.shape r.allowed owner, q⟩ := by
  cases c <;> cases h <;> exact ⟨_, fun _ _ => rfl⟩

section
variable {e : Env} {b : Blocks} {ch : PortChannel} {kind : Nat} {tag : Byte} {p : List Byte}

theorem request_untaken {n : Node} (h : takesRequest n.blk.port (char ch.code) (char kind) tag p = false) (shape : Bool) (a : Allowed)
    (owner : Node → Node × Reply) : request n ch kind tag p shape a owner = n := by
  simp [request, h]

theorem request_full (h : takesRequest b.port (char ch.code) (char kind) tag p = true) (full : 4 ≤ b.port.answers.length) (shape : Bool)
    (a : Allowed) (owner : Node → Node × Reply) : request ⟨e, b⟩ ch kind tag p shape a owner =
      ⟨e, queueReport e (b.setPort { (received b).port with overrun := countUp 65535 b.port.overrun })
        (.requestOverrun (char ch.code) (char kind) tag)⟩ := by
  have full' : (b.setPort b.port.completed).port.answersFull = true := decide_eq_true full
  simp only [request, h, full', if_true]
  rfl

/-- A request that the framer takes with room for its answer is answered as the checks and the owner decide. -/
theorem request_taken (ht : takes b ch kind tag p) (shape : Bool) (a : Allowed) (owner : Node → Node × Reply) :
    request ⟨e, b⟩ ch kind tag p shape a owner =
      queueAnswer (dispatch ⟨e, received b⟩ shape a owner).1 ch tag (dispatch ⟨e, received b⟩ shape a owner).2 := by
  obtain ⟨taken, room⟩ := ht
  have notFull : (b.setPort b.port.completed).port.answersFull = false := decide_eq_false (Nat.not_le.2 room)
  simp only [request, taken, notFull, if_true]
  rfl

theorem request_answered (ht : takes b ch kind tag p) (shape : Bool) (a : Allowed) (owner : Node → Node × Reply) {n : Node} {reply : Reply}
    (hd : dispatch ⟨e, received b⟩ shape a owner = (n, reply)) (q : List Instr) :
    (⟨request ⟨e, b⟩ ch kind tag p shape a owner, q⟩ : State) = answered n.env n.blk q ch tag (char reply.status.code :: reply.fields) := by
  rw [request_taken ht, hd]
  rfl

end

theorem dispatch_badShape (n : Node) (a : Allowed) (owner : Node → Node × Reply) :
    dispatch n false a owner = (n, .plain .range) := by simp [dispatch]

theorem dispatch_badState {n : Node} {a : Allowed} (h : a.permits n.env.nodeState = false) (owner : Node → Node × Reply) :
    dispatch n true a owner = (n, .plain .state) := by simp [dispatch, h]

/-- Settles O44: the row gives `request` its checks, which stand in the order overrun, shape, node state. -/
theorem requestsAreCheckedInOrder : Obligations.RequestsAreCheckedInOrder := by
  intro c r e b q hc
  obtain ⟨owner, run⟩ := exec_requestOf hc
  simp only [run, Host.Outcome.next.injEq]
  refine ⟨fun untaken => ?_, fun taken full => ?_, fun ht => ⟨fun bad => ?_, fun good notNow => ?_, ?_⟩⟩
  · rw [request_untaken untaken]
  · rw [request_full taken full]
  · rw [bad]
    exact request_answered ht _ _ _ (dispatch_badShape _ _ _) q
  · rw [good]
    exact request_answered ht _ _ _ (dispatch_badState notNow _) q
  · exact ⟨_, _, _, request_answered ht _ _ _ rfl q⟩

end Sys2Proof.Machine

/-! SUPPORT. One accepted rise that waits, records that are closed, and the two ends of a day (R12, R13). -/

namespace Sys2Proof.Machine

/-! ### A single accepted change (R16, R19, R20) -/

theorem deliverOccupancy_of_none (e : Env) {b : Blocks} {t : Track} (h : b.field.waiting.occupancy.get t = none) :
    deliverOccupancy e b t = b := by
  simp [deliverOccupancy, occupancyRise, occupancyFall, h]

/-- The platform regulator of a lone accepted rise meets it, and nothing else is delivered. -/
theorem deliverAll_of_lone_rise {e : Env} {b b' : Blocks} {t : Track} {stamp : Nat} (hc : e.configured = true)
    (hw : b.field.waiting = { Deliveries.empty with occupancy := Deliveries.empty.occupancy.set t (some ⟨true, stamp⟩) })
    (hb : arrive e (sentOccupancy b t) t stamp = b') (hb' : b'.field.waiting = .empty) : deliverAll e b = b' := by
  have idle (u : Track) : deliverOccupancy e b' u = b' :=
    deliverOccupancy_of_none e (by rw [hb']; cases u <;> rfl)
  have other (u : Track) (hu : u ≠ t) : deliverOccupancy e b u = b :=
    deliverOccupancy_of_none e (by
      simp only [hw, PerTrack.get_set, if_neg hu]
      cases u <;> rfl)
  have here : deliverOccupancy e b t = b' := by
    have rise : occupancyRise e b t = b' := by simp [occupancyRise, hw, hc, hb]
    have fall : occupancyFall e b' t = b' := by cases t <;> simp [occupancyFall, hb', Deliveries.empty, PerTrack.get]
    rw [deliverOccupancy, rise, fall]
  have met : allTracks.foldl (deliverOccupancy e) b = allTracks.foldl (deliverOccupancy e) b' := by
    cases t <;> simp [allTracks, here, other, idle]
  calc deliverAll e b = deliverAll e b' := by simp only [deliverAll, met]
    _ = b' := deliverAll_of_none_waiting e b' hb'

/-! ### An arrival stands at its platform and delivers nothing else -/

/-- What the inputs have accepted and where their filters stand is as before. -/
structure InputsKept (b b' : Blocks) : Prop where
  waiting : b'.field.waiting = b.field.waiting := by rfl
  filters : b'.field.filters = b.field.filters := by rfl

theorem InputsKept.refl (b : Blocks) : InputsKept b b where

theorem InputsKept.trans {a b c : Blocks} (h : InputsKept a b) (k : InputsKept b c) : InputsKept a c where
  waiting := k.waiting.trans h.waiting
  filters := k.filters.trans h.filters

theorem Keeps.inputs {b b' : Blocks} (h : Keeps b b') : InputsKept b b' := ⟨h.delivered, h.filters⟩

theorem Sheds.inputs {e : Env} {b b' : Blocks} (h : Sheds e b b') : InputsKept b b' := h.keeps.inputs

theorem Told.inputs {b b' : Blocks} (h : Told b b') : InputsKept b b' := ⟨h.delivered, h.filters⟩

theorem stallCheck_inputs (e : Env) (b : Blocks) (t : Track) : InputsKept b (stallCheck e b t) := by
  unfold stallCheck
  split
  · split
    · exact .trans (raiseIncident_keeps ..).inputs {}
    · exact .refl b
  · exact .refl b

theorem takeHead_inputs (e : Env) (b : Blocks) (t : Track) (a : Approach) (rest : List Approach) :
    InputsKept b (takeHead e b t a rest) :=
  .trans (b := b.setApproach t rest) {} (.trans (closeOwned_sheds e ..).inputs (stallCheck_inputs ..))

theorem describeError_inputs (e : Env) (b : Blocks) (t : Track) (trip : Nat) : InputsKept b (describeError e b t trip) := by
  unfold describeError
  split
  · exact .refl b
  · exact (raiseIncident_keeps ..).inputs

theorem matchArrival_inputs (e : Env) (b : Blocks) (t : Track) : InputsKept b (matchArrival e b t).1 := by
  unfold matchArrival
  split
  · dsimp only
    split
    · exact .trans (takeHead_inputs ..) {}
    · exact takeHead_inputs ..
  · dsimp only
    have used : InputsKept b (match cursor (b.timetable.sequences.get t) with
        | some x => b.setSequence t (useTrip (b.timetable.sequences.get t) x.trip).1
        | none => b) := by
      split <;> exact {}
    split
    · exact used
    · exact used.trans (describeError_inputs ..)

theorem watchHeld_occupied (e : Env) {b : Blocks} {t : Track} (h : (b.platforms.get t).standing ≠ .vacant) :
    ((watchHeld e b t).platforms.get t).standing ≠ .vacant := by
  unfold watchHeld
  split
  · split
    · rw [(offerHeld_announced ..).platforms]
      simp
    · exact h
  · exact h

theorem releaseCheck_occupied (e : Env) (b : Blocks) (t : Track) (d : Dwell) :
    ((releaseCheck e b t d).platforms.get t).standing ≠ .vacant := by
  unfold releaseCheck
  dsimp only
  split
  · simp [enterReleased, reportSet]
  · exact watchHeld_occupied e (by simp [reportSet])

/-- An arrival in SERVICE writes the dwell of the train it matched, reports it, and checks its release where the target has passed. -/
theorem regulatedArrival_eq (e : Env) (b : Blocks) (t : Track) (stamp : Nat) : ∃ (d d' : Dwell) (r : ReportBody) (b' : Blocks),
    b' = queueReport e (writeDwell (matchArrival e b t).1 t .dwell d) r ∧
      regulatedArrival e b t stamp = if e.passed d.target then releaseCheck e b' t d' else b' := ⟨_, _, _, _, rfl, rfl⟩

/-- A train that arrives in SERVICE stands at its platform, and no other input's change is delivered by it. -/
theorem regulatedArrival_stands (e : Env) (b : Blocks) (t : Track) (stamp : Nat) :
    ((regulatedArrival e b t stamp).platforms.get t).standing ≠ .vacant
      ∧ InputsKept b (regulatedArrival e b t stamp) := by
  obtain ⟨d, d', r, b', rfl, eq⟩ := regulatedArrival_eq e b t stamp
  generalize hb' : queueReport e (writeDwell (matchArrival e b t).1 t .dwell d) r = b' at eq
  have occupied : (b'.platforms.get t).standing ≠ .vacant := by simp [← hb']
  have inputs : InputsKept b b' := by
    subst hb'
    exact .trans (matchArrival_inputs e b t) {}
  rw [eq]
  split
  · exact ⟨releaseCheck_occupied _ _ _ _, inputs.trans (releaseCheck_told e _ occupied).inputs⟩
  · exact ⟨occupied, inputs⟩

/-- A lone rise accepted at a vacant platform in SERVICE leaves it occupied. -/
theorem lone_rise_occupies {e : Env} {b : Blocks} {t : Track} {stamp : Nat} (hs : e.nodeState = .service)
    (hv : (b.platforms.get t).standing = .vacant)
    (hw : b.field.waiting = { Deliveries.empty with occupancy := Deliveries.empty.occupancy.set t (some ⟨true, stamp⟩) }) :
    ((deliverAll e b).platforms.get t).standing ≠ .vacant := by
  have arrives : arrive e (sentOccupancy b t) t stamp = regulatedArrival e (sentOccupancy b t) t stamp := by
    simp [arrive, sentOccupancy, hv, hs]
  obtain ⟨stands, inputs⟩ := regulatedArrival_stands e (sentOccupancy b t) t stamp
  have sent : (sentOccupancy b t).field.waiting = .empty := by
    cases t <;> simp [sentOccupancy, hw, Deliveries.empty, PerTrack.set]
  rw [deliverAll_of_lone_rise (by simp [Env.configured, hs]) hw arrives (inputs.waiting.trans sent)]
  exact stands

/-! ### Records that are closed together (R155, R167) -/

/-- No record of an id stands in the table. -/
def Blocks.lacks (b : Blocks) (id : IncidentId) : Prop := ∀ r ∈ b.incidents.records, r.id ≠ id

theorem RecordsFrom.lacks {b b' : Blocks} (h : RecordsFrom b b') {id : IncidentId} (hb : b.lacks id) : b'.lacks id := by
  intro r' hr'
  obtain ⟨r, hr, stands⟩ := h.mem hr'
  rw [stands.id_eq]
  exact hb r hr

theorem lacks_of_find_none {b : Blocks} {id : IncidentId} (h : b.incidents.find id = none) : b.lacks id := by
  intro r hr
  simpa using List.find?_eq_none.1 h r hr

theorem leaveTable_lacks (b : Blocks) (id : IncidentId) : (leaveTable b id).lacks id := by
  intro r hr
  simpa using List.of_mem_filter hr

theorem removeCopy_lacks (e : Env) (b : Blocks) (id : IncidentId) : (removeCopy e b id).lacks id :=
  (tellDeparture_sheds e _ id).records.lacks (leaveTable_lacks b id)

theorem closeRecord_lacks (e : Env) (b : Blocks) (r : Incident) (reason : CloseReason) : (closeRecord e b r reason).lacks r.id :=
  (queueReport_sheds e e _ _).records.lacks (removeCopy_lacks _ _ _)

/-- A fold whose every step sheds and leaves no record of its id leaves none of any id it goes through. -/
theorem foldl_lacks {e : Env} {f : Blocks → IncidentId → Blocks} (hf : ∀ b id, Sheds e b (f b id)) (hl : ∀ b id, (f b id).lacks id)
    (l : List IncidentId) : ∀ b, ∀ id ∈ l, (l.foldl f b).lacks id := by
  induction l with
  | nil => simp
  | cons id l ih =>
    intro b i hi
    rcases List.mem_cons.1 hi with rfl | hi
    · exact (Sheds.foldl hf l _).records.lacks (hl b i)
    · exact ih _ i hi

/-- After `closeWhere` no local record meets the condition, which may not depend on what a record counts. -/
theorem closeWhere_leaves {e : Env} {b : Blocks} {p : Incident → Bool} {reason : CloseReason}
    (hp : ∀ r r' : Incident, r.StandsOn r' → p r' = p r) :
    ∀ r ∈ (closeWhere e b p reason).incidents.records, r.isLocal = true → p r = false := by
  intro r' hr' hl
  obtain ⟨r, hr, stands⟩ := (closeWhere_sheds e b p reason).records.mem hr'
  refine Bool.eq_false_iff.2 fun hpr => ?_
  refine foldl_lacks (e := e) (fun b id => ?_) (fun b id => ?_) _ b r.id ?_ r' hr' stands.id_eq
  · split
    · exact closeRecord_sheds ..
    · exact .refl e b
  · split
    case h_1 r h => exact IncidentTable.find_id h ▸ closeRecord_lacks _ _ _ _
    case h_2 h => exact lacks_of_find_none h
  · refine List.mem_map_of_mem (List.mem_filter.2 ⟨hr, ?_⟩)
    rw [← stands.isLocal, ← hp r r' stands, hl, hpr]
    rfl

theorem Incident.StandsOn.kind_eq {r r' : Incident} (h : r.StandsOn r') : r'.kind = r.kind := by
  rcases h with rfl | ⟨o, o', ho, rfl⟩ <;> rfl

/-! ### A vacant platform (R88) -/

theorem Spares.platform_of_vacant {b b' : Blocks} (h : Spares b b') {t : Track} (hv : (b.platforms.get t).standing = .vacant) :
    b'.platforms.get t = b.platforms.get t := by
  rw [h.platform t, h.vacant t hv, ← hv]

/-! ### DAY START (R12, R58, R113, R128) -/

/-- What DAY START does to the blocks once the due marks are set. -/
def startedDay (e : Env) (b : Blocks) : Blocks :=
  allTracks.foldl (suspendAgain e) (emptyStarts e (allTracks.foldl forgetDeparture b))

@[simp] theorem forgetDeparture_platforms (b : Blocks) (t : Track) :
    (allTracks.foldl forgetDeparture b).platforms.get t = { b.platforms.get t with lastDeparture := none } := by cases t <;> rfl

/-- The regulators told of the starts, and the SUSPEND offers after them, leave all but the standings of occupied platforms. -/
theorem startedDay_from (e : Env) (b : Blocks) : ∃ c : Blocks,
    Told { allTracks.foldl forgetDeparture b with peers := { b.peers with starts := b.peers.starts.map fun _ => .absent } } c
      ∧ Announced c (startedDay e b) :=
  ⟨_, toldStarts_told .., Announced.foldl (fun _ _ => suspendAgain_announced ..) _ _⟩

theorem dayStart_unloaded {n : Node} (h : n.blk.timetable.load ≠ .loaded) (day start : Nat) :
    dayStart n day start = (n, .plain .noTimetable) := by
  cases hl : n.blk.timetable.load <;> simp [dayStart, hl] at h ⊢

theorem dayStart_above {n : Node} (h : n.blk.timetable.load = .loaded) {start : Nat} (hs : 1048575 < start) (day : Nat) :
    dayStart n day start = (n, .plain .range) := by
  simp [dayStart, h, Config.serviceTimeMax, hs]

theorem dayStart_taken {n : Node} {e : Env} {day start : Nat} (h : n.blk.timetable.load = .loaded) (hs : start ≤ 1048575)
    (he : e = { n.env with
      nodeState := .service
      time := { n.env.time with service := start, day := day, overrun := decide (start = 1048575) } }) :
    ∃ b, Announced n.blk b ∧ dayStart n day start = (⟨e, startedDay e b⟩, .plain .ok) := by
  have limit : Config.serviceTimeMax = 1048575 := rfl
  have atLimit : decide (Config.serviceTimeMax ≤ start) = decide (start = 1048575) := by rw [decide_eq_decide]; omega
  have below : ¬ Config.serviceTimeMax < start := Nat.not_lt.2 hs
  refine ⟨?_, ?announced, ?eq⟩
  case eq =>
    rw [he, ← atLimit]
    simp only [dayStart, h, if_neg below]
    rfl
  case announced => exact .trans (.ite _ (queueReport_announced ..)) (setAnnounce_announced _ _ rfl)

/-! ### DAY END (R13, R86, R113, R167) -/

/-- What DAY END closes, with the timetable emptied and the queues cleared. -/
def endedDay (e : Env) (b : Blocks) : Blocks :=
  closeWhere e (allTracks.foldl (clearQueue e) (emptyTimetable b .empty)) (fun r => r.kind.endsWithDay) .dayEnd

theorem clearQueue_sheds (e : Env) (b : Blocks) (t : Track) : Sheds e (b.setApproach t []) (clearQueue e b t) :=
  Sheds.foldl (fun _ _ => closeOwned_sheds ..) _ _

theorem dayEnd_busy {n : Node} {t : Track} (h : (n.delivered.blk.platforms.get t).standing ≠ .vacant) :
    dayEnd n = (n.delivered, .plain .platformBusy) := by
  unfold dayEnd
  dsimp only
  refine if_neg fun hv => h ?_
  cases t
  · exact hv.1
  · exact hv.2

theorem dayEnd_taken {n : Node} (h : ∀ t, (n.delivered.blk.platforms.get t).standing = .vacant) {e : Env}
    (he : e = { n.env with nodeState := .ready }) :
    dayEnd n = (⟨e, allTracks.foldl forgetDelay (endedDay e n.delivered.blk)⟩, .plain .ok) := by
  subst he
  exact if_pos ⟨h .up, h .down⟩

/-- What a DAY END that is taken leaves, between the emptied timetable and the queues that are cleared one after the other. -/
structure DayEnded (b b' : Blocks) : Prop where
  timetable : b'.timetable = { sequences := ⟨[], []⟩, load := .empty, lastPart := none }
  describer : ∀ t, b'.describer.get t = []
  platform : ∀ t, (b.platforms.get t).standing = .vacant → b'.platforms.get t = b.platforms.get t
  records : RecordsFrom b b'
  peers : b'.peers = b.peers

theorem endedDay_dayEnded (e : Env) (b : Blocks) (hv : ∀ t, (b.platforms.get t).standing = .vacant) : DayEnded b (endedDay e b) := by
  have up := clearQueue_sheds e (emptyTimetable b .empty) .up
  have down := (clearQueue_sheds e (clearQueue e (emptyTimetable b .empty) .up) .down).trans
    (closeWhere_sheds e _ (fun r => r.kind.endsWithDay) .dayEnd)
  have vacantUp (t : Track) : ((clearQueue e (emptyTimetable b .empty) .up).platforms.get t).standing = .vacant := up.vacant t (hv t)
  exact
    { timetable := down.timetable.trans up.timetable
      describer := fun t => by
        have queues : (endedDay e b).describer = (((emptyTimetable b .empty).describer.set .up []).set .down []) :=
          down.describer.trans (congrArg (·.set .down []) up.describer)
        rw [queues]
        cases t <;> simp
      platform := fun t _ => (down.spares.platform_of_vacant (vacantUp t)).trans (up.spares.platform_of_vacant (hv t))
      records := up.records.trans down.records
      peers := down.peers.trans up.peers }

theorem endedDay_leaves (e : Env) (b : Blocks) : ∀ r ∈ (endedDay e b).incidents.records, r.isLocal = true → r.kind.endsWithDay = false :=
  closeWhere_leaves fun _ _ h => by rw [h.kind_eq]

@[simp] theorem forgetDelays_platform (b : Blocks) (t : Track) :
    (allTracks.foldl forgetDelay b).platforms.get t = { b.platforms.get t with delayId := none } := by cases t <;> rfl

theorem forgetDelays_incidents (b : Blocks) : (allTracks.foldl forgetDelay b).incidents = b.incidents := rfl

/-- What the obligation reads of the platforms once the DELAY ids are cleared; the timetable, the queues and the peers stay. -/
theorem DayEnded.forgetDelays {b c : Blocks} (h : DayEnded b c) (hv : ∀ t, (b.platforms.get t).standing = .vacant) :
    (allTracks.foldl forgetDelay c).timetable = { sequences := ⟨[], []⟩, load := .empty, lastPart := none }
      ∧ (∀ t, (allTracks.foldl forgetDelay c).describer.get t = []
        ∧ ((allTracks.foldl forgetDelay c).platforms.get t).standing = .vacant
        ∧ ((allTracks.foldl forgetDelay c).platforms.get t).delayId = none
        ∧ ((allTracks.foldl forgetDelay c).platforms.get t).lastDeparture = (b.platforms.get t).lastDeparture)
      ∧ (allTracks.foldl forgetDelay c).peers = b.peers := by
  refine ⟨h.timetable, fun t => ⟨h.describer t, ?_⟩, h.peers⟩
  rw [forgetDelays_platform, h.platform t (hv t)]
  exact ⟨hv t, rfl, rfl⟩

theorem IncidentKind.endsWithDay_eq_false {k : IncidentKind} (h : k.endsWithDay = false) :
    k ≠ .delay ∧ k ≠ .trainStalled ∧ k ≠ .descriptionError := by
  cases k <;> simp [IncidentKind.endsWithDay] at h ⊢

/-! ### The requests -/

theorem dispatch_good {n : Node} {a : Allowed} (h : a.permits n.env.nodeState = true) (owner : Node → Node × Reply) :
    dispatch n true a owner = owner n := by simp [dispatch, h]

section
variable {e : Env} {b : Blocks} {q : List Instr} {tag : Byte}

theorem exec_dayStart_answered {d1 d2 s1 s2 s3 : Byte} {n : Node} {reply : Reply} (ht : takes b .node 2 tag [d1, d2, s1, s2, s3])
    (hs : e.nodeState = .ready)
    (hd : dayStart ⟨e, received b⟩ (d1.toNat * 256 + d2.toNat) (s1.toNat * 65536 + s2.toNat * 256 + s3.toNat) = (n, reply)) :
    exec (.dayStart tag [d1, d2, s1, s2, s3]) ⟨⟨e, b⟩, q⟩ =
      .next (answered n.env n.blk q .node tag (char reply.status.code :: reply.fields)) := by
  have day : field [d1, d2, s1, s2, s3] 0 2 = d1.toNat * 256 + d2.toNat := by simp [field, fieldChars, num]
  have start : field [d1, d2, s1, s2, s3] 2 3 = s1.toNat * 65536 + s2.toNat * 256 + s3.toNat := by
    simp only [field, fieldChars, num, List.drop, List.take, List.foldl]
    omega
  rw [exec_dayStart, day, start]
  refine congrArg _ (request_answered ht _ _ _ ?_ q)
  exact (dispatch_good (by rw [hs]; rfl) _).trans hd

theorem exec_dayEnd_answered {n : Node} {reply : Reply} (ht : takes b .node 3 tag []) (hs : e.nodeState = .service)
    (hd : dayEnd ⟨e, received b⟩ = (n, reply)) :
    exec (.dayEnd tag []) ⟨⟨e, b⟩, q⟩ = .next (answered n.env n.blk q .node tag (char reply.status.code :: reply.fields)) := by
  rw [exec_dayEnd]
  refine congrArg _ (request_answered ht _ _ _ ?_ q)
  exact (dispatch_good (by rw [hs]; rfl) _).trans hd

end

/-- Settles O46: DAY START through what `startedDay` leaves, DAY END through what `endedDay` leaves. -/
theorem dayStartAndEnd : Obligations.DayStartAndEnd := by
  intro e b q tag
  refine ⟨fun d1 d2 s1 s2 s3 start ht hs hstart => ⟨fun unloaded => ?_, fun loaded above => ?_, fun loaded within => ?start⟩,
    fun ht hs x hx => ⟨fun ⟨t, busy⟩ => ?_, fun t stamp vacant lone => ?_, fun vacant => ?taken⟩⟩
  · exact exec_dayStart_answered ht hs (dayStart_unloaded unloaded _ _)
  · subst hstart
    exact exec_dayStart_answered ht hs (dayStart_above loaded above _)
  case start =>
    subst hstart
    obtain ⟨b₀, announced, taken⟩ := dayStart_taken (n := ⟨e, received b⟩) (day := d1.toNat * 256 + d2.toNat) loaded within rfl
    refine ⟨_, exec_dayStart_answered ht hs taken, ?_⟩
    obtain ⟨c, told, offered⟩ := startedDay_from _ b₀
    refine ⟨fun t => ?_, fun i s hi => ?_, ?_, ?_, ?_, ?_, ?_⟩
    · rw [offered.platforms, told.platform t]
      simp [announced.platforms, received]
    · rw [offered.peers, told.peers] at hi
      simp only [List.getElem?_map, Option.map_eq_some_iff] at hi
      obtain ⟨-, -, rfl⟩ := hi
      rfl
    · rw [offered.timetable, told.timetable]
      exact announced.timetable
    · rw [offered.describer, told.describer]
      exact announced.describer
    · rw [offered.peers, told.peers]
      exact (congrArg PeerView.table announced.peers : b₀.peers.table = b.peers.table)
    · rw [offered.power, told.power]
      exact announced.power
    · rw [offered.incidents, told.incidents]
      exact announced.incidents
  · subst hx
    exact exec_dayEnd_answered ht hs (dayEnd_busy (n := ⟨e, received b⟩) busy)
  · subst hx
    exact exec_dayEnd_answered ht hs (dayEnd_busy (n := ⟨e, received b⟩) (lone_rise_occupies hs vacant lone))
  case taken =>
    subst hx
    refine ⟨_, exec_dayEnd_answered ht hs (dayEnd_taken (n := ⟨e, received b⟩) vacant rfl), ?_⟩
    have ended := endedDay_dayEnded { e with nodeState := .ready } _ vacant
    obtain ⟨timetable, platform, peers⟩ := ended.forgetDelays vacant
    refine ⟨timetable, platform, fun r hr hl => ?_, fun r hr => ?_, peers⟩
    · exact IncidentKind.endsWithDay_eq_false (endedDay_leaves _ _ r (forgetDelays_incidents _ ▸ hr) hl)
    · obtain ⟨s, hs, stands⟩ := ended.records.mem (forgetDelays_incidents _ ▸ hr)
      exact ⟨s, hs, stands.id_eq.symm⟩

end Sys2Proof.Machine

/-! SUPPORT. The fields of a CONFIGURE: where each is read, how it is held, and the numbers of those that clamping changed (R218, R219). -/

namespace Sys2Proof.Machine

/-! ### The fields in their places (R218) -/

theorem readConfig_template {p : List Byte} {i : Nat} {x : RawTemplate} (h : (readConfig p).templates[i]? = some x) :
    i < 6 ∧ x = fieldTemplate p (34 + 10 * i) := by
  obtain ⟨y, hy, rfl⟩ := Option.map_eq_some_iff.1 ((List.getElem?_map ..).symm.trans h)
  obtain ⟨hi, rfl⟩ := List.getElem?_eq_some_iff.1 hy
  simp only [List.length_range] at hi
  simp [hi]

theorem fieldTemplate_slots {p : List Byte} {i j : Nat} (hj : j < 3) :
    (fieldTemplate p (34 + 10 * i)).slots[2 * j]? = some (field p (35 + 10 * i + 3 * j) 3 / 4096)
      ∧ (fieldTemplate p (34 + 10 * i)).slots[2 * j + 1]? = some (field p (35 + 10 * i + 3 * j) 3 % 4096) := by
  obtain rfl | rfl | rfl : j = 0 ∨ j = 1 ∨ j = 2 := by omega
  · rw [show 35 + 10 * i + 3 * 0 = 34 + 10 * i + 1 by omega]
    exact ⟨rfl, rfl⟩
  · rw [show 35 + 10 * i + 3 * 1 = 34 + 10 * i + 4 by omega]
    exact ⟨rfl, rfl⟩
  · rw [show 35 + 10 * i + 3 * 2 = 34 + 10 * i + 7 by omega]
    exact ⟨rfl, rfl⟩

/-! ### Clamping (R219) -/

theorem clamp_eq (lo hi v : Nat) : clamp lo hi v = min (max v lo) hi := rfl

theorem clamp_zero (hi v : Nat) : clamp 0 hi v = min v hi := by simp [clamp]

/-- A count is changed by clamping where it stands outside 1 to 6. -/
theorem ne_clamp_iff {lo hi : Nat} (h : lo ≤ hi) (v : Nat) : v ≠ clamp lo hi v ↔ v < lo ∨ hi < v := by
  rw [clamp_eq]
  omega

theorem RawConfig.held_platform (r : RawConfig) (t : Track) : r.held.platforms.get t = (r.platforms.get t).clamped := by cases t <;> rfl

/-! ### The numbers of the changed fields (R219) -/

/-- Of a list that keeps at most the image of each element, what is kept stands in the order of the images. -/
theorem filterMap_sublist_map {α β : Type} {f : α → Option β} {g : α → β} (h : ∀ a b, f a = some b → b = g a) (l : List α) :
    (l.filterMap f).Sublist (l.map g) := by
  induction l with
  | nil => exact .slnil
  | cons a l ih =>
    cases hf : f a with
    | none => simpa [List.filterMap_cons, hf] using ih.cons (g a)
    | some b => simpa [List.filterMap_cons, hf, h a b hf] using ih

theorem ite_sublist {α : Type} (p : Prop) [Decidable p] (l : List α) : (if p then l else []).Sublist l := by
  split
  · exact .refl l
  · exact List.nil_sublist l

theorem mem_ite_singleton (p : Prop) [Decidable p] (n k : Nat) : n ∈ (if p then [k] else []) ↔ n = k ∧ p := by
  split <;> simp [*]

theorem PlatformConfig.changed_sublist (c : PlatformConfig) (first : Nat) : (c.changed first).Sublist ((List.range 8).map (first + ·)) := by
  refine filterMap_sublist_map (g := fun x : Nat × Bool => first + x.1) (fun x n hx => ?_) _
  split at hx
  · exact (Option.some.inj hx).symm
  · cases hx

theorem PlatformConfig.mem_changed (c : PlatformConfig) (first n : Nat) : n ∈ c.changed first ↔
    n = first ∧ c.wmin ≠ c.clamped.wmin ∨ n = first + 1 ∧ c.wmax ≠ c.clamped.wmax ∨ n = first + 2 ∧ c.rup ≠ c.clamped.rup
      ∨ n = first + 3 ∧ c.gain ≠ c.clamped.gain ∨ n = first + 4 ∧ c.stagger ≠ c.clamped.stagger
      ∨ n = first + 5 ∧ c.ldelay ≠ c.clamped.ldelay ∨ n = first + 6 ∧ c.stallMargin ≠ c.clamped.stallMargin
      ∨ n = first + 7 ∧ c.hdefault ≠ c.clamped.hdefault := by
  have numbers : List.range 8 = [0, 1, 2, 3, 4, 5, 6, 7] := rfl
  simp only [PlatformConfig.changed, numbers, List.zip_cons_cons, List.zip_nil_right, List.mem_filterMap, List.mem_cons,
    List.not_mem_nil, or_false, exists_eq_or_imp, exists_eq_left, Option.ite_none_right_eq_some, Option.some.injEq, decide_eq_true_eq,
    Nat.add_zero, eq_comm (b := n), and_comm (b := n = _)]

theorem RawConfig.changed_pairwise (r : RawConfig) : r.changed.Pairwise (· < ·) := by
  have ordered : ([2] ++ [3] ++ [4] ++ (List.range 8).map (5 + ·) ++ (List.range 8).map (13 + ·) ++ (List.range 6).map (21 + ·)
      ++ [27]).Pairwise (· < ·) := by decide
  refine ordered.sublist ?_
  unfold RawConfig.changed
  refine .append (.append (.append (.append (.append (.append ?_ ?_) ?_) ?_) ?_) ?_) ?_
  case refine_6 =>
    refine filterMap_sublist_map (fun i n hi => ?_) _
    obtain ⟨x, -, hx⟩ := Option.bind_eq_some_iff.1 hi
    split at hx
    · exact (Option.some.inj hx).symm
    · cases hx
  case refine_4 => exact PlatformConfig.changed_sublist ..
  case refine_5 => exact PlatformConfig.changed_sublist ..
  all_goals exact ite_sublist _ _

theorem mem_changed_templates {l : List RawTemplate} (hl : l.length = 6) (n : Nat) :
    n ∈ (List.range 6).filterMap (fun i => (l[i]?).bind fun t => if t.count ≠ clamp 1 6 t.count then some (21 + i) else none) ↔
      ∃ (i : Nat) (x : RawTemplate), l[i]? = some x ∧ n = 21 + i ∧ (x.count < 1 ∨ 6 < x.count) := by
  simp only [List.mem_filterMap, Option.bind_eq_some_iff, ne_clamp_iff (show 1 ≤ 6 by decide), Option.ite_none_right_eq_some,
    Option.some.injEq, List.mem_range]
  constructor
  · rintro ⟨i, -, x, hx, hc, rfl⟩
    exact ⟨i, x, hx, rfl, hc⟩
  · rintro ⟨i, x, hx, rfl, hc⟩
    exact ⟨i, hl ▸ (List.getElem?_eq_some_iff.1 hx).1, x, hx, hc, rfl⟩

theorem RawConfig.mem_changed {r : RawConfig} (hl : r.templates.length = 6) (n : Nat) : n ∈ r.changed ↔
    n = 2 ∧ r.timeLimit ≠ r.held.timeLimit ∨ n = 3 ∧ r.occupancyFilter ≠ r.held.occupancyFilter
      ∨ n = 4 ∧ r.channelCount ≠ r.held.channelCount ∨ n ∈ r.platforms.up.changed 5 ∨ n ∈ r.platforms.down.changed 13
      ∨ (∃ (i : Nat) (x : RawTemplate), r.templates[i]? = some x ∧ n = 21 + i ∧ (x.count < 1 ∨ 6 < x.count))
      ∨ n = 27 ∧ r.numberBase ≠ r.held.numberBase := by
  simp only [RawConfig.changed, List.mem_append, mem_ite_singleton, mem_changed_templates hl, or_assoc]
  rfl

end Sys2Proof.Machine

/-! SUPPORT. The records a raise leaves, and NODE_LOST at the neighbours that stand LOST (R57, R62, R147, R149). -/

namespace Sys2Proof.Machine

/-! ### Calm: what neither fails a breaker nor announces -/

/-- Besides `Keeps`: breakers ease and a still node stays so; records may enter. -/
structure Calm (e : Env) (b b' : Blocks) : Prop extends Keeps b b' where
  breakers : BreakersEase b b'
  still : Still e b → StaysQuiet b b'

theorem Calm.keeps {e : Env} {b b' : Blocks} (h : Calm e b b') : Keeps b b' := h.toKeeps

theorem Sheds.calm {e : Env} {b b' : Blocks} (h : Sheds e b b') : Calm e b b' where
  toKeeps := h.keeps
  breakers := h.breakers
  still := h.still

theorem Calm.refl (e : Env) (b : Blocks) : Calm e b b := (Sheds.refl e b).calm

theorem Calm.trans {e : Env} {a b c : Blocks} (h : Calm e a b) (k : Calm e b c) : Calm e a c where
  toKeeps := h.keeps.trans k.keeps
  breakers := h.breakers.trans k.breakers
  still hs := (h.still hs).trans (k.still (hs.after h.keeps (h.still hs).announce))

theorem setIncidents_calm (e : Env) (b : Blocks) (i : IncidentTable) (h : i.alarm = b.incidents.alarm) : Calm e b (b.setIncidents i) where
  toKeeps := setIncidents_keeps b i h
  breakers := .of_eq rfl
  still _ := ⟨rfl, rfl, rfl, fun _ _ h => h⟩

theorem soundAlarm_calm (e : Env) (b : Blocks) (severity : Nat) : Calm e b (soundAlarm b severity) where
  toKeeps := soundAlarm_keeps b severity
  breakers := by unfold soundAlarm; split <;> exact .of_eq rfl
  still _ := by unfold soundAlarm; split <;> exact ⟨rfl, rfl, rfl, fun _ _ h => h⟩

theorem mem_fillFirst {h x : Holder} {l : List (Option Holder)} (hm : some x ∈ fillFirst h l) : x = h ∨ some x ∈ l := by
  induction l with
  | nil => cases hm
  | cons y l ih =>
    cases y with
    | none => simpa [fillFirst] using hm
    | some y =>
      simp only [fillFirst, List.mem_cons] at hm ⊢
      rcases hm with hm | hm
      · exact .inr (.inl hm)
      · exact (ih hm).imp_right .inr

theorem enterRecord_calm (e : Env) (b : Blocks) (r : Incident) : Calm e b (enterRecord b r) := by
  have granted (b : Blocks) (id : IncidentId) : Calm e b (b.setStore (b.store.grantIncident id)) :=
    { toKeeps := (setStore_announced ..).keeps
      breakers := .of_eq rfl
      still := fun _ => ⟨rfl, rfl, rfl, fun id part hm => (mem_fillFirst hm).resolve_left (by simp)⟩ }
  exact .trans (setIncidents_calm e b _ (by rfl)) (granted _ _)

/-! ### The records a raise leaves (R149) -/

/-- The record of an id with its refresh count started again, any other as it is. -/
def refreshedAt (id : IncidentId) (r : Incident) : Incident := if r.id = id then r.refreshed else r

theorem refreshedAt_standsOn (id : IncidentId) (r : Incident) : r.StandsOn (refreshedAt id r) := by
  unfold refreshedAt
  split
  · exact r.refreshed_standsOn
  · exact .inl rfl

theorem queueIncidentFrame_records {e : Env} {b : Blocks} {id : IncidentId} (h : ¬ b.lacks id) (action : IncidentAction)
    (reason : Option CloseReason) :
    (queueIncidentFrame e b id action reason).incidents.records = b.incidents.records.map (refreshedAt id) := by
  cases hf : b.incidents.find id with
  | none => exact absurd (lacks_of_find_none hf) h
  | some r =>
    simp only [queueIncidentFrame, hf, Blocks.modifyRecord_incidents, queueFrame_incidents]
    rfl

theorem soundAlarm_records (b : Blocks) (severity : Nat) : (soundAlarm b severity).incidents.records = b.incidents.records := by
  unfold soundAlarm
  split <;> rfl

theorem tellEntry_records (e : Env) (b : Blocks) (r : Incident) (lateness : Option Nat) :
    (tellEntry e b r lateness).incidents.records = b.incidents.records := by
  rw [tellEntry, (offerForIncident_announced ..).incidents, soundAlarm_records, (toldIncident_told ..).incidents]

/-- The serial a raise takes (R147). -/
def Blocks.freshSerial (e : Env) (b : Blocks) : Nat := nextSerial (b.incidents.serials e.nodeNumber) b.incidents.lastSerial

/-- The record a raise enters, with the admission number it takes. -/
def Blocks.newRecord (e : Env) (b : Blocks) (x : Raise) : Incident :=
  { x.record e (b.freshSerial e) with admission := b.incidents.nextAdmission }

/-- A raise with room enters its record at the end of the table. -/
theorem raiseIncident_of_room {e : Env} {b b' : Blocks} {x : Raise} (h : makeRoom e b x.severity true = some b') (lateness : Option Nat) :
    (raiseIncident e b x lateness).2 = some (b'.newRecord e x).id
      ∧ (raiseIncident e b x lateness).1.incidents.records =
        (b'.incidents.records ++ [b'.newRecord e x]).map (refreshedAt (b'.newRecord e x).id) := by
  simp only [raiseIncident, h, tellEntry_records, reportIncident_incidents]
  refine ⟨rfl, queueIncidentFrame_records (fun lacks => ?_) _ _⟩
  exact lacks (b'.newRecord e x) (List.mem_append_right _ (List.mem_singleton.2 rfl)) rfl

theorem raiseIncident_of_no_room {e : Env} {b : Blocks} {x : Raise} (h : makeRoom e b x.severity true = none) (lateness : Option Nat) :
    (raiseIncident e b x lateness).1.incidents.records = b.incidents.records := by
  simp only [raiseIncident, h]
  split <;> rfl

/-- Every record after a raise stood before, or is the one it entered. -/
theorem raiseIncident_mem {e : Env} {b : Blocks} {x : Raise} {lateness : Option Nat} {r : Incident}
    (hr : r ∈ (raiseIncident e b x lateness).1.incidents.records) :
    (∃ r₀ ∈ b.incidents.records, r₀.StandsOn r) ∨ ∃ b' : Blocks, (b'.newRecord e x).StandsOn r := by
  cases h : makeRoom e b x.severity true with
  | none => exact .inl ⟨r, raiseIncident_of_no_room h lateness ▸ hr, .inl rfl⟩
  | some b' =>
    rw [(raiseIncident_of_room h lateness).2] at hr
    obtain ⟨y, hy, rfl⟩ := List.mem_map.1 hr
    rcases List.mem_append.1 hy with hy | hy
    · obtain ⟨r₀, hr₀, stands⟩ := (makeRoom_sheds e h).records.mem hy
      exact .inl ⟨r₀, hr₀, stands.trans (refreshedAt_standsOn _ y)⟩
    · obtain rfl := List.mem_singleton.1 hy
      exact .inr ⟨b', refreshedAt_standsOn ..⟩

theorem raiseNodeLost_calm (e : Env) (b : Blocks) {x : Raise} (hx : x.kind = .nodeLost) (lateness : Option Nat) :
    Calm e b (raiseIncident e b x lateness).1 := by
  unfold raiseIncident
  split
  · dsimp only
    split
    · exact .refl e b
    · exact (queueReport_sheds ..).calm
  case h_2 b' h =>
    refine .trans (makeRoom_sheds e h).calm ?_
    have told (c : Blocks) (r : Incident) (hr : r.kind = .nodeLost) : Calm e c (tellEntry e c r lateness) := by
      have silent (c : Blocks) : offerForIncident e c r lateness = c := by simp [offerForIncident, hr]
      rw [tellEntry, silent]
      exact .trans (toldIncident_sheds ..).calm (soundAlarm_calm ..)
    refine .trans ?_ (told _ _ hx)
    refine .trans ?_ (reportIncident_sheds ..).calm
    refine .trans ?_ (queueIncidentFrame_sheds ..).calm
    refine .trans ?_ (enterRecord_calm ..)
    exact setIncidents_calm e b' _ rfl

/-! ### NODE_LOST at the neighbours (R57, R62) -/

/-- The raise of NODE_LOST for a neighbour. -/
def lostRaise (e : Env) (peer : Nat) : Raise :=
  { kind := .nodeLost, severity := 2, span := { tracks := .both, first := e.gapTo peer, last := e.gapTo peer }, platform := none
    trip := none }

theorem raiseLost_eq {e : Env} {b : Blocks} {peer : Nat} (hc : e.configured = true) (hn : e.isNeighbour peer = true)
    (hl : b.peers.lostId e peer = none) : raiseLost e b peer =
      (raiseIncident e b (lostRaise e peer) none).1.setPeers
        ((raiseIncident e b (lostRaise e peer) none).1.peers.setLostId e peer (raiseIncident e b (lostRaise e peer) none).2) := by
  simp only [raiseLost, hc, hn, hl, Option.isNone_none, Bool.and_self, if_true]
  rfl

/-- What the record of NODE_LOST for a neighbour reads. -/
structure LostRecord (e : Env) (peer : Nat) (r : Incident) : Prop where
  isLocal : r.isLocal = true
  kind : r.kind = .nodeLost
  owner : r.owner = e.nodeNumber
  adoptedFrom : r.adoptedFrom = none
  severity : r.severity = 2
  platform : r.platform = none
  trip : r.trip = none
  span : r.span = { tracks := .both, first := e.gapTo peer, last := e.gapTo peer }

theorem newRecord_lostRecord (e : Env) (b : Blocks) (peer : Nat) : LostRecord e peer (b.newRecord e (lostRaise e peer)) :=
  ⟨rfl, rfl, rfl, rfl, rfl, rfl, rfl, rfl⟩

theorem LostRecord.standsOn {e : Env} {peer : Nat} {r r' : Incident} (h : LostRecord e peer r) (hs : r.StandsOn r') :
    LostRecord e peer r' := by
  have own := hs.isLocal
  rcases hs with rfl | ⟨o, o', -, rfl⟩
  · exact h
  · exact ⟨own.trans h.isLocal, h.kind, h.owner, h.adoptedFrom, h.severity, h.platform, h.trip, h.span⟩

/-- What raising NODE_LOST at LOST neighbours does: of the Peer View the ids held for them alone are other than before. -/
structure LostRaised (e : Env) (b b' : Blocks) : Prop where
  calm : Calm e (b.setPeers b'.peers) b'
  table : b'.peers.table = b.peers.table
  starts : b'.peers.starts = b.peers.starts
  records : ∀ r ∈ b'.incidents.records, (∃ r₀ ∈ b.incidents.records, r₀.StandsOn r)
    ∨ ∃ peer, e.isNeighbour peer = true ∧ (b.peers.entry peer).liveness = .lost ∧ LostRecord e peer r

theorem LostRaised.refl (e : Env) (b : Blocks) : LostRaised e b b := ⟨.refl e b, rfl, rfl, fun r hr => .inl ⟨r, hr, .inl rfl⟩⟩

/-- None of what `Keeps` says is about the Peer View but that it stays. -/
theorem Keeps.setPeers {b b' : Blocks} (h : Keeps b b') (p : PeerView) : Keeps (b.setPeers p) (b'.setPeers p) where
  lines x hx := (setPeers_linesKept b' p).lines x (h.lines x ((setPeers_linesKept (b.setPeers p) b.peers).lines x hx))
  platform := h.platform
  vacant := h.vacant
  filters := h.filters
  delivered := h.delivered
  present := h.present
  absent := h.absent
  bus := h.bus
  peers := rfl
  timetable := h.timetable
  describer := h.describer
  channels := h.channels

theorem Calm.setPeers {e : Env} {b b' : Blocks} (h : Calm e b b') (p : PeerView) : Calm e (b.setPeers p) (b'.setPeers p) where
  toKeeps := h.keeps.setPeers p
  breakers := h.breakers
  still hs := by
    obtain ⟨hst, ha, hr, hm⟩ := h.still ⟨hs.service, hs.queues, hs.vacant⟩
    exact ⟨hst, ha, hr, hm⟩

theorem entry_congr {p p' : PeerView} (h : p'.table = p.table) (n : Nat) : p'.entry n = p.entry n := by
  rw [PeerView.entry, h]
  rfl

theorem LostRaised.trans {e : Env} {a b c : Blocks} (h : LostRaised e a b) (k : LostRaised e b c) : LostRaised e a c where
  calm := .trans (h.calm.setPeers c.peers) k.calm
  table := k.table.trans h.table
  starts := k.starts.trans h.starts
  records r hr := by
    rcases k.records r hr with ⟨r₁, hr₁, stands₁⟩ | ⟨peer, near, lost, new⟩
    · rcases h.records r₁ hr₁ with ⟨r₀, hr₀, stands₀⟩ | ⟨peer, near, lost, new⟩
      · exact .inl ⟨r₀, hr₀, stands₀.trans stands₁⟩
      · exact .inr ⟨peer, near, lost, new.standsOn stands₁⟩
    · exact .inr ⟨peer, near, entry_congr h.table peer ▸ lost, new⟩

theorem setLostId_table (p : PeerView) (e : Env) (peer : Nat) (id : Option IncidentId) : (p.setLostId e peer id).table = p.table := by
  unfold PeerView.setLostId
  split <;> rfl

theorem setLostId_starts (p : PeerView) (e : Env) (peer : Nat) (id : Option IncidentId) : (p.setLostId e peer id).starts = p.starts := by
  unfold PeerView.setLostId
  split <;> rfl

theorem raiseLost_lostRaised {e : Env} {b : Blocks} {peer : Nat} (h : (b.peers.entry peer).liveness = .lost) :
    LostRaised e b (raiseLost e b peer) := by
  by_cases hc : (e.configured && e.isNeighbour peer && (b.peers.lostId e peer).isNone) = true
  · simp only [Bool.and_eq_true, Option.isNone_iff_eq_none] at hc
    obtain ⟨⟨configured, near⟩, unheld⟩ := hc
    rw [raiseLost_eq configured near unheld]
    have raised := raiseNodeLost_calm e b (x := lostRaise e peer) rfl none
    refine ⟨raised.setPeers _, ?_, ?_, fun r hr => (raiseIncident_mem hr).imp_right fun ⟨b', new⟩ => ?_⟩
    · exact (setLostId_table ..).trans (congrArg _ raised.peers)
    · exact (setLostId_starts ..).trans (congrArg _ raised.peers)
    · exact ⟨peer, near, h, (newRecord_lostRecord e b' peer).standsOn new⟩
  · rw [raiseLost, if_neg hc]
    exact .refl e b

theorem raiseStandingLost_lostRaised (e : Env) (b : Blocks) : LostRaised e b (raiseStandingLost e b) := by
  refine foldl_related (LostRaised.refl e) LostRaised.trans (fun b peer => ?_) _ b
  split
  case isTrue h => exact raiseLost_lostRaised h
  case isFalse => exact .refl e b

end Sys2Proof.Machine

/-! SUPPORT. A CONFIGURE that is taken: the records it trims to the new line, the blocks it sets, and what it answers (R11, R166). -/

namespace Sys2Proof.Machine

/-! ### Local records trimmed to the new line (R166 step 1) -/

theorem Incident.StandsOn.span_eq {r r' : Incident} (h : r.StandsOn r') : r'.span = r.span := by
  rcases h with rfl | ⟨o, o', ho, rfl⟩ <;> rfl

/-- No local record of an id reaches past the line's end. -/
def Blocks.fitsLine (e : Env) (b : Blocks) (id : IncidentId) : Prop :=
  ∀ r ∈ b.incidents.records, r.id = id → r.isLocal = true → r.span.last + 2 ≤ e.lineCount

theorem Blocks.lacks.fitsLine {e : Env} {b : Blocks} {id : IncidentId} (h : b.lacks id) : b.fitsLine e id :=
  fun r hr hid => absurd hid (h r hr)

theorem RecordsFrom.fitsLine {e : Env} {b b' : Blocks} (h : RecordsFrom b b') {id : IncidentId} (hb : b.fitsLine e id) :
    b'.fitsLine e id := by
  intro r' hr' hid hl
  obtain ⟨r, hr, stands⟩ := h.mem hr'
  rw [stands.span_eq]
  exact hb r hr (stands.id_eq ▸ hid) (stands.isLocal ▸ hl)

theorem find_of_nodup {b : Blocks} (h : (b.incidents.records.map (·.id)).Nodup) {r : Incident} (hr : r ∈ b.incidents.records) :
    b.incidents.find r.id = some r := by
  unfold IncidentTable.find
  generalize b.incidents.records = l at h hr
  induction l with
  | nil => cases hr
  | cons y l ih =>
    obtain ⟨fresh, rest⟩ := List.nodup_cons.1 h
    rcases List.mem_cons.1 hr with rfl | hr
    · simp
    · have other : y.id ≠ r.id := fun hy => fresh (List.mem_map.2 ⟨r, hr, hy.symm⟩)
      simpa [other] using ih rest hr

theorem tellChange_records (e : Env) (b : Blocks) (before after : Nat) :
    (tellChange e b before after).incidents.records = b.incidents.records := by
  have told := congrArg IncidentTable.records (toldIncident_told e b).incidents
  unfold tellChange
  dsimp only
  split
  · exact (soundAlarm_records ..).trans told
  · exact told

/-- A local record shortened to the line. -/
def Incident.shortened (e : Env) (r : Incident) : Incident :=
  { r.setItems (r.items.filter fun i => e.sectionInLine i.sec) with span := { r.span with last := e.lineCount - 2 } }

theorem Incident.shortened_id (e : Env) (r : Incident) : (r.shortened e).id = r.id := (r.setItems_standsOn _).id_eq

/-- What trimming does of a record: nothing, a close, or a shorter span. -/
theorem trimLocal_cases (e : Env) (b : Blocks) (id : IncidentId) :
    (trimLocal e b id = b ∧ ∀ r, b.incidents.find id = some r → r.isLocal = true → r.span.last + 2 ≤ e.lineCount)
      ∨ (∃ r, r.id = id ∧ trimLocal e b id = closeRecord e b r .configure)
      ∨ (trimLocal e b id).incidents.records = b.incidents.records.map fun r => if r.id = id then r.shortened e else r := by
  unfold trimLocal
  split
  case h_2 h => exact .inl ⟨rfl, fun r hr => by simp [h] at hr⟩
  case h_1 r h =>
    split
    case isFalse inside =>
      refine .inl ⟨rfl, fun r' hr' hl => ?_⟩
      obtain rfl : r = r' := Option.some.inj (h.symm.trans hr')
      exact Nat.not_lt.1 fun past => inside ⟨hl, past⟩
    case isTrue =>
      split
      · exact .inr (.inl ⟨r, IncidentTable.find_id h, rfl⟩)
      · refine .inr (.inr ?_)
        rw [reportIncident_incidents, tellChange_records]
        rfl

theorem trimLocal_ids (e : Env) (b : Blocks) (id : IncidentId) :
    ((trimLocal e b id).incidents.records.map (·.id)).Sublist (b.incidents.records.map (·.id)) := by
  rcases trimLocal_cases e b id with ⟨same, -⟩ | ⟨r, -, closed⟩ | shortened
  · rw [same]
  · rw [closed]
    exact (closeRecord_sheds ..).records.ids
  · have ids : ((fun r : Incident => r.id) ∘ fun r => if r.id = id then r.shortened e else r) = fun r => r.id := by
      funext r
      simp only [Function.comp]
      split <;> simp [Incident.shortened_id]
    rw [shortened, List.map_map, ids]

theorem fitsLine_of_shortened {e : Env} (he : 2 ≤ e.lineCount) {b b' : Blocks} {id id' : IncidentId}
    (h : b'.incidents.records = b.incidents.records.map fun r => if r.id = id then r.shortened e else r)
    (hb : id' ≠ id → b.fitsLine e id') : b'.fitsLine e id' := by
  intro r' hr' hid hl
  rw [h] at hr'
  obtain ⟨r, hr, rfl⟩ := List.mem_map.1 hr'
  split at hid
  next => simp [*, Incident.shortened, Nat.sub_add_cancel he]
  next other =>
    rw [if_neg other] at hl ⊢
    exact hb (fun same => other (hid.trans same)) r hr hid hl

theorem trimLocal_fitsLine {e : Env} (he : 2 ≤ e.lineCount) {b : Blocks} (id : IncidentId) {id' : IncidentId} (hb : b.fitsLine e id') :
    (trimLocal e b id).fitsLine e id' := by
  rcases trimLocal_cases e b id with ⟨same, -⟩ | ⟨r, -, closed⟩ | shortened
  · rwa [same]
  · rw [closed]
    exact (closeRecord_sheds ..).records.fitsLine hb
  · exact fitsLine_of_shortened he shortened fun _ => hb

theorem trimLocal_fitsLine_same {e : Env} (he : 2 ≤ e.lineCount) {b : Blocks} (h : (b.incidents.records.map (·.id)).Nodup) (id : IncidentId) :
    (trimLocal e b id).fitsLine e id := by
  rcases trimLocal_cases e b id with ⟨same, inside⟩ | ⟨r, rfl, closed⟩ | shortened
  · rw [same]
    rintro r hr rfl hl
    exact inside r (find_of_nodup h hr) hl
  · rw [closed]
    exact Blocks.lacks.fitsLine (closeRecord_lacks _ _ _ _)
  · exact fitsLine_of_shortened he shortened fun other => absurd rfl other

theorem foldl_trimLocal_fitsLine {e : Env} (he : 2 ≤ e.lineCount) (ids : List IncidentId) : ∀ b : Blocks,
    (b.incidents.records.map (·.id)).Nodup → ∀ id, id ∈ ids ∨ b.fitsLine e id → (ids.foldl (trimLocal e) b).fitsLine e id := by
  induction ids with
  | nil => exact fun b _ id hid => hid.resolve_left (by simp)
  | cons i ids ih =>
    intro b h id hid
    refine ih _ (h.sublist (trimLocal_ids e b i)) id ?_
    rcases hid with hid | hid
    · rcases List.mem_cons.1 hid with rfl | hid
      · exact .inr (trimLocal_fitsLine_same he h id)
      · exact .inl hid
    · exact .inr (trimLocal_fitsLine he i hid)

theorem foldl_trimLocal_ids (e : Env) (ids : List IncidentId) : ∀ b : Blocks,
    ((ids.foldl (trimLocal e) b).incidents.records.map (·.id)).Sublist (b.incidents.records.map (·.id)) := by
  induction ids with
  | nil => exact fun b => .refl _
  | cons id ids ih => exact fun b => (ih _).trans (trimLocal_ids e b id)

/-- The records as steps 1 and 2 of R166 leave them. -/
def trimmedRecords (e : Env) (b : Blocks) : Blocks :=
  let b := (incidentIds b).foldl (trimLocal e) b
  ((b.incidents.records.filter (outsideLine e)).map (·.id)).foldl (removeCopy e) b

theorem trimmedRecords_keeps (e : Env) (b : Blocks) : Keeps b (trimmedRecords e b) :=
  .trans (Keeps.foldl (fun _ _ => trimLocal_keeps ..) _ _) (Keeps.foldl (fun _ _ => (removeCopy_sheds ..).keeps) _ _)

theorem trimmedRecords_inLine {e : Env} (he : 2 ≤ e.lineCount) {b : Blocks} (h : (b.incidents.records.map (·.id)).Nodup) :
    ∀ r ∈ (trimmedRecords e b).incidents.records, r.span.last + 2 ≤ e.lineCount := by
  intro r hr
  obtain ⟨r₀, hr₀, stands⟩ := (Sheds.foldl (fun _ _ => removeCopy_sheds ..) _ _).records.mem hr
  rw [stands.span_eq]
  cases hl : r₀.isLocal with
  | true =>
    refine foldl_trimLocal_fitsLine he (incidentIds b) b h r₀.id (.inl ?_) r₀ hr₀ rfl hl
    exact (foldl_trimLocal_ids e (incidentIds b) b).subset (List.mem_map_of_mem hr₀)
  | false =>
    refine Nat.not_lt.1 fun past => ?_
    refine foldl_lacks (e := e) (fun _ _ => removeCopy_sheds ..) (fun b id => removeCopy_lacks e b id) _ _ r₀.id ?_ r hr stands.id_eq
    refine List.mem_map_of_mem (List.mem_filter.2 ⟨hr₀, ?_⟩)
    simp [outsideLine, hl, past]

/-! ### The steps of a CONFIGURE -/

/-- What is not of the new line leaves the field and the Peer View, and the regulators are told (R4, R20, R57). -/
def narrowed (e : Env) (b : Blocks) : Blocks :=
  toldStarts e (trimPeers (restartOccupancy ([Breaker.uh, Breaker.dh].foldl (discardBreaker e) b)) e.lineCount)

theorem narrowed_told (e : Env) (b : Blocks) :
    Told (trimPeers (restartOccupancy ([Breaker.uh, Breaker.dh].foldl (discardBreaker e) b)) e.lineCount) (narrowed e b) :=
  toldStarts_told ..

/-- The first sends that waited, and a RAISE frame for every local record (R143, R166 step 3). -/
def sentStanding (e : Env) (b : Blocks) : Blocks :=
  let b := (allItems b).foldl (deferredSend e) b
  ((b.incidents.records.filter Incident.isLocal).map (·.id)).foldl (fun b id => queueIncidentFrame e b id .raise none) b

/-- The channels are created and what stands is offered (R203). -/
def offeredStanding (e : Env) (b : Blocks) : Blocks :=
  let b := createChannels b ((e.config.map (·.channelCount)).getD 0)
  b.incidents.records.foldl (offerStanding e) b

theorem applyConfigure_eq (e : Env) (b : Blocks) : applyConfigure e b =
    raiseStandingLost e (offeredStanding e (sentStanding e (trimmedRecords e (enableBus (narrowed e b))))) := by
  simp only [applyConfigure, offeredStanding, sentStanding, trimmedRecords, narrowed]

theorem sendIsolate_sheds (e : Env) (b : Blocks) (id : IncidentId) (sec : TractionSection) : Sheds e b (sendIsolate e b id sec) :=
  .trans (queueFrame_sheds e e b _ rfl) (setItem_sheds ..)

theorem deferredSend_sheds (e : Env) (b : Blocks) (x : IncidentId × TractionSection) : Sheds e b (deferredSend e b x) := by
  unfold deferredSend
  split
  · exact .ite _ (sendIsolate_sheds ..)
  · exact .refl e b

theorem sentStanding_sheds (e : Env) (b : Blocks) : Sheds e b (sentStanding e b) :=
  .trans (Sheds.foldl (fun _ _ => deferredSend_sheds ..) _ _) (Sheds.foldl (fun _ _ => queueIncidentFrame_sheds ..) _ _)

theorem offeredStanding_announced (e : Env) (b : Blocks) :
    Announced (createChannels b ((e.config.map (·.channelCount)).getD 0)) (offeredStanding e b) :=
  Announced.foldl (fun _ _ => offerStanding_announced ..) _ _

theorem Keeps.setAnnounce {b b' : Blocks} (h : Keeps b b') (a : Announcer) : Keeps (b.setAnnounce a) (b'.setAnnounce a) where
  lines x hx := (setAnnounce_linesKept b' a).lines x (h.lines x ((setAnnounce_linesKept (b.setAnnounce a) b.announce).lines x hx))
  platform := h.platform
  vacant := h.vacant
  filters := h.filters
  delivered := h.delivered
  present := h.present
  absent := h.absent
  bus := h.bus
  peers := h.peers
  timetable := h.timetable
  describer := h.describer
  channels := rfl

/-- Once the bus is enabled, but for the channels and the NODE_LOST ids a CONFIGURE leaves what `Keeps` lists. -/
theorem applyConfigure_keeps (e : Env) (b : Blocks) : ∃ (a : Announcer) (p : PeerView),
    Keeps (((enableBus (narrowed e b)).setAnnounce a).setPeers p) (applyConfigure e b)
      ∧ a.channels.length = (e.config.map (·.channelCount)).getD 0 ∧ p.table = (narrowed e b).peers.table := by
  have sent : Keeps (enableBus (narrowed e b)) (sentStanding e (trimmedRecords e (enableBus (narrowed e b)))) :=
    .trans (trimmedRecords_keeps ..) (sentStanding_sheds ..).keeps
  generalize hs : sentStanding e (trimmedRecords e (enableBus (narrowed e b))) = s at sent
  have offered := offeredStanding_announced e s
  have raised := raiseStandingLost_lostRaised e (offeredStanding e s)
  have enabled : (enableBus (narrowed e b)).peers = (narrowed e b).peers := by
    unfold enableBus
    split
    · rfl
    · split <;> rfl
  refine ⟨(createChannels s ((e.config.map (·.channelCount)).getD 0)).announce, (applyConfigure e b).peers, ?_, ?_, ?_⟩
  · rw [applyConfigure_eq, hs]
    refine .trans ?_ raised.calm.keeps
    exact ((sent.setAnnounce _).trans offered.keeps).setPeers _
  · exact List.length_replicate
  · rw [applyConfigure_eq, hs, raised.table, offered.peers]
    exact congrArg PeerView.table (sent.peers.trans enabled)

end Sys2Proof.Machine

/-! SUPPORT. What CONFIGURE answers and what it leaves at every block (R4, R11, R20, R49, R57, R166, R203). -/

namespace Sys2Proof.Machine

/-! ### Breakers past the line's end (R4, R21, R24) -/

theorem discardBreaker_of_absent {e : Env} {br : Breaker} (h : e.present br = false) (b : Blocks) :
    (discardBreaker e b br).power.breakers.get br = none ∧ (discardBreaker e b br).field.coils.get br = .rest := by
  have written : discardBreaker e b br = setStatusFilter ((b.setPower { b.power with breakers := b.power.breakers.set br none }).setCoils br
      .rest) br .unsettled none := by simp [discardBreaker, h]
  rw [written]
  constructor
  · simp [setStatusFilter]
  · exact (PerBreaker.get_set ..).trans (if_pos rfl)

theorem discardBreaker_other {br y : Breaker} (h : y ≠ br) (e : Env) (b : Blocks) :
    (discardBreaker e b br).power.breakers.get y = b.power.breakers.get y
      ∧ (discardBreaker e b br).field.coils.get y = b.field.coils.get y := by
  unfold discardBreaker
  split
  · exact ⟨rfl, rfl⟩
  · exact ⟨(PerBreaker.get_set ..).trans (if_neg h), (PerBreaker.get_set ..).trans (if_neg h)⟩

/-- At the line's end the high breakers have neither record nor line. -/
theorem discardBreakers_high {e : Env} (h : ∀ br : Breaker, br = .uh ∨ br = .dh → e.present br = false) (b : Blocks) (br : Breaker)
    (hb : br = .uh ∨ br = .dh) :
    ([Breaker.uh, Breaker.dh].foldl (discardBreaker e) b).power.breakers.get br = none
      ∧ ([Breaker.uh, Breaker.dh].foldl (discardBreaker e) b).field.coils.get br = .rest := by
  rcases hb with rfl | rfl
  · obtain ⟨gone, rest⟩ := discardBreaker_of_absent (h .uh (.inl rfl)) b
    obtain ⟨power, coils⟩ := discardBreaker_other (br := .dh) (y := .uh) (by decide) e (discardBreaker e b .uh)
    exact ⟨power.trans gone, coils.trans rest⟩
  · exact discardBreaker_of_absent (h .dh (.inr rfl)) _

/-! ### What is not of the new line (R4, R20, R57) -/

/-- What `discardBreaker` leaves alone. -/
structure Discarded (b b' : Blocks) : Prop where
  bus : b'.bus = b.bus
  peers : b'.peers = b.peers
  timetable : b'.timetable = b.timetable
  describer : b'.describer = b.describer
  incidents : b'.incidents = b.incidents

theorem discardBreakers_discarded (e : Env) (b : Blocks) : Discarded b ([Breaker.uh, Breaker.dh].foldl (discardBreaker e) b) := by
  refine foldl_related (R := Discarded) (fun _ => ⟨rfl, rfl, rfl, rfl, rfl⟩) (fun h k => ?_) (fun b br => ?_) _ b
  · exact ⟨k.bus.trans h.bus, k.peers.trans h.peers, k.timetable.trans h.timetable, k.describer.trans h.describer,
      k.incidents.trans h.incidents⟩
  · unfold discardBreaker
    split <;> exact ⟨rfl, rfl, rfl, rfl, rfl⟩

theorem trimPeers_outside {b : Blocks} {n i : Nat} {y : PeerEntry} (hi : n ≤ i) (h : (trimPeers b n).peers.table[i]? = some y) :
    y = .unheard := by
  have past : (b.peers.table.take n).length ≤ i := (List.length_take_le n _).trans hi
  have h : (b.peers.table.take n ++ List.replicate (b.peers.table.length - n) PeerEntry.unheard)[i]? = some y := h
  rw [List.getElem?_append_right past] at h
  exact List.eq_of_mem_replicate (List.mem_of_getElem? h)

theorem trimPeers_inside {b : Blocks} {n i : Nat} {y : PeerEntry} (hi : i < n) (h : b.peers.table[i]? = some y) :
    (trimPeers b n).peers.table[i]? = some y := by
  have room : i < b.peers.table.length := (List.getElem?_eq_some_iff.1 h).1
  have inside : i < (b.peers.table.take n).length := by simp [hi, room]
  have taken : (b.peers.table.take n)[i]? = some y := by rw [List.getElem?_take_of_lt hi, h]
  exact (List.getElem?_append_left inside).trans taken

theorem enableBus_on {b : Blocks} (h : b.bus.silent = false) : (enableBus b).bus.tx ≠ .off := by
  unfold enableBus
  rw [if_neg (by simp [h])]
  split
  · simp
  next other => exact other

/-- The transmitter alone is other than before. -/
theorem enableBus_eq (b : Blocks) : ∃ tx, enableBus b = b.setBus { b.bus with tx := tx } := by
  unfold enableBus
  split
  · exact ⟨b.bus.tx, rfl⟩
  · split
    · exact ⟨.idle, rfl⟩
    · exact ⟨b.bus.tx, rfl⟩

/-- The gap between this node and a neighbour lies on the line. -/
theorem gapTo_inLine {e : Env} (hn : e.nodeNumber < e.lineCount) {peer : Nat} (h : e.isNeighbour peer = true) :
    e.gapTo peer + 2 ≤ e.lineCount := by
  simp only [Env.isNeighbour, Bool.or_eq_true, Bool.and_eq_true, decide_eq_true_eq] at h
  unfold Env.gapTo
  split <;> omega

theorem applyConfigure_inLine {e : Env} (he : 2 ≤ e.lineCount) (hn : e.nodeNumber < e.lineCount) {b : Blocks} (h : b.incidents.proper) :
    ∀ r ∈ (applyConfigure e b).incidents.records, r.span.last + 2 ≤ e.lineCount := by
  intro r hr
  rw [applyConfigure_eq] at hr
  have same : (enableBus (narrowed e b)).incidents = b.incidents := by
    obtain ⟨tx, enabled⟩ := enableBus_eq (narrowed e b)
    rw [enabled]
    exact (narrowed_told e b).incidents.trans (discardBreakers_discarded e b).incidents
  have inLine := trimmedRecords_inLine he (b := enableBus (narrowed e b)) (by rw [same]; exact h.2)
  generalize trimmedRecords e (enableBus (narrowed e b)) = b₀ at hr inLine
  rcases (raiseStandingLost_lostRaised e _).records r hr with ⟨r₁, hr₁, stands₁⟩ | ⟨peer, near, -, new⟩
  · rw [(offeredStanding_announced e _).incidents] at hr₁
    obtain ⟨r₀, hr₀, stands₀⟩ := (sentStanding_sheds e b₀).records.mem hr₁
    rw [(stands₀.trans stands₁).span_eq]
    exact inLine r₀ hr₀
  · rw [new.span]
    exact gapTo_inLine hn near

/-! ### The configured blocks -/

/-- What a CONFIGURE that is taken leaves of the blocks before it. -/
structure Configured (e : Env) (x b : Blocks) : Prop where
  occupancy : ∀ t, b.field.filters.occupancy.get t = .unsettled
  on : x.bus.silent = false → b.bus.tx ≠ .off
  statusDue : b.bus.statusDue = x.bus.statusDue
  advances : b.bus.advances = x.bus.advances
  absent : ∀ br : Breaker, br = .uh ∨ br = .dh → e.nodeNumber + 1 = e.lineCount →
    b.power.breakers.get br = none ∧ b.field.coils.get br = .rest
  outside : ∀ i y, e.lineCount ≤ i → b.peers.table[i]? = some y → y = .unheard
  inside : ∀ i y, i < e.lineCount → x.peers.table[i]? = some y → b.peers.table[i]? = some y
  channels : b.announce.channels.length = (e.config.map (·.channelCount)).getD 0
  timetable : b.timetable = x.timetable
  describer : b.describer = x.describer

theorem applyConfigure_configured (e : Env) (x : Blocks) : Configured e x (applyConfigure e x) := by
  obtain ⟨a, p, kept, channels, table⟩ := applyConfigure_keeps e x
  obtain ⟨tx, enabled⟩ := enableBus_eq (narrowed e x)
  have on := enableBus_on (b := narrowed e x)
  rw [enabled] at on kept
  have told := narrowed_told e x
  have discarded := discardBreakers_discarded e x
  have bus : (narrowed e x).bus = x.bus := told.bus.trans discarded.bus
  have statusDue : (narrowed e x).bus.statusDue = x.bus.statusDue := congrArg Linebus.statusDue bus
  have advances : (narrowed e x).bus.advances = x.bus.advances := congrArg Linebus.advances bus
  have view : (applyConfigure e x).peers.table = _ :=
    (congrArg PeerView.table kept.peers).trans (table.trans (congrArg PeerView.table told.peers))
  refine
    { occupancy := fun t => ?_
      on := fun hs => mt kept.bus.tx.off_iff.1 (on ((congrArg Linebus.silent bus).trans hs))
      statusDue := kept.bus.statusDue.trans statusDue
      advances := kept.bus.advances.trans advances
      absent := fun br high lineEnd => ?_
      outside := fun i y hi hy => trimPeers_outside hi (view ▸ hy)
      inside := fun i y hi hy => ?_
      channels := kept.channels.trans channels
      timetable := kept.timetable.trans (told.timetable.trans discarded.timetable)
      describer := kept.describer.trans (told.describer.trans discarded.describer) }
  · have filters : (applyConfigure e x).field.filters = _ := kept.filters.trans told.filters
    rw [filters]
    cases t <;> rfl
  · have missing (y : Breaker) (hy : y = .uh ∨ y = .dh) : e.present y = false := by
      rcases hy with rfl | rfl <;> simp [Env.present, presentAt] <;> omega
    obtain ⟨gone, rest⟩ := discardBreakers_high missing x br high
    have gone : (narrowed e x).power.breakers.get br = none := (congrArg (·.breakers.get br) told.power).trans gone
    have rest : (narrowed e x).field.coils.get br = .rest := (congrArg (·.get br) told.coils).trans rest
    have isNone : ((applyConfigure e x).power.breakers.get br).isSome = ((narrowed e x).power.breakers.get br).isSome := kept.present br
    exact ⟨by simpa [gone] using isNone, (kept.absent br gone).trans rest⟩
  · rw [view]
    exact trimPeers_inside hi ((congrArg (·.table[i]?) discarded.peers).trans hy)

/-! ### The request (R11, R219) -/

theorem configure_refused {n : Node} {r : RawConfig} (h : r.nodeCount < 2 ∨ 32 < r.nodeCount ∨ r.nodeCount ≤ n.env.nodeNumber) :
    configure n r = (n, .plain .range) := if_pos h

theorem configure_taken {n : Node} {r : RawConfig} {e : Env} (low : 2 ≤ r.nodeCount) (high : r.nodeCount ≤ 32)
    (own : n.env.nodeNumber < r.nodeCount) (he : e = { n.env with config := some r.held, nodeState := .ready }) :
    configure n r = (⟨e, applyConfigure e n.delivered.blk⟩,
      if r.changed.isEmpty then .plain .ok
      else { status := .clamped, fields := chars1 r.changed.length ++ r.changed.map char }) := by
  subst he
  exact if_neg (by omega)

/-- The characters of the answer to a CONFIGURE that is taken. -/
theorem configure_answer (l : List Nat) (reply : Reply)
    (h : reply = if l.isEmpty then .plain .ok else { status := .clamped, fields := chars1 l.length ++ l.map char }) :
    char reply.status.code :: reply.fields = if l = [] then [0] else 1 :: char l.length :: l.map char := by
  subst h
  cases l <;> rfl

theorem exec_configure_answered {e : Env} {b : Blocks} {q : List Instr} {tag : Byte} {p : List Byte} {n : Node} {reply : Reply}
    (ht : takes b .node 1 tag p) (hp : p.length = 96) (hs : e.nodeState = .configuring)
    (hd : configure ⟨e, received b⟩ (readConfig p) = (n, reply)) :
    exec (.configure tag p) ⟨⟨e, b⟩, q⟩ = .next (answered n.env n.blk q .node tag (char reply.status.code :: reply.fields)) := by
  have shape : decide (p.length = 96) = true := decide_eq_true hp
  rw [exec_configure, shape]
  refine congrArg _ (request_answered ht _ _ _ ?_ q)
  exact (dispatch_good (by rw [hs]; rfl) _).trans hd

/-- Settles O45: the fields at their places, the clamping field by field, and the node that `applyConfigure` leaves. -/
theorem configureIsTaken : Obligations.ConfigureIsTaken := by
  rintro e b q tag p raw held ht hp hs rfl rfl
  refine ⟨rfl, rfl, rfl, rfl, ?places, rfl, rfl, ?slots, rfl, rfl, rfl, rfl, ?ranges, clamp_zero _ _, rfl, RawConfig.changed_pairwise _,
    ?numbers, fun refused => ?_, fun low high own x hx => ?taken⟩
  case places => rintro t at_ (⟨rfl, rfl⟩ | ⟨rfl, rfl⟩) <;> rfl
  case slots =>
    intro i j x hx
    obtain ⟨-, rfl⟩ := readConfig_template hx
    exact ⟨rfl, rfl, fieldTemplate_slots⟩
  case ranges =>
    intro t
    rw [RawConfig.held_platform]
    exact ⟨rfl, rfl, rfl, clamp_zero _ _, clamp_zero _ _, rfl, rfl, rfl⟩
  case numbers =>
    intro n
    rw [RawConfig.mem_changed rfl, PlatformConfig.mem_changed, PlatformConfig.mem_changed]
    simp only [RawConfig.held_platform]
    constructor
    · rintro (h | h | h | h | h | h | h)
      · exact .inl h
      · exact .inr (.inl h)
      · exact .inr (.inr (.inl h))
      · exact .inr (.inr (.inr (.inl ⟨.up, 5, _, _, .inl ⟨rfl, rfl⟩, rfl, rfl, h⟩)))
      · exact .inr (.inr (.inr (.inl ⟨.down, 13, _, _, .inr ⟨rfl, rfl⟩, rfl, rfl, h⟩)))
      · exact .inr (.inr (.inr (.inr (.inl h))))
      · exact .inr (.inr (.inr (.inr (.inr h))))
    · rintro (h | h | h | ⟨t, first, r, h, ⟨rfl, rfl⟩ | ⟨rfl, rfl⟩, rfl, rfl, changed⟩ | h | h)
      · exact .inl h
      · exact .inr (.inl h)
      · exact .inr (.inr (.inl h))
      · exact .inr (.inr (.inr (.inl changed)))
      · exact .inr (.inr (.inr (.inr (.inl changed))))
      · exact .inr (.inr (.inr (.inr (.inr (.inl h)))))
      · exact .inr (.inr (.inr (.inr (.inr (.inr h)))))
  · exact exec_configure_answered ht hp hs (configure_refused refused)
  case taken =>
    subst hx
    have exec := exec_configure_answered (q := q) ht hp hs (configure_taken (n := ⟨e, received b⟩) low high own rfl)
    rw [configure_answer _ _ rfl] at exec
    refine ⟨_, exec, ?_⟩
    have configured := applyConfigure_configured { e with config := some (readConfig p).held, nodeState := .ready }
      (deliverAll e (received b))
    have inLine := applyConfigure_inLine (e := { e with config := some (readConfig p).held, nodeState := .ready }) low own
      (b := deliverAll e (received b))
    exact ⟨configured.occupancy, configured.on, configured.statusDue, configured.advances,
      fun lineEnd => ⟨(configured.absent .uh (.inl rfl) lineEnd).1, (configured.absent .dh (.inr rfl) lineEnd).1,
        (configured.absent .uh (.inl rfl) lineEnd).2, (configured.absent .dh (.inr rfl) lineEnd).2⟩,
      configured.outside, configured.inside, inLine, configured.channels, configured.timetable,
      configured.describer⟩

end Sys2Proof.Machine

/-! SUPPORT. What the deliveries of all inputs leave of the Field Interface, and a lone accepted press (R16, R19, R139). -/

namespace Sys2Proof.Machine

/-! ### Arrivals and departures leave the inputs alone -/

theorem InputsKept.foldl {α : Type} {f : Blocks → α → Blocks} (hf : ∀ b x, InputsKept b (f b x)) (l : List α) (b : Blocks) :
    InputsKept b (l.foldl f b) := foldl_related InputsKept.refl InputsKept.trans hf l b

theorem manualArrival_inputs (e : Env) (b : Blocks) (t : Track) (stamp : Nat) : InputsKept b (manualArrival e b t stamp) := by
  unfold manualArrival
  dsimp only
  split
  · exact .trans (takeHead_inputs ..) {}
  · exact {}

theorem arrive_inputs (e : Env) (b : Blocks) (t : Track) (stamp : Nat) : InputsKept b (arrive e b t stamp) := by
  unfold arrive
  split
  · exact {}
  · split
    · exact .refl b
    · exact manualArrival_inputs ..
    · exact (regulatedArrival_stands ..).2

theorem finishEntry_inputs (e : Env) (b : Blocks) (t : Track) (trip : Nat) : InputsKept b (finishEntry e b t trip) := by
  unfold finishEntry
  dsimp only
  split
  · exact {}
  · split
    · exact {}
    · exact {}
    · split <;> exact {}

theorem offerStart_inputs (e : Env) (b : Blocks) (sec : TractionSection) (d : Nat) : InputsKept b (offerStart e b sec d) := by
  unfold offerStart
  dsimp only
  split
  · exact .refl b
  · refine .trans ?_ (toldStarts_told ..).inputs
    exact {}

theorem judgeLateness_inputs (e : Env) (b : Blocks) (t : Track) (trip : Nat) (lateness : Int) :
    InputsKept b (judgeLateness e b t trip lateness) := by
  unfold judgeLateness
  dsimp only
  refine .trans (b := b.setPlatform t { b.platforms.get t with
    delayId := ((b.platforms.get t).delayId).filter fun i => (b.incidents.findOwned i .delay).isSome }) {} ?_
  split
  · split
    · exact .refl _
    · exact .trans (raiseIncident_keeps ..).inputs {}
  · split
    · split
      · exact .trans (closeOwned_sheds e ..).inputs {}
      · exact .refl _
    · exact .refl _

theorem InputsKept.ite {b x : Blocks} (p : Prop) [Decidable p] (h : InputsKept b x) : InputsKept b (if p then x else b) := by
  split
  · exact h
  · exact .refl b

theorem departTrain_inputs (e : Env) (b : Blocks) (t : Track) (phase : Phase) (d : Dwell) (dact : Nat) :
    InputsKept b (departTrain e b t phase d dact) := by
  have finished {b : Blocks} (o : Option Nat) : InputsKept b (match o with | some trip => finishEntry e b t trip | none => b) := by
    cases o with
    | some trip => exact finishEntry_inputs ..
    | none => exact .refl b
  have started {b : Blocks} (o : Option TractionSection) :
      InputsKept b (match o with | some sec => offerStart e b sec dact | none => b) := by
    cases o with
    | some sec => exact offerStart_inputs ..
    | none => exact .refl b
  have judged {b : Blocks} (o : Option Int) : InputsKept b (match o with | some l => judgeLateness e b t d.trip l | none => b) := by
    cases o with
    | some l => exact judgeLateness_inputs ..
    | none => exact .refl b
  have reported (b : Blocks) (r : ReportBody) : InputsKept b (queueReport e b r) := {}
  have queued (b : Blocks) (f : Frame) : InputsKept b (queueFrame e b f) :=
    ⟨congrArg FieldState.waiting (queueFrame_busAlone ..).field, congrArg FieldState.filters (queueFrame_busAlone ..).field⟩
  unfold departTrain
  dsimp only
  refine .trans ?_ (.ite _ (reported _ _))
  refine .trans ?_ (reported _ _)
  refine .trans ?_ (.ite _ (raiseIncident_keeps ..).inputs)
  refine .trans ?_ (judged _)
  refine .trans ?_ (queued _ _)
  refine .trans ?_ (started _)
  refine .trans ?_ (finished _)
  exact {}

theorem depart_inputs (e : Env) (b : Blocks) (t : Track) (stamp : Nat) : InputsKept b (depart e b t stamp) := by
  unfold depart
  split
  · exact {}
  · exact departTrain_inputs ..

/-! ### What all deliveries leave (R16 to R20) -/

/-- The filters stand, and no occupancy change waits that did not wait before. -/
structure Delivering (b b' : Blocks) : Prop where
  filters : b'.field.filters = b.field.filters
  occupancy : ∀ t, b.field.waiting.occupancy.get t = none → b'.field.waiting.occupancy.get t = none

theorem Delivering.refl (b : Blocks) : Delivering b b := ⟨rfl, fun _ h => h⟩

theorem Delivering.trans {a b c : Blocks} (h : Delivering a b) (k : Delivering b c) : Delivering a c :=
  ⟨k.filters.trans h.filters, fun t ht => k.occupancy t (h.occupancy t ht)⟩

theorem Delivering.foldl {α : Type} {f : Blocks → α → Blocks} (hf : ∀ b x, Delivering b (f b x)) (l : List α) (b : Blocks) :
    Delivering b (l.foldl f b) := foldl_related Delivering.refl Delivering.trans hf l b

theorem InputsKept.delivering {b b' : Blocks} (h : InputsKept b b') : Delivering b b' := ⟨h.filters, fun t ht => by rw [h.waiting]; exact ht⟩

theorem sentOccupancy_delivering (b : Blocks) (t : Track) : Delivering b (sentOccupancy b t) where
  filters := rfl
  occupancy u hu := by simp [sentOccupancy, hu]

theorem sentOccupancy_none (b : Blocks) (t : Track) : (sentOccupancy b t).field.waiting.occupancy.get t = none := by
  simp [sentOccupancy]

/-- Where the node is configured, the occupancy change of a track is brought whichever way it goes. -/
theorem deliverOccupancy_cases (e : Env) (b : Blocks) (t : Track) : Delivering b (deliverOccupancy e b t)
    ∧ (e.configured = true → (deliverOccupancy e b t).field.waiting.occupancy.get t = none) := by
  have rise (b : Blocks) : Delivering b (occupancyRise e b t) := by
    unfold occupancyRise
    split
    · split
      · exact .trans (sentOccupancy_delivering b t) (arrive_inputs ..).delivering
      · exact .refl b
    · exact .refl b
  have fall (b : Blocks) : Delivering b (occupancyFall e b t) := by
    unfold occupancyFall
    split
    · split
      · exact .trans (sentOccupancy_delivering b t) (depart_inputs ..).delivering
      · exact .refl b
    · exact .refl b
  refine ⟨.trans (rise b) (fall _), fun hc => ?_⟩
  unfold deliverOccupancy
  cases hw : b.field.waiting.occupancy.get t with
  | none => exact ((rise b).trans (fall _)).occupancy t hw
  | some a =>
    cases hl : a.level with
    | true =>
      refine (fall _).occupancy t ?_
      simp only [occupancyRise, hw, hc, hl, and_self, if_true]
      exact (arrive_inputs ..).delivering.occupancy t (sentOccupancy_none b t)
    | false =>
      have stays : occupancyRise e b t = b := by simp [occupancyRise, hw, hl]
      rw [stays]
      simp only [occupancyFall, hw, hc, hl, and_self, if_true]
      exact (depart_inputs ..).delivering.occupancy t (sentOccupancy_none b t)

theorem deliverPlunger_delivering (e : Env) (b : Blocks) (t : Track) : Delivering b (deliverPlunger e b t) := by
  have sent (b : Blocks) : Delivering b (sentPlunger b t) := ⟨rfl, fun _ h => h⟩
  have rise (b : Blocks) : Delivering b (plungerRise e b t) := by
    unfold plungerRise
    split
    · split
      · exact .trans (sent b) (plungerPress_keeps ..).inputs.delivering
      · exact .refl b
    · exact .refl b
  have fall (b : Blocks) : Delivering b (plungerFall e b t) := by
    unfold plungerFall
    split
    · split
      · exact .trans (sent b) (plungerRelease_keeps e ..).inputs.delivering
      · exact .refl b
    · exact .refl b
  exact .trans (rise b) (fall _)

theorem deliverStatus_delivering (e : Env) (b : Blocks) (br : Breaker) : Delivering b (deliverStatus e b br) := by
  have sent (b : Blocks) : Delivering b (sentStatus b br) := ⟨rfl, fun _ h => h⟩
  unfold deliverStatus
  split
  · split
    · unfold breakerSettles
      split
      · split
        · exact .trans (sent b) (settleBreaker_keeps ..).inputs.delivering
        · exact .refl b
      · exact .refl b
    · unfold breakerMoves
      split
      · split
        · exact .trans (sent b) (breakerChange_keeps ..).inputs.delivering
        · exact .refl b
      · exact .refl b
  · exact .refl b

theorem deliverKey_delivering (e : Env) (b : Blocks) : Delivering b (deliverKey e b) := by
  have sent (b : Blocks) : Delivering b (sentKey b) := ⟨rfl, fun _ h => h⟩
  have moves (level : Bool) : Delivering b (keyMoves e b level) := by
    unfold keyMoves
    split
    · exact .trans (sent b) (keyLevel_keeps e ..).inputs.delivering
    · exact .refl b
  unfold deliverKey
  split
  · exact moves _
  · exact .refl b

theorem deliverAll_delivering (e : Env) (b : Blocks) : Delivering b (deliverAll e b)
    ∧ (e.configured = true → ∀ t, (deliverAll e b).field.waiting.occupancy.get t = none) := by
  have rest (b : Blocks) : Delivering b (deliverKey e (allBreakers.foldl (deliverStatus e) (allTracks.foldl (deliverPlunger e) b))) :=
    .trans (.trans (Delivering.foldl (deliverPlunger_delivering e) _ _) (Delivering.foldl (deliverStatus_delivering e) _ _))
      (deliverKey_delivering ..)
  refine ⟨.trans (Delivering.foldl (fun b t => (deliverOccupancy_cases e b t).1) allTracks b) (rest _), fun hc t => ?_⟩
  refine (rest _).occupancy t ?_
  have up := deliverOccupancy_cases e b .up
  have down := deliverOccupancy_cases e (deliverOccupancy e b .up) .down
  cases t with
  | up => exact down.1.occupancy .up (up.2 hc)
  | down => exact down.2 hc

/-! ### What acts at one breaker (R118 to R127) -/

/-- The other breakers' records and the latches are as before. -/
structure AtBreaker (br : Breaker) (b b' : Blocks) : Prop where
  others : ∀ y, y ≠ br → b'.power.breakers.get y = b.power.breakers.get y
  latches : b'.power.latches = b.power.latches

theorem AtBreaker.of_power {br : Breaker} {b b' : Blocks} (h : b'.power = b.power) : AtBreaker br b b' := ⟨fun _ _ => by rw [h], by rw [h]⟩

theorem AtBreaker.refl (br : Breaker) (b : Blocks) : AtBreaker br b b := .of_power rfl

theorem AtBreaker.trans {br : Breaker} {a b c : Blocks} (h : AtBreaker br a b) (k : AtBreaker br b c) : AtBreaker br a c :=
  ⟨fun y hy => (k.others y hy).trans (h.others y hy), k.latches.trans h.latches⟩

theorem setBreaker_atBreaker (b : Blocks) (br : Breaker) (r : BreakerRecord) : AtBreaker br b (b.setBreaker br r) where
  others y hy := by rw [Blocks.setBreaker_breakers, if_neg fun h => hy h.1]
  latches := by simp

theorem modifyBreaker_atBreaker (b : Blocks) (br : Breaker) (f : BreakerRecord → BreakerRecord) : AtBreaker br b (modifyBreaker b br f) := by
  unfold modifyBreaker
  split
  · exact setBreaker_atBreaker ..
  · exact .refl br b

theorem queueFrame_power (e : Env) (b : Blocks) (f : Frame) : (queueFrame e b f).power = b.power := (queueFrame_busAlone e b f).power

theorem queuePowerFrame_power (e : Env) (b : Blocks) (br : Breaker) (reason : Option RefusalReason) :
    (queuePowerFrame e b br reason).power = b.power := by
  unfold queuePowerFrame
  split
  · split
    · exact queueFrame_power ..
    · rfl
  · rfl

theorem tellSection_power (e : Env) (b : Blocks) (sec : TractionSection) (before after : SectionState) :
    (tellSection e b sec before after).power = b.power := by
  have told (o : Option Track) : (match o with
      | some t => if after = SectionState.dead ∧ e.inService then offerSuspend e (toldPower e b t) t sec else toldPower e b t
      | none => b).power = b.power := by
    cases o with
    | none => rfl
    | some t =>
      dsimp only
      split
      · exact (offerSuspend_announced ..).power.trans (toldPower_told ..).power
      · exact (toldPower_told ..).power
  unfold tellSection
  dsimp only
  split
  · exact (withdrawWhere_announced ..).power.trans (told _)
  · exact told _

theorem sectionUpdate_atBreaker (e : Env) (b : Blocks) (br : Breaker) : AtBreaker br b (sectionUpdate e b br) := by
  have told (x : Blocks) (r : ReportBody) (sec : TractionSection) (before after : SectionState) :
      AtBreaker br x (tellSection e (queueReport e x r) sec before after) := .of_power (tellSection_power ..)
  unfold sectionUpdate
  split
  · split
    · exact .refl br b
    · dsimp only
      split
      · split
        · exact .trans (setBreaker_atBreaker ..) (.of_power (toldPower_told ..).power)
        · exact setBreaker_atBreaker ..
      · split
        · exact .refl br b
        · exact .trans (setBreaker_atBreaker b br _) (told ..)
  · exact .refl br b

theorem confirmItems_power (e : Env) (b : Blocks) (p : TractionSection → Bool) : (confirmItems e b p).power = b.power := by
  refine foldl_related (R := fun b b' : Blocks => b'.power = b.power) (fun _ => rfl) (fun h k => k.trans h) (fun b x => ?_) _ b
  unfold confirmItem
  split <;> rfl

theorem setCondition_atBreaker (e : Env) (b : Blocks) (br : Breaker) (c : Condition) (cause : Option ChangeCause) :
    AtBreaker br b (setCondition e b br c cause) := by
  unfold setCondition
  dsimp only
  have section_ (x : Blocks) : AtBreaker br x (sectionUpdate e (queueReport e (queuePowerFrame e x br none) (.breakerChange br c.state cause)) br) :=
    .trans (b := queueReport e (queuePowerFrame e x br none) (.breakerChange br c.state cause)) (.of_power (queuePowerFrame_power ..))
      (sectionUpdate_atBreaker ..)
  split
  · exact .trans (.trans (modifyBreaker_atBreaker ..) (section_ _)) (.of_power (confirmItems_power ..))
  · exact .trans (modifyBreaker_atBreaker ..) (section_ _)

theorem endWait_atBreaker (e : Env) (b : Blocks) (br : Breaker) (reason : RefusalReason) : AtBreaker br b (endWait e b br reason) := by
  have refused (x : Blocks) (requester : Nat) : AtBreaker br x (refuseRestore e x br requester reason) :=
    .of_power (queuePowerFrame_power ..)
  unfold endWait
  split
  · exact .trans (modifyBreaker_atBreaker b br _) (refused ..)
  · exact .refl br b

theorem openCommand_atBreaker (e : Env) (b : Blocks) (br : Breaker) : AtBreaker br b (openCommand e b br) := by
  obtain ⟨x, hx, same⟩ := openCommand_cases e b br
  rw [hx]
  refine .trans ?_ (endWait_atBreaker ..)
  rcases same with rfl | ⟨c, -, -, rfl⟩ | rfl
  · exact .refl br _
  · exact .trans (b := openCoil b br) (.of_power rfl) (setCondition_atBreaker ..)
  · exact setCondition_atBreaker ..

/-! ### A press at a latch (R139, R140) -/

theorem lockoutAdd_latches (e : Env) (b : Blocks) (br : Breaker) (id : IncidentId) (latch : Bool) :
    (lockoutAdd e b br id latch).power.latches = b.power.latches := by
  have reported (x : Blocks) (r : BreakerRecord) : (reportLockout e x br r).power = x.power := by
    unfold reportLockout
    split
    · split <;> rfl
    · rfl
  unfold lockoutAdd
  split
  · split
    · rfl
    · unfold examineBreaker
      refine (endWait_atBreaker ..).latches.trans ((openCommand_atBreaker ..).latches.trans ?_)
      rw [reported]
      simp
  · rfl

theorem beginIsolation_latches (e : Env) (b : Blocks) (id : IncidentId) (sec : TractionSection) :
    (beginIsolation e b id sec).power.latches = b.power.latches := by
  have added (x : Blocks) (o : Option Breaker) : (match o with
      | some br => lockoutAdd e x br id false
      | none => x).power.latches = x.power.latches := by
    cases o with
    | none => rfl
    | some br => exact lockoutAdd_latches ..
  have sent (x : Blocks) : (sendIsolate e x id sec).power.latches = x.power.latches := congrArg _ (queueFrame_power ..)
  unfold beginIsolation
  split
  · dsimp only
    split
    · refine (sent _).trans ((added _ _).trans ?_)
      split <;> rfl
    · refine (added _ _).trans ?_
      split <;> rfl
  · rfl

theorem emergencyStop_isSet (e : Env) (b : Blocks) (t : Track) : ((emergencyStop e b t).power.latches.get t).isSet = true := by
  have latches {α : Type} {f : Blocks → α → Blocks} (hf : ∀ b x, (f b x).power.latches = b.power.latches) (l : List α) (b : Blocks) :
      (l.foldl f b).power.latches = b.power.latches :=
    foldl_related (R := fun b b' : Blocks => b'.power.latches = b.power.latches) (fun _ => rfl) (fun h k => k.trans h) hf l b
  unfold emergencyStop
  dsimp only
  rw [queueReport_power, queueReport_power, (toldLatch_told ..).power]
  split
  · rw [latches fun _ _ => beginIsolation_latches .., latches fun _ _ => lockoutAdd_latches ..]
    simp [Blocks.setLatch]
  · simp [Blocks.setLatch]

theorem plungerPress_isSet (e : Env) (b : Blocks) (t : Track) : ((plungerPress e b t).power.latches.get t).isSet = true := by
  unfold plungerPress
  dsimp only
  split
  case isTrue h => simp [Blocks.setLatch, h]
  case isFalse => exact emergencyStop_isSet ..

/-- A lone accepted press sets its latch. -/
theorem lone_press_latches {e : Env} {b : Blocks} {t : Track} {stamp : Nat}
    (hw : b.field.waiting = { Deliveries.empty with plunger := Deliveries.empty.plunger.set t (some ⟨true, stamp⟩) }) :
    ((deliverAll e b).power.latches.get t).isSet = true := by
  have still : allTracks.foldl (deliverOccupancy e) b = b := by
    have idle (u : Track) : deliverOccupancy e b u = b := deliverOccupancy_of_none e (by rw [hw]; cases u <;> rfl)
    simp [allTracks, idle]
  have sent : (plungerPress e (sentPlunger b t) t).field.waiting = .empty := by
    refine (plungerPress_keeps ..).delivered.trans ?_
    cases t <;> simp [sentPlunger, hw, Deliveries.empty, PerTrack.set]
  generalize hb' : plungerPress e (sentPlunger b t) t = b' at sent
  have idle (u : Track) : deliverPlunger e b' u = b' := by
    cases u <;> simp [deliverPlunger, plungerRise, plungerFall, sent, Deliveries.empty, PerTrack.get]
  have other (u : Track) (hu : u ≠ t) : deliverPlunger e b u = b := by
    have none_ : b.field.waiting.plunger.get u = none := by
      simp only [hw, PerTrack.get_set, if_neg hu]
      cases u <;> rfl
    simp [deliverPlunger, plungerRise, plungerFall, none_]
  have here : deliverPlunger e b t = b' := by
    have rise : plungerRise e b t = b' := by simp [plungerRise, hw, hb']
    have fall : plungerFall e b' t = b' := by cases t <;> simp [plungerFall, sent, Deliveries.empty, PerTrack.get]
    rw [deliverPlunger, rise, fall]
  have met : allTracks.foldl (deliverPlunger e) b = allTracks.foldl (deliverPlunger e) b' := by
    cases t <;> simp [allTracks, here, other, idle]
  have still' : allTracks.foldl (deliverOccupancy e) b' = b' := by
    have idle (u : Track) : deliverOccupancy e b' u = b' := deliverOccupancy_of_none e (by rw [sent]; cases u <;> rfl)
    simp [allTracks, idle]
  have same : deliverAll e b = b' := by
    calc deliverAll e b = deliverAll e b' := by simp only [deliverAll, still, still', met]
      _ = b' := deliverAll_of_none_waiting e b' sent
  rw [same, ← hb']
  exact plungerPress_isSet ..

end Sys2Proof.Machine

/-! SUPPORT. What SERVICE RESET does of announcements, FAILED breakers and the NODE_LOST of LOST neighbours (R62, R144, R147, R204). -/

namespace Sys2Proof.Machine

/-! ### Chains that are dropped (R171, R204) -/

theorem releaseMessages_eq (ids : List Nat) : ∀ b : Blocks, ids.foldl releaseMessage b =
    b.setStore (ids.foldl (fun s id => s.freeWhere (Holder.isOfMessage id)) b.store) := by
  induction ids with
  | nil => exact fun _ => rfl
  | cons id ids ih => exact fun b => ih _

theorem mem_freeMessage {s : Store} {i id part : Nat} (h : some (.message id part) ∈ (s.freeWhere (Holder.isOfMessage i)).blocks) :
    some (.message id part) ∈ s.blocks ∧ id ≠ i := by
  refine ⟨mem_freeWhere h, fun same => ?_⟩
  obtain ⟨x, -, hx⟩ := List.mem_map.1 h
  split at hx
  next => cases hx
  next kept => exact kept (by simp [hx, Holder.isOfMessage, same])

theorem mem_freeMessages {id part : Nat} (ids : List Nat) : ∀ s : Store,
    some (.message id part) ∈ (ids.foldl (fun s id => s.freeWhere (Holder.isOfMessage id)) s).blocks →
      some (.message id part) ∈ s.blocks ∧ id ∉ ids := by
  induction ids with
  | nil => exact fun s h => ⟨h, List.not_mem_nil⟩
  | cons i ids ih =>
    intro s h
    obtain ⟨h, later⟩ := ih _ h
    obtain ⟨h, now⟩ := mem_freeMessage h
    exact ⟨h, by simp [now, later]⟩

theorem freeMessages_refusals (ids : List Nat) (s : Store) :
    (ids.foldl (fun s id => s.freeWhere (Holder.isOfMessage id)) s).refusals = s.refusals := by
  induction ids generalizing s with
  | nil => rfl
  | cons id ids ih => exact ih _

/-- What is left once the chains of a list have been dropped from a zone. -/
structure Dropped (z : Zone) (l : List Chain) (b b' : Blocks) : Prop where
  queue : ∀ d ∈ b'.announce.queues.get z, d ∈ b.announce.queues.get z ∧ ∀ c ∈ l, d.headId ≠ c.headId
  others : ∀ y, y ≠ z → b'.announce.queues.get y = b.announce.queues.get y
  channels : b'.announce.channels = b.announce.channels
  messages : ∀ id part, some (.message id part) ∈ b'.store.blocks →
    some (.message id part) ∈ b.store.blocks ∧ ∀ c ∈ l, id ∉ c.members.map (·.id)
  refusals : b'.store.refusals = b.store.refusals

theorem dropChain_dropped (b : Blocks) (z : Zone) (c : Chain) : Dropped z [c] b (dropChain b z c) := by
  rw [dropChain, releaseMessages_eq]
  refine ⟨fun d hd => ?_, fun y hy => ?_, rfl, fun id part h => ?_, freeMessages_refusals ..⟩
  · simpa [Blocks.setQueue, withoutChain] using hd
  · simp [Blocks.setQueue, hy]
  · obtain ⟨h, gone⟩ := mem_freeMessages _ _ h
    exact ⟨h, by simpa using gone⟩

theorem dropChains_dropped (z : Zone) (l : List Chain) : ∀ b : Blocks, Dropped z l b (l.foldl (fun b c => dropChain b z c) b) := by
  induction l with
  | nil => exact fun b => ⟨fun d hd => ⟨hd, by simp⟩, fun _ _ => rfl, rfl, fun id part h => ⟨h, by simp⟩, rfl⟩
  | cons c l ih =>
    intro b
    have first := dropChain_dropped b z c
    have rest := ih (dropChain b z c)
    refine ⟨fun d hd => ?_, fun y hy => (rest.others y hy).trans (first.others y hy), rest.channels.trans first.channels,
      fun id part h => ?_, rest.refusals.trans first.refusals⟩
    · obtain ⟨hd, later⟩ := rest.queue d hd
      obtain ⟨hd, now⟩ := first.queue d hd
      exact ⟨hd, List.forall_mem_cons.2 ⟨now c (by simp), later⟩⟩
    · obtain ⟨h, later⟩ := rest.messages id part h
      obtain ⟨h, now⟩ := first.messages id part h
      exact ⟨h, List.forall_mem_cons.2 ⟨now c (by simp), later⟩⟩

/-- Every chain of a zone dropped. -/
def dropQueue (b : Blocks) (z : Zone) : Blocks := (b.announce.queues.get z).foldl (fun b c => dropChain b z c) b

theorem dropQueue_dropped (b : Blocks) (z : Zone) : Dropped z (b.announce.queues.get z) b (dropQueue b z) := dropChains_dropped ..

theorem dropQueue_empty (b : Blocks) (z : Zone) : (dropQueue b z).announce.queues.get z = [] :=
  List.eq_nil_iff_forall_not_mem.2 fun d hd => by
    obtain ⟨was, gone⟩ := (dropQueue_dropped b z).queue d hd
    exact gone d was rfl

/-- What SERVICE RESET leaves of the announcements (R204). -/
structure AnnouncerReset (b b' : Blocks) : Prop where
  queues : ∀ z, b'.announce.queues.get z = []
  channels : b'.announce.channels = b.announce.channels.map fun _ => .idle
  faults : ∀ z, b'.announce.faults.get z = { fault := false, run := 0 }
  messages : ∀ id part, some (.message id part) ∈ b'.store.blocks →
    some (.message id part) ∈ b.store.blocks ∧ id ∉ b.announce.heldIds
  refusals : b'.store.refusals = b.store.refusals

theorem dropQueues_reset {b : Blocks} {c : Blocks} (hc : c = allZones.foldl dropQueue b) :
    (∀ z, c.announce.queues.get z = []) ∧ c.announce.channels = b.announce.channels
      ∧ (∀ id part, some (.message id part) ∈ c.store.blocks → some (.message id part) ∈ b.store.blocks ∧ id ∉ b.announce.heldIds)
      ∧ c.store.refusals = b.store.refusals := by
  subst hc
  have up := dropQueue_dropped b .up
  have down := dropQueue_dropped (dropQueue b .up) .down
  have concourse := dropQueue_dropped (dropQueue (dropQueue b .up) .down) .concourse
  refine ⟨fun z => ?_, concourse.channels.trans (down.channels.trans up.channels), fun id part h => ?_,
    concourse.refusals.trans (down.refusals.trans up.refusals)⟩
  · cases z with
    | up => exact (concourse.others .up (by decide)).trans ((down.others .up (by decide)).trans (dropQueue_empty b .up))
    | down => exact (concourse.others .down (by decide)).trans (dropQueue_empty _ .down)
    | concourse => exact dropQueue_empty _ .concourse
  · obtain ⟨h, notConcourse⟩ := concourse.messages id part h
    obtain ⟨h, notDown⟩ := down.messages id part h
    obtain ⟨h, notUp⟩ := up.messages id part h
    rw [down.others .concourse (by decide), up.others .concourse (by decide)] at notConcourse
    rw [up.others .down (by decide)] at notDown
    refine ⟨h, fun held => ?_⟩
    obtain ⟨z, -, hz⟩ := List.mem_flatMap.1 held
    obtain ⟨c, hc, hid⟩ := List.mem_flatMap.1 hz
    cases z with
    | up => exact notUp c hc hid
    | down => exact notDown c hc hid
    | concourse => exact notConcourse c hc hid

/-- Reports alone are queued. -/
structure Reported (b b' : Blocks) : Prop where
  announce : b'.announce = b.announce := by rfl
  store : b'.store = b.store := by rfl

theorem Reported.foldl {α : Type} {f : Blocks → α → Blocks} (hf : ∀ b x, Reported b (f b x)) (l : List α) (b : Blocks) :
    Reported b (l.foldl f b) :=
  foldl_related (fun _ => {}) (fun h k => ⟨k.announce.trans h.announce, k.store.trans h.store⟩) hf l b

theorem resetAnnouncer_reset (e : Env) (b : Blocks) : AnnouncerReset b (resetAnnouncer e b) := by
  have stops : Reported b (b.announce.numbered.foldl (resetStop e) b) := Reported.foldl (fun b x => by
    unfold resetStop
    split <;> exact {}) _ b
  generalize hs : b.announce.numbered.foldl (resetStop e) b = s at stops
  obtain ⟨queues, channels, messages, refusals⟩ := dropQueues_reset
    (b := s.setAnnounce { s.announce with channels := s.announce.channels.map fun _ => .idle }) rfl
  generalize hc : allZones.foldl dropQueue (s.setAnnounce { s.announce with channels := s.announce.channels.map fun _ => .idle }) = c
    at queues channels messages refusals
  have ended := Reported.foldl (f := fun b z => queueReport e b (.zoneFaultEnded z)) (fun _ _ => {})
    (allZones.filter fun z => (c.announce.faults.get z).fault)
    (c.setAnnounce { c.announce with faults := ⟨⟨false, 0⟩, ⟨false, 0⟩, ⟨false, 0⟩⟩ })
  have eq : resetAnnouncer e b = (allZones.filter fun z => (c.announce.faults.get z).fault).foldl
      (fun b z => queueReport e b (.zoneFaultEnded z))
      (c.setAnnounce { c.announce with faults := ⟨⟨false, 0⟩, ⟨false, 0⟩, ⟨false, 0⟩⟩ }) := by
    subst hc hs
    rfl
  rw [← eq] at ended
  refine ⟨fun z => ?_, ?_, fun z => ?_, fun id part h => ?_, ?_⟩
  · rw [ended.announce]
    exact queues z
  · rw [ended.announce]
    exact channels.trans (by rw [← stops.announce]; rfl)
  · rw [ended.announce]
    cases z <;> rfl
  · rw [ended.store] at h
    obtain ⟨was, free⟩ := messages id part h
    exact ⟨stops.store ▸ was, stops.announce ▸ free⟩
  · rw [ended.store]
    exact refusals.trans (congrArg Store.refusals stops.store)

/-! ### FAILED breakers (R144) -/

/-- A breaker stands in a state that is not FAILED, and no lockout stands on it. -/
def Blocks.settledAt (b : Blocks) (br : Breaker) (c : Condition) : Prop :=
  ∃ r, b.power.breakers.get br = some r ∧ r.condition = some c ∧ r.lockedOut = false

theorem Calm.settledAt {e : Env} {b b' : Blocks} (h : Calm e b b') {br : Breaker} {c : Condition} (hc : c ≠ .failed)
    (hb : b.settledAt br c) : b'.settledAt br c := by
  obtain ⟨r, hr, hcond, hl⟩ := hb
  obtain ⟨r', hr'⟩ := Option.isSome_iff_exists.1 ((h.present br).trans (by simp [hr]))
  obtain ⟨r₀, hr₀, eases⟩ := h.breakers br r' hr'
  obtain rfl := Option.some.inj (hr.symm.trans hr₀)
  refine ⟨r', hr', ?_, Bool.eq_false_iff.2 (mt eases.locked (Bool.eq_false_iff.1 hl))⟩
  exact (eases.steady (by simpa [hcond] using hc) hl).trans hcond

theorem Blocks.settledAt.condition {b : Blocks} {br : Breaker} {c : Condition} (h : b.settledAt br c) : b.condition br = some c := by
  obtain ⟨r, hr, hc, -⟩ := h
  simp [Blocks.condition, hr, hc]

/-- A FAILED breaker follows its input, whatever follows from it. -/
theorem resetFailed_settledAt {b : Blocks} {br : Breaker} {r : BreakerRecord} (h : b.power.breakers.get br = some r)
    (hf : r.condition = some .failed) (hl : r.lockedOut = false) (e : Env) : (resetFailed e b br).settledAt br r.followed := by
  rw [resetFailed_of_failed h hf]
  refine (setCondition_after e ..).calm.settledAt r.followed_ne_failed ?_
  exact ⟨_, modifyBreaker_get (modifyBreaker_get h _) _, rfl, hl⟩

theorem resetFailed_others (e : Env) (b : Blocks) {br y : Breaker} (hy : y ≠ br) :
    (resetFailed e b br).power.breakers.get y = b.power.breakers.get y := by
  by_cases h : ∃ r, b.power.breakers.get br = some r ∧ r.condition = some .failed
  · obtain ⟨r, hr, hf⟩ := h
    rw [resetFailed_of_failed hr hf]
    exact ((modifyBreaker_atBreaker ..).trans (setCondition_atBreaker ..)).others y hy
  · rw [resetFailed_of_not_failed fun r hr hf => h ⟨r, hr, hf⟩]

theorem foldl_resetFailed_settledAt (e : Env) {br : Breaker} {r : BreakerRecord} (hf : r.condition = some .failed)
    (hl : r.lockedOut = false) (l : List Breaker) : ∀ b : Blocks, br ∈ l → b.power.breakers.get br = some r →
      (l.foldl (resetFailed e) b).settledAt br r.followed := by
  induction l with
  | nil => exact fun _ hbr => absurd hbr (by simp)
  | cons y l ih =>
    intro b hbr h
    by_cases hy : br = y
    · subst hy
      exact (Sheds.foldl (fun _ _ => resetFailed_sheds e ..) l _).calm.settledAt r.followed_ne_failed (resetFailed_settledAt h hf hl e)
    · exact ih _ ((List.mem_cons.1 hbr).resolve_left hy) ((resetFailed_others e b hy).trans h)

/-- After its turn no breaker is FAILED. -/
theorem resetFailed_not_failed (e : Env) (b : Blocks) (br : Breaker) :
    ∀ r, (resetFailed e b br).power.breakers.get br = some r → r.condition ≠ some .failed := by
  intro r' hr' hf'
  by_cases h : ∃ r, b.power.breakers.get br = some r ∧ r.condition = some .failed
  · obtain ⟨r, hr, hf⟩ := h
    rw [resetFailed_of_failed hr hf] at hr'
    obtain ⟨r₀, hr₀, eases⟩ := (setCondition_after e ..).breakers br r' hr'
    rw [modifyBreaker_get (modifyBreaker_get hr _)] at hr₀
    have failed := eases.failed hf'
    rw [← Option.some.inj hr₀] at failed
    exact r.followed_ne_failed (Option.some.inj failed)
  · rw [resetFailed_of_not_failed fun r hr hf => h ⟨r, hr, hf⟩] at hr'
    exact h ⟨r', hr', hf'⟩

theorem clearWait_none (b : Blocks) (br : Breaker) : ∀ r, (clearWait b br).power.breakers.get br = some r → r.wait = none := by
  intro r hr
  cases h : b.power.breakers.get br with
  | none =>
    have same : clearWait b br = b := by simp [clearWait, modifyBreaker, h]
    rw [same, h] at hr
    cases hr
  | some r₀ =>
    rw [clearWait, modifyBreaker_get h] at hr
    obtain rfl := Option.some.inj hr
    rfl

/-- What a turn at each breaker brings about, and easing keeps, holds of every breaker after them all. -/
theorem foldl_breakers {e : Env} {P : BreakerRecord → Prop} {f : Blocks → Breaker → Blocks} (hf : ∀ b br, Sheds e b (f b br))
    (hP : ∀ b br r, (f b br).power.breakers.get br = some r → P r) (hk : ∀ r r' : BreakerRecord, r.Eases r' → P r → P r')
    (l : List Breaker) : ∀ b : Blocks, ∀ br ∈ l, ∀ r, (l.foldl f b).power.breakers.get br = some r → P r := by
  induction l with
  | nil => simp
  | cons y l ih =>
    intro b br hbr r hr
    rcases List.mem_cons.1 hbr with rfl | hbr
    · obtain ⟨r₀, hr₀, eases⟩ := (Sheds.foldl hf l _).breakers br r hr
      exact hk r₀ r eases (hP b br r₀ hr₀)
    · exact ih _ br hbr r hr

theorem mem_allBreakers (br : Breaker) : br ∈ allBreakers := by cases br <;> decide

/-! ### A fresh serial (R147) -/

/-- Among as many candidates as serials are held and one more, one is free. -/
theorem nextSerial_not_mem {held : List Nat} (h : held.length < 255) (last : Nat) : nextSerial held last ∉ held := by
  have candidates : ((List.range (held.length + 1)).map fun i => (last + i) % 255 + 1).Nodup := by
    refine List.Nodup.map_on (fun i hi j hj same => ?_) List.nodup_range
    rw [List.mem_range] at hi hj
    omega
  have free : ∃ n ∈ (List.range (held.length + 1)).map fun i => (last + i) % 255 + 1, n ∉ held := by
    by_contra all
    push Not at all
    have := (candidates.subperm all).length_le
    simp at this
  unfold nextSerial
  cases hf : ((List.range (held.length + 1)).map fun i => (last + i) % 255 + 1).find? fun n => decide (n ∉ held) with
  | none =>
    obtain ⟨n, hn, hfree⟩ := free
    exact absurd (List.find?_eq_none.1 hf n hn) (by simpa using hfree)
  | some n => simpa using List.find?_some hf

theorem newRecord_fresh {e : Env} {b : Blocks} (h : b.incidents.records.length < 255) (x : Raise) : b.lacks (b.newRecord e x).id := by
  intro r hr same
  have short : (b.incidents.serials e.nodeNumber).length < 255 :=
    lt_of_le_of_lt (by simpa [IncidentTable.serials] using List.length_filter_le ..) h
  refine nextSerial_not_mem short b.incidents.lastSerial (List.mem_map.2 ⟨r, List.mem_filter.2 ⟨hr, ?_⟩, congrArg IncidentId.serial same⟩)
  exact decide_eq_true (congrArg IncidentId.origin same)

/-! ### NODE_LOST held for a LOST neighbour (R61, R62) -/

/-- The NODE_LOST of a neighbour stands in the table under the id held for it. -/
def Blocks.holdsLost (e : Env) (b : Blocks) (peer : Nat) : Prop :=
  ∃ id r, b.peers.lostId e peer = some id ∧ b.incidents.find id = some r ∧ LostRecord e peer r

theorem PeerView.lostId_setLostId_other {v : PeerView} {e : Env} {other peer : Nat}
    (side : decide (other < e.nodeNumber) ≠ decide (peer < e.nodeNumber)) (id : Option IncidentId) :
    (v.setLostId e peer id).lostId e other = v.lostId e other := by
  unfold PeerView.lostId PeerView.setLostId
  by_cases ho : other < e.nodeNumber
  · have hp : ¬ peer < e.nodeNumber := fun hp => side (by rw [decide_eq_true ho, decide_eq_true hp])
    rw [if_pos ho, if_pos ho, if_neg hp]
  · have hp : peer < e.nodeNumber := by_contra fun hp => side (by rw [decide_eq_false ho, decide_eq_false hp])
    rw [if_neg ho, if_neg ho, if_pos hp]

theorem find_map_refreshedAt {l : List Incident} {id i : IncidentId} :
    (l.map (refreshedAt id)).find? (fun r => decide (r.id = i)) = (l.find? fun r => decide (r.id = i)).map (refreshedAt id) := by
  have same : ((fun r : Incident => decide (r.id = i)) ∘ refreshedAt id) = fun r => decide (r.id = i) := by
    funext r
    simp [(refreshedAt_standsOn id r).id_eq]
  rw [List.find?_map, same]

theorem makeRoom_of_short {e : Env} {b : Blocks} (h : b.incidents.records.length < 32) (severity : Nat) (isLocal : Bool) :
    makeRoom e b severity isLocal = some b := if_pos h

section
variable {e : Env} {b : Blocks} {peer : Nat} (hc : e.configured = true) (hn : e.isNeighbour peer = true)
  (hl : b.peers.lostId e peer = none) (h : b.incidents.records.length < 32)
include hc hn hl h

theorem raiseLost_records : (raiseLost e b peer).incidents.records =
    (b.incidents.records ++ [b.newRecord e (lostRaise e peer)]).map (refreshedAt (b.newRecord e (lostRaise e peer)).id) := by
  rw [raiseLost_eq hc hn hl]
  exact (raiseIncident_of_room (makeRoom_of_short h ..) none).2

theorem raiseLost_peers : (raiseLost e b peer).peers =
    b.peers.setLostId e peer (some (b.newRecord e (lostRaise e peer)).id) := by
  rw [raiseLost_eq hc hn hl]
  have raised := raiseNodeLost_calm e b (x := lostRaise e peer) rfl none
  rw [(raiseIncident_of_room (x := lostRaise e peer) (makeRoom_of_short h ..) none).1, Blocks.setPeers_peers, raised.peers]

theorem raiseLost_length : (raiseLost e b peer).incidents.records.length = b.incidents.records.length + 1 := by
  simp [raiseLost_records hc hn hl h]

theorem raiseLost_holdsLost : (raiseLost e b peer).holdsLost e peer := by
  have fresh := newRecord_fresh (e := e) (b := b) (by omega) (lostRaise e peer)
  refine ⟨(b.newRecord e (lostRaise e peer)).id, refreshedAt (b.newRecord e (lostRaise e peer)).id (b.newRecord e (lostRaise e peer)),
    ?_, ?_, (newRecord_lostRecord e b peer).standsOn (refreshedAt_standsOn ..)⟩
  · rw [raiseLost_peers hc hn hl h]
    unfold PeerView.lostId PeerView.setLostId
    split <;> rfl
  · have absent : b.incidents.records.find? (fun r => decide (r.id = (b.newRecord e (lostRaise e peer)).id)) = none :=
      List.find?_eq_none.2 fun r hr => by simpa using fresh r hr
    rw [IncidentTable.find, raiseLost_records hc hn hl h, find_map_refreshedAt, List.find?_append, absent]
    simp

/-- What stands for the other neighbour stays. -/
theorem raiseLost_holdsLost_other {other : Nat} (side : decide (other < e.nodeNumber) ≠ decide (peer < e.nodeNumber))
    (hb : b.holdsLost e other) : (raiseLost e b peer).holdsLost e other := by
  obtain ⟨id, r, held, found, lost⟩ := hb
  refine ⟨id, refreshedAt _ r, ?_, ?_, lost.standsOn (refreshedAt_standsOn (b.newRecord e (lostRaise e peer)).id r)⟩
  · rw [raiseLost_peers hc hn hl h, ← held]
    exact PeerView.lostId_setLostId_other side _
  · have found : b.incidents.records.find? (fun r => decide (r.id = id)) = some r := found
    rw [IncidentTable.find, raiseLost_records hc hn hl h, find_map_refreshedAt, List.find?_append, found]
    rfl

end

/-- One turn of `raiseStandingLost`. -/
def raiseStanding (e : Env) (b : Blocks) (peer : Nat) : Blocks :=
  if (b.peers.entry peer).liveness = .lost then raiseLost e b peer else b

theorem raiseStandingLost_eq (e : Env) (b : Blocks) : raiseStandingLost e b = e.neighbours.foldl (raiseStanding e) b := rfl

/-- What one turn does for its own neighbour and leaves of the other. -/
structure RaisedStanding (e : Env) (peer : Nat) (b b' : Blocks) : Prop where
  table : b'.peers.table = b.peers.table
  length : b'.incidents.records.length ≤ b.incidents.records.length + 1
  own : (b.peers.entry peer).liveness = .lost → b'.holdsLost e peer
  other : ∀ o, decide (o < e.nodeNumber) ≠ decide (peer < e.nodeNumber) →
    b'.peers.lostId e o = b.peers.lostId e o ∧ (b.holdsLost e o → b'.holdsLost e o)

theorem raiseStanding_raised {e : Env} {b : Blocks} {peer : Nat} (hc : e.configured = true) (hn : e.isNeighbour peer = true)
    (hl : b.peers.lostId e peer = none) (h : b.incidents.records.length < 32) : RaisedStanding e peer b (raiseStanding e b peer) := by
  unfold raiseStanding
  split
  case isTrue lost =>
    have peers := raiseLost_peers hc hn hl h
    exact
      { table := (congrArg _ peers).trans (setLostId_table ..)
        length := (raiseLost_length hc hn hl h).le
        own := fun _ => raiseLost_holdsLost hc hn hl h
        other := fun o side =>
          ⟨(congrArg (·.lostId e o) peers).trans (PeerView.lostId_setLostId_other side _), raiseLost_holdsLost_other hc hn hl h side⟩ }
  case isFalse lost => exact ⟨rfl, Nat.le_succ _, fun is => absurd is lost, fun o _ => ⟨rfl, id⟩⟩

/-- Turns for neighbours of different sides, each with no id held before and room for all. -/
theorem foldl_raiseStanding {e : Env} (hc : e.configured = true) (l : List Nat)
    (hs : l.Pairwise fun p q => decide (p < e.nodeNumber) ≠ decide (q < e.nodeNumber)) : ∀ b : Blocks,
      (∀ q ∈ l, e.isNeighbour q = true ∧ b.peers.lostId e q = none) → b.incidents.records.length + l.length ≤ 32 →
      (∀ p ∈ l, (b.peers.entry p).liveness = .lost → (l.foldl (raiseStanding e) b).holdsLost e p)
        ∧ ∀ o, (∀ q ∈ l, decide (o < e.nodeNumber) ≠ decide (q < e.nodeNumber)) → b.holdsLost e o →
          (l.foldl (raiseStanding e) b).holdsLost e o := by
  induction l with
  | nil => exact fun b _ _ => ⟨by simp, fun _ _ h => h⟩
  | cons q l ih =>
    intro b free room
    obtain ⟨apart, hs⟩ := List.pairwise_cons.1 hs
    obtain ⟨⟨near, unheld⟩, free⟩ := List.forall_mem_cons.1 free
    rw [List.length_cons] at room
    have raised := raiseStanding_raised hc near unheld (by omega)
    have length := raised.length
    obtain ⟨own, other⟩ := ih hs (raiseStanding e b q)
      (fun p hp => ⟨(free p hp).1, ((raised.other p (apart p hp).symm).1).trans (free p hp).2⟩) (by omega)
    refine ⟨fun p hp lost => ?_, fun o ho held => ?_⟩
    · rcases List.mem_cons.1 hp with rfl | hp
      · exact other _ apart (raised.own lost)
      · exact own p hp (by rw [entry_congr raised.table]; exact lost)
    · obtain ⟨here, there⟩ := List.forall_mem_cons.1 ho
      exact other o there ((raised.other o here).2 held)

theorem isNeighbour_iff (e : Env) (p : Nat) : e.isNeighbour p = true ↔
    1 ≤ e.nodeNumber ∧ p + 1 = e.nodeNumber ∨ p = e.nodeNumber + 1 ∧ e.nodeNumber + 2 ≤ e.lineCount := by
  simp [Env.isNeighbour]

theorem mem_neighbours (e : Env) (p : Nat) : p ∈ e.neighbours ↔ e.isNeighbour p = true := by
  rw [isNeighbour_iff, Env.neighbours, List.mem_append, List.mem_ite_nil_right, List.mem_ite_nil_right, List.mem_singleton,
    List.mem_singleton]
  omega

/-- The neighbours are two at most, one on each side. -/
theorem neighbours_apart (e : Env) : e.neighbours.length ≤ 2
    ∧ e.neighbours.Pairwise fun p q => decide (p < e.nodeNumber) ≠ decide (q < e.nodeNumber) := by
  unfold Env.neighbours
  split
  case isTrue low =>
    have below : e.nodeNumber - 1 < e.nodeNumber := by omega
    split <;> simp [below]
  case isFalse => split <;> simp

/-- With room for two records every LOST neighbour has its NODE_LOST. -/
theorem raiseStandingLost_holdsLost {e : Env} {b : Blocks} (hc : e.configured = true) (hlow : b.peers.lostLow = none)
    (hhigh : b.peers.lostHigh = none) (h : b.incidents.records.length < 31) {p : Nat} (hn : e.isNeighbour p = true)
    (hl : (b.peers.entry p).liveness = .lost) : (raiseStandingLost e b).holdsLost e p := by
  obtain ⟨few, apart⟩ := neighbours_apart e
  rw [raiseStandingLost_eq]
  refine (foldl_raiseStanding hc e.neighbours apart b (fun q hq => ⟨(mem_neighbours e q).1 hq, ?_⟩) (by omega)).1 p
    ((mem_neighbours e p).2 hn) hl
  unfold PeerView.lostId
  split
  · exact hlow
  · exact hhigh

end Sys2Proof.Machine

/-! SUPPORT. SERVICE RESET block by block: what is cleared first, the breakers, the records, and NODE_LOST at the end (R14). -/

namespace Sys2Proof.Machine

/-! ### The stages of a SERVICE RESET -/

/-- The blocks with timetable, queues, announcements, platforms, occupancy filters and removable frames cleared. -/
def clearedForReset (e : Env) (b : Blocks) : Blocks :=
  removeFrames (restartOccupancy (allTracks.foldl resetPlatform
    (resetAnnouncer e (allTracks.foldl (fun b t => b.setApproach t []) (emptyTimetable b .empty)))))

/-- Restore waits ended and FAILED breakers following their inputs (R144). -/
def resetBreakers (e : Env) (b : Blocks) : Blocks := allBreakers.foldl (resetFailed e) (allBreakers.foldl clearWait b)

/-- The Peer View with no NODE_LOST held (R62). -/
def PeerView.unheld (p : PeerView) : PeerView := { p with lostLow := none, lostHigh := none }

@[simp] theorem PeerView.unheld_table (p : PeerView) : p.unheld.table = p.table := rfl
@[simp] theorem PeerView.unheld_starts (p : PeerView) : p.unheld.starts = p.starts := rfl

/-- The local records closed and the breakers that were FAILED under a lockout opened (R144, R167). -/
def closedForReset (e : Env) (failed : List Breaker) (b : Blocks) : Blocks :=
  failed.foldl (openIfLocked e) (closeWhere e (b.setPeers b.peers.unheld) (fun _ => true) .reset)

theorem applyReset_eq (e : Env) (b : Blocks) : ∃ failed,
    applyReset e b = raiseStandingLost e (closedForReset e failed (resetBreakers e (clearedForReset e b))) := ⟨_, rfl⟩

/-! ### What is cleared first -/

/-- What the first stage leaves. -/
structure Cleared (b c : Blocks) : Prop where
  timetable : c.timetable = { sequences := ⟨[], []⟩, load := .empty, lastPart := none }
  describer : ∀ t, c.describer.get t = []
  platforms : ∀ t, c.platforms.get t = .atReset
  starters : ∀ t, c.field.starters.get t = false
  filters : c.field.filters = { b.field.filters with occupancy := ⟨.unsettled, .unsettled⟩ }
  delivered : c.field.waiting = b.field.waiting
  waiting : ∀ f ∈ c.bus.waiting, f.cls.removable = false
  tx : c.bus.tx = removeHand b.bus.tx c.bus.waiting
  peers : c.peers = b.peers
  power : c.power = b.power
  incidents : c.incidents = b.incidents
  announcer : AnnouncerReset b c

theorem clearedForReset_cleared (e : Env) (b : Blocks) : Cleared b (clearedForReset e b) := by
  have announced := resetAnnouncer_announced e (allTracks.foldl (fun b t => b.setApproach t []) (emptyTimetable b .empty))
  have reset := resetAnnouncer_reset e (allTracks.foldl (fun b t => b.setApproach t []) (emptyTimetable b .empty))
  unfold clearedForReset
  generalize resetAnnouncer e (allTracks.foldl (fun b t => b.setApproach t []) (emptyTimetable b .empty)) = c at announced reset
  exact
    { timetable := announced.timetable
      describer := fun t => by
        refine (congrArg (·.get t) announced.describer).trans ?_
        cases t <;> rfl
      platforms := fun t => by cases t <;> rfl
      starters := fun t => by cases t <;> rfl
      filters := congrArg (fun f : FieldState => { f.filters with occupancy := ⟨.unsettled, .unsettled⟩ }) announced.field
      delivered := (congrArg FieldState.waiting announced.field : c.field.waiting = b.field.waiting)
      waiting := fun f hf => by simpa using (List.mem_filter.1 hf).2
      tx := congrArg (fun l : Linebus => removeHand l.tx (c.bus.waiting.filter fun f => !f.cls.removable)) announced.bus
      peers := announced.peers
      power := announced.power
      incidents := announced.incidents
      announcer := ⟨reset.queues, reset.channels, reset.faults, reset.messages, reset.refusals⟩ }

theorem Cleared.still {e : Env} {b c : Blocks} (h : Cleared b c) (hs : e.inService = false) : Still e c :=
  ⟨hs, h.announcer.queues, fun t => by rw [h.platforms t]; rfl⟩

/-! ### The frames left (R49) -/

theorem FrameClass.removable_iff (c : FrameClass) : c.removable = true ↔ c = .depart ∨ c = .announce := by
  cases c <;> simp [FrameClass.removable]

theorem removeHand_backoff {h : Hand} (hr : h.frame.cls.removable = true) (kept : List Frame) :
    removeHand (.backoff h) kept = .idle ∨ removeHand (.backoff h) kept = .waiting := by
  simp only [removeHand, hr, if_true]
  split <;> simp

theorem removeHand_sending {h : Hand} (hr : h.frame.cls.removable = true) (kept : List Frame) :
    removeHand (.sending h) kept = .sending { h with doomed := true } := if_pos hr

theorem removeHand_sending_kept {h : Hand} (hr : h.frame.cls.removable = false) (kept : List Frame) :
    removeHand (.sending h) kept = .sending h := by simp [removeHand, hr]

theorem removeHand_backoff_kept {h : Hand} (hr : h.frame.cls.removable = false) (kept : List Frame) :
    removeHand (.backoff h) kept = .backoff h := by simp [removeHand, hr]

theorem Frame.eq_status {f : Frame} (h : f.cls = .status) : ∃ c, f = .status c := by
  cases f with
  | status c => exact ⟨c, rfl⟩
  | _ => cases h

/-- A transmitter that keeps what is freed sends no frame in hand any more. -/
theorem TxKept.freed {x y : Transmitter} (h : TxKept x y) (hx : x = .idle ∨ x = .waiting) : y = .idle ∨ y = .waiting := by
  rcases hx with rfl | rfl
  · exact h
  · exact .inr h

/-- A frame in BACKOFF stays there, a STATUS frame with whatever snapshot. -/
theorem TxKept.backoff {h : Hand} {y : Transmitter} (k : TxKept (.backoff h) y) :
    (h.frame.cls ≠ .status → y = .backoff h) ∧ (h.frame.cls = .status → ∃ c, y = .backoff { h with frame := .status c }) := by
  rcases k with rfl | ⟨status, c, rfl⟩
  · refine ⟨fun _ => rfl, fun status => ?_⟩
    obtain ⟨c, hc⟩ := Frame.eq_status status
    exact ⟨c, by rw [← hc]⟩
  · exact ⟨fun other => absurd (of_decide_eq_true status) other, fun _ => ⟨c, rfl⟩⟩

/-- A removed frame in hand leaves from BACKOFF and is marked in SENDING. -/
theorem TxKept.removed {x y : Transmitter} {kept : List Frame} (k : TxKept (removeHand x kept) y) {h : Hand}
    (hr : h.frame.cls = .depart ∨ h.frame.cls = .announce) :
    (x = .backoff h → y = .idle ∨ y = .waiting) ∧ (x = .sending h → y = .sending { h with doomed := true }) := by
  have removable := (FrameClass.removable_iff _).2 hr
  refine ⟨fun hand => ?_, fun hand => ?_⟩
  · exact k.freed (hand ▸ removeHand_backoff removable kept)
  · rw [hand, removeHand_sending removable] at k
    exact k

/-- Any other frame in hand stays. -/
theorem TxKept.not_removed {x y : Transmitter} {kept : List Frame} (k : TxKept (removeHand x kept) y) {h : Hand}
    (hd : h.frame.cls ≠ .depart) (ha : h.frame.cls ≠ .announce) :
    (x = .sending h → y = .sending h) ∧ (x = .backoff h → h.frame.cls ≠ .status → y = .backoff h)
      ∧ (x = .backoff h → h.frame.cls = .status → ∃ c, y = .backoff { h with frame := .status c }) := by
  have stays : h.frame.cls.removable = false := Bool.eq_false_iff.2 (mt (FrameClass.removable_iff _).1 (not_or.2 ⟨hd, ha⟩))
  have inBackoff (hand : x = .backoff h) : TxKept (.backoff h) y := by
    rw [hand, removeHand_backoff_kept stays] at k
    exact k
  refine ⟨fun hand => ?_, fun hand => (inBackoff hand).backoff.1, fun hand => (inBackoff hand).backoff.2⟩
  rw [hand, removeHand_sending_kept stays] at k
  exact k

/-! ### The breakers (R144) -/

theorem resetBreakers_sheds (e : Env) (b : Blocks) : Sheds e b (resetBreakers e b) :=
  .trans (Sheds.foldl (clearWait_sheds e) _ b) (Sheds.foldl (resetFailed_sheds e) _ _)

theorem resetBreakers_reset (e : Env) (b : Blocks) :
    ∀ br r, (resetBreakers e b).power.breakers.get br = some r → r.condition ≠ some .failed ∧ r.wait = none := by
  intro br r hr
  refine ⟨foldl_breakers (e := e) (P := fun r => r.condition ≠ some .failed) (resetFailed_sheds e) (resetFailed_not_failed e)
    (fun _ _ eases h => mt eases.failed h) allBreakers _ br (mem_allBreakers br) r hr, ?_⟩
  obtain ⟨r₀, hr₀, eases⟩ := (Sheds.foldl (resetFailed_sheds e) allBreakers (allBreakers.foldl clearWait b)).breakers br r hr
  have ended : r₀.wait = none := foldl_breakers (e := e) (P := fun r => r.wait = none) (clearWait_sheds e) clearWait_none
    (fun _ _ eases h => eases.wait.elim id fun same => same.trans h) allBreakers b br (mem_allBreakers br) r₀ hr₀
  exact eases.wait.elim id fun same => same.trans ended

/-- Of a breaker's record the restore wait alone ends. -/
theorem foldl_clearWait_get {br : Breaker} {r : BreakerRecord} (l : List Breaker) : ∀ (b : Blocks) (w : Option RestoreWait),
    b.power.breakers.get br = some { r with wait := w } →
      ∃ w', (l.foldl clearWait b).power.breakers.get br = some { r with wait := w' } := by
  induction l with
  | nil => exact fun b w h => ⟨w, h⟩
  | cons y l ih =>
    intro b w h
    by_cases hy : br = y
    · subst hy
      exact ih _ none (modifyBreaker_get h _)
    · exact ih _ w (((modifyBreaker_atBreaker ..).others br hy).trans h)

theorem resetBreakers_settledAt (e : Env) {b : Blocks} {br : Breaker} {r : BreakerRecord} (h : b.power.breakers.get br = some r)
    (hf : r.condition = some .failed) (hl : r.lockedOut = false) : (resetBreakers e b).settledAt br r.followed := by
  obtain ⟨w, hw⟩ := foldl_clearWait_get allBreakers b r.wait h
  exact foldl_resetFailed_settledAt e (r := { r with wait := w }) hf hl allBreakers _ (mem_allBreakers br) hw

/-! ### The records (R62, R167) -/

theorem closedForReset_sheds (e : Env) (failed : List Breaker) (b : Blocks) :
    Sheds e (b.setPeers b.peers.unheld) (closedForReset e failed b) :=
  .trans (closeWhere_sheds ..) (Sheds.foldl (openIfLocked_sheds e) _ _)

/-- No local record is left before NODE_LOST is raised anew. -/
theorem closedForReset_copies (e : Env) (failed : List Breaker) (b : Blocks) :
    ∀ r ∈ (closedForReset e failed b).incidents.records, r.isLocal = false := by
  intro r hr
  obtain ⟨r₀, hr₀, stands⟩ := (Sheds.foldl (openIfLocked_sheds e) failed
    (closeWhere e (b.setPeers b.peers.unheld) (fun _ => true) .reset)).records.mem hr
  have copy : r₀.isLocal = false := Bool.eq_false_iff.2 fun own => by
    simpa using closeWhere_leaves (e := e) (b := b.setPeers b.peers.unheld) (p := fun _ => true) (reason := .reset) (fun _ _ _ => rfl)
      r₀ hr₀ own
  exact stands.isLocal.trans copy

/-- A copy stands as it was. -/
theorem Incident.StandsOn.of_copy {r r' : Incident} (h : r.StandsOn r') (hc : r'.isLocal = false) : r' = r := by
  have copy := h.isLocal.symm.trans hc
  rcases h with rfl | ⟨o, o', ho, -⟩
  · rfl
  · simp [Incident.isLocal, ho, Holding.isLocal] at copy

/-! ### SERVICE RESET as a whole -/

/-- What stands between the first stage and the last: all is as cleared but for the breakers, the records and the Peer View's ids. -/
structure ResetFrom (e : Env) (c b' : Blocks) : Prop where
  calm : Calm e (c.setPeers b'.peers) b'
  settled : ∀ br r, c.power.breakers.get br = some r → r.condition = some .failed → r.lockedOut = false → b'.settledAt br r.followed
  breakers : ∀ br r, b'.power.breakers.get br = some r → r.condition ≠ some .failed ∧ r.wait = none
  table : b'.peers.table = c.peers.table
  starts : b'.peers.starts = c.peers.starts
  locals : ∀ r ∈ b'.incidents.records, r.isLocal = true →
    ∃ peer, e.isNeighbour peer = true ∧ (c.peers.entry peer).liveness = .lost ∧ LostRecord e peer r
  copies : ∀ r ∈ b'.incidents.records, r.isLocal = false → r ∈ c.incidents.records
  lost : e.configured = true → c.incidents.records.length < 31 → ∀ peer, e.isNeighbour peer = true →
    (c.peers.entry peer).liveness = .lost → b'.holdsLost e peer

theorem resetFrom (e : Env) (failed : List Breaker) (c : Blocks) :
    ResetFrom e c (raiseStandingLost e (closedForReset e failed (resetBreakers e c))) := by
  have turned := resetBreakers_sheds e c
  have waits := resetBreakers_reset e c
  have settles := fun {br r} => resetBreakers_settledAt e (b := c) (br := br) (r := r)
  generalize resetBreakers e c = s at turned waits settles
  have closed := closedForReset_sheds e failed s
  have copies := closedForReset_copies e failed s
  generalize closedForReset e failed s = d at closed copies
  have raised := raiseStandingLost_lostRaised e d
  have holds := fun hc hlow hhigh h {p} hn hl => raiseStandingLost_holdsLost (e := e) (b := d) (p := p) hc hlow hhigh h hn hl
  generalize raiseStandingLost e d = b' at raised holds
  have peers : d.peers = c.peers.unheld := closed.peers.trans (congrArg PeerView.unheld turned.peers)
  have entry (p : Nat) : d.peers.entry p = c.peers.entry p := entry_congr (congrArg PeerView.table peers) p
  have records : RecordsFrom c d := turned.records.trans closed.records
  have later : Calm e (s.setPeers b'.peers) b' := .trans (closed.calm.setPeers b'.peers) raised.calm
  refine ⟨.trans (turned.calm.setPeers b'.peers) later, fun br r hr hf hl => ?_, fun br r hr => ?_, ?_, ?_, fun r hr own => ?_,
    fun r hr copy => ?_, fun hc room p near lost => ?_⟩
  · exact later.settledAt r.followed_ne_failed (settles hr hf hl)
  · obtain ⟨r₀, hr₀, eases⟩ := later.breakers br r hr
    obtain ⟨failed, wait⟩ := waits br r₀ hr₀
    exact ⟨mt eases.failed failed, eases.wait.elim id fun same => same.trans wait⟩
  · rw [raised.table, peers, PeerView.unheld_table]
  · rw [raised.starts, peers, PeerView.unheld_starts]
  · rcases raised.records r hr with ⟨r₀, hr₀, stands⟩ | ⟨p, near, lost, new⟩
    · exact absurd (stands.isLocal.symm.trans own) (by simp [copies r₀ hr₀])
    · exact ⟨p, near, entry p ▸ lost, new⟩
  · rcases raised.records r hr with ⟨r₀, hr₀, stands⟩ | ⟨p, -, -, new⟩
    · obtain ⟨r₁, hr₁, stood⟩ := records.mem hr₀
      exact (stood.trans stands).of_copy copy ▸ hr₁
    · exact absurd (new.isLocal.symm.trans copy) (by simp)
  · exact holds hc (by rw [peers]; rfl) (by rw [peers]; rfl) (lt_of_le_of_lt records.length_le room) near (by rw [entry]; exact lost)

/-! ### The request -/

theorem serviceReset_refused {n : Node} {t : Track} (h : (n.delivered.blk.power.latches.get t).isSet = true) :
    serviceReset n = (n.delivered, .plain .estopActive) := by
  unfold serviceReset
  dsimp only
  refine if_pos ?_
  cases t
  · exact .inl h
  · exact .inr h

theorem serviceReset_taken {n : Node} (h : ∀ t, (n.delivered.blk.power.latches.get t).isSet = false) {e : Env}
    (he : e = { n.env with nodeState := .ready }) : serviceReset n = (⟨e, applyReset e n.delivered.blk⟩, .plain .ok) := by
  subst he
  refine if_neg ?_
  rintro (up | down)
  · exact absurd (up.symm.trans (h .up)) (by simp)
  · exact absurd (down.symm.trans (h .down)) (by simp)

theorem exec_serviceReset_answered {e : Env} {b : Blocks} {tag : Byte} {n : Node} {reply : Reply} (ht : takes b .node 4 tag [])
    (hs : e.nodeState ≠ .configuring) (hd : serviceReset ⟨e, received b⟩ = (n, reply)) (q : List Instr) :
    exec (.serviceReset tag []) ⟨⟨e, b⟩, q⟩ = .next (answered n.env n.blk q .node tag (char reply.status.code :: reply.fields)) := by
  have permitted : Allowed.permits .configured e.nodeState = true := by
    cases h : e.nodeState with
    | configuring => exact absurd h hs
    | ready => rfl
    | service => rfl
  rw [exec_serviceReset]
  exact congrArg _ (request_answered ht _ _ _ ((dispatch_good permitted _).trans hd) q)

/-- A peer that stands LOST stands in the table. -/
theorem lost_entry {v : PeerView} {p : Nat} (h : (v.entry p).liveness = .lost) : ∃ pe, v.table[p]? = some pe ∧ pe.liveness = .lost := by
  unfold PeerView.entry at h
  cases hp : v.table[p]? with
  | none => simp [hp, PeerEntry.unheard] at h
  | some pe => exact ⟨pe, rfl, by simpa [hp] using h⟩

theorem entry_of_table {v : PeerView} {p : Nat} {pe : PeerEntry} (h : v.table[p]? = some pe) : v.entry p = pe := by
  simp [PeerView.entry, h]

/-- Settles O47: the deliveries come first; then `Cleared` says what is cleared and `ResetFrom` what of it the rest changes. -/
theorem serviceResetClears : Obligations.ServiceResetClears := by
  intro e b x q tag ht hs hx
  refine ⟨fun ⟨t, set⟩ => ?_, fun t stamp lone => ?_, fun clear => ?taken⟩
  · subst hx
    exact exec_serviceReset_answered ht hs (serviceReset_refused (n := ⟨e, received b⟩) set) q
  · subst hx
    exact exec_serviceReset_answered ht hs (serviceReset_refused (n := ⟨e, received b⟩) (lone_press_latches lone)) q
  case taken =>
    obtain ⟨delivered, brought⟩ := deliverAll_delivering e (received b)
    rw [← hx] at delivered brought
    have taken := serviceReset_taken (n := ⟨e, received b⟩) (e := { e with nodeState := .ready }) (by subst hx; exact clear) rfl
    have same : (⟨e, received b⟩ : Node).delivered.blk = x := hx.symm
    rw [same] at taken
    refine ⟨_, exec_serviceReset_answered ht hs taken q, ?_⟩
    generalize he : ({ e with nodeState := .ready } : Env) = e'
    obtain ⟨failed, eq⟩ := applyReset_eq e' x
    rw [eq]
    have cleared := clearedForReset_cleared e' x
    generalize clearedForReset e' x = c at cleared
    have reset := resetFrom e' failed c
    generalize raiseStandingLost e' (closedForReset e' failed (resetBreakers e' c)) = b' at reset
    have still : Still e' (c.setPeers b'.peers) := by
      obtain ⟨service, queues, vacant⟩ := cleared.still (e := e') (by subst he; rfl)
      exact ⟨service, queues, vacant⟩
    obtain ⟨starters, announce, refusals, messages⟩ := reset.calm.still still
    have kept := reset.calm.keeps
    have tx : TxKept (removeHand x.bus.tx c.bus.waiting) b'.bus.tx := cleared.tx ▸ kept.bus.tx
    have entry (p : Nat) : c.peers.entry p = x.peers.entry p := by rw [cleared.peers]
    refine ⟨kept.timetable.trans cleared.timetable, fun t => ⟨?_, ?_, ?_, ?_, ?_⟩, fun br r hr hf hl => ?_, fun z => ⟨?_, ?_⟩, ?_,
      fun held id part hm => ?_, refusals.trans cleared.announcer.refusals, fun f hf => ?_, fun _ hr => tx.removed hr,
      fun _ hd ha => tx.not_removed hd ha, reset.breakers, fun r hr own => ?_,
      fun p pe near hp lost room => ?_, fun r hr copy => ?_, reset.table.trans (congrArg PeerView.table cleared.peers),
      reset.starts.trans (congrArg PeerView.starts cleared.peers), ?_, ?_⟩
    · rw [kept.describer]
      exact cleared.describer t
    · rw [starters]
      exact cleared.starters t
    · exact (kept.spares.platform_of_vacant (still.vacant t)).trans (cleared.platforms t)
    · rw [kept.filters]
      refine (congrArg (fun f : Filters => f.occupancy.get t) cleared.filters).trans ?_
      cases t <;> rfl
    · rw [kept.delivered]
      refine (congrArg (fun w : Deliveries => w.occupancy.get t) cleared.delivered).trans (brought ?_ t)
      simpa [Env.configured] using hs
    · rw [← cleared.power] at hr
      exact (reset.settled br r hr hf hl).condition
    · rw [announce]
      exact cleared.announcer.queues z
    · rw [announce]
      exact cleared.announcer.faults z
    · rw [announce]
      exact cleared.announcer.channels
    · obtain ⟨was, free⟩ := cleared.announcer.messages id part (messages id part hm)
      exact free (held id part was)
    · refine not_or.1 fun gone => ?_
      have removed := (FrameClass.removable_iff _).2 gone
      exact absurd removed (by rw [cleared.waiting f (kept.bus.waiting f hf removed)]; simp)
    · obtain ⟨p, near, lost, new⟩ := reset.locals r hr own
      obtain ⟨pe, hp, lost⟩ := lost_entry (entry p ▸ lost)
      subst he
      exact ⟨new.kind, new.owner, new.adoptedFrom, new.severity, new.platform, new.trip, p, pe, near, hp, lost, new.span⟩
    · subst he
      obtain ⟨id, r, held, found, new⟩ := reset.lost rfl (by rw [cleared.incidents]; exact room) p near
        (by rw [entry, entry_of_table hp]; exact lost)
      exact ⟨id, r, held, found, new.kind, new.isLocal, new.span⟩
    · exact cleared.incidents ▸ reset.copies r hr copy
    · rw [kept.filters]
      refine (congrArg Filters.plunger cleared.filters).trans ?_
      exact (congrArg Filters.plunger delivered.filters : x.field.filters.plunger = b.field.filters.plunger)
    · rw [kept.filters]
      refine (congrArg Filters.status cleared.filters).trans ?_
      exact (congrArg Filters.status delivered.filters : x.field.filters.status = b.field.filters.status)

end Sys2Proof.Machine

/-! SUPPORT. The Field Interface's own rules: a run of equal samples at a filter, the coil lines, and the inputs that only report
(R16, R17, R24, R25, R140, R142). -/

namespace Sys2Proof.Machine

/-! ### A run of equal samples (R16, R17) -/

/-- The record that `n` samples of one level make of another, none of them accepted. -/
def FilterRecord.sampled (f : Nat) (r : FilterRecord) (x : Bool) (n : Nat) : FilterRecord :=
  (List.replicate n x).foldl (fun r x => (FilterRecord.sample f r x).1) r

theorem FilterRecord.sampled_succ (f : Nat) (r : FilterRecord) (x : Bool) (n : Nat) :
    r.sampled f x (n + 1) = ((r.sampled f x n).sample f x).1 := by
  simp [FilterRecord.sampled, List.replicate_succ']

/-- A sample that brings the run of its level to `n`: at `f` the level is accepted. -/
theorem FilterRecord.sample_of_follow {r : FilterRecord} {x : Bool} {n : Nat}
    (h : r.follow x = { level := r.level, candidate := some x, run := n }) (f : Nat) :
    r.sample f x = if f ≤ n then (.at_ x, some x) else ({ level := r.level, candidate := some x, run := n }, none) := by
  simp [FilterRecord.sample, h]

/-- Samples that each continue a run leave it one longer, up to the sample before the `f`-th. -/
theorem FilterRecord.sampled_follow {r : FilterRecord} {x : Bool}
    (first : r.follow x = { level := r.level, candidate := some x, run := 1 })
    (next : ∀ n, FilterRecord.follow { level := r.level, candidate := some x, run := n } x =
      { level := r.level, candidate := some x, run := n + 1 }) {f n : Nat} (hn : n < f) :
    (r.sampled f x n).level = r.level ∧
      (r.sampled f x n).follow x = { level := r.level, candidate := some x, run := n + 1 } := by
  induction n with
  | zero => exact ⟨rfl, first⟩
  | succ n ih =>
    obtain ⟨level, run⟩ := ih (by omega)
    have short : ¬f ≤ n + 1 := by omega
    have := FilterRecord.sample_of_follow (level ▸ run) f
    rw [if_neg short, level] at this
    rw [FilterRecord.sampled_succ, this]
    exact ⟨rfl, next _⟩

/-- The sample after `n` that continued a run is accepted where it is the `f`-th. -/
theorem FilterRecord.sampled_sample {r : FilterRecord} {x : Bool}
    (first : r.follow x = { level := r.level, candidate := some x, run := 1 })
    (next : ∀ n, FilterRecord.follow { level := r.level, candidate := some x, run := n } x =
      { level := r.level, candidate := some x, run := n + 1 }) {f n : Nat} (hn : n < f) :
    (r.sampled f x n).sample f x = if n + 1 = f then (.at_ x, some x)
      else ({ level := r.level, candidate := some x, run := n + 1 }, none) := by
  obtain ⟨level, run⟩ := FilterRecord.sampled_follow first next hn
  rw [FilterRecord.sample_of_follow (level ▸ run) f, level]
  have : f ≤ n + 1 ↔ n + 1 = f := by omega
  simp only [this]

theorem FilterRecord.follow_held {r : FilterRecord} {level : Bool} (h : r.level = some level) :
    r.follow level = { level := some level, candidate := none, run := 0 } := by simp [FilterRecord.follow, h]

theorem FilterRecord.follow_other {r : FilterRecord} {level : Bool} (h : r.level = some level) :
    r.follow (!level) = { level := some level, candidate := some (!level), run := r.run + 1 } := by simp [FilterRecord.follow, h]

/-- At a settled input no level but the other can be accepted (R16). -/
theorem FilterRecord.sample_accepts_other {f : Nat} {r : FilterRecord} {level x accepted : Bool} (h : r.level = some level)
    (ha : (r.sample f x).2 = some accepted) : accepted = !level := by
  rcases FilterRecord.sample_cases f r x with ⟨c, hc, -, hs⟩ | hs
  · obtain rfl : c = accepted := by simpa [hs] using ha
    rcases Bool.eq_or_eq_not x level with rfl | rfl
    · simp [FilterRecord.follow_held h] at hc
    · simpa [FilterRecord.follow_other h] using hc.symm
  · simp [hs] at ha

/-- Settles O8: a run of equal samples grows by one each, from the level held and from none alike. -/
theorem filterAcceptsAtFthSample : Obligations.FilterAcceptsAtFthSample := by
  intro F level _
  refine ⟨fun n hn => ?_, fun c run => ?_, fun r x accepted hr ha => FilterRecord.sample_accepts_other hr ha, fun c run n hc hn => ?_⟩
  · exact FilterRecord.sampled_sample (FilterRecord.follow_other rfl) (fun _ => FilterRecord.follow_other rfl) hn
  · simp [FilterRecord.sample, FilterRecord.follow_held]
  · refine FilterRecord.sampled_sample ?_ ?_ hn <;> simp [FilterRecord.follow, hc]

/-! ### The coil lines (R24, R25) -/

theorem endPulse_of_present {b : Blocks} {br : Breaker} (h : (b.power.breakers.get br).isSome) :
    endPulse b br = b.setCoils br (b.field.coils.get br).pulseEnd := by
  obtain ⟨r, hr⟩ := Option.isSome_iff_exists.1 h
  simp [endPulse, hr]

/-- Settles O9: each operation writes the lines of its breaker alone. -/
theorem coilPulses : Obligations.CoilPulses := by
  rintro e b q br c rfl
  refine ⟨fun present => ?_, rfl, rfl, rfl⟩
  rw [exec_pulseEnd, endPulse_of_present present]
  rfl

/-! ### Deliveries whose change waits (R16 to R19) -/

section
variable {e : Env} {b : Blocks} {t : Track} {br : Breaker} {stamp : Nat}

theorem occupancyRise_of_waiting (h : b.field.waiting.occupancy.get t = some ⟨true, stamp⟩) (hc : e.nodeState ≠ .configuring) :
    occupancyRise e b t = arrive e (sentOccupancy b t) t stamp := by
  simp [occupancyRise, h, Env.configured, hc]

theorem occupancyFall_of_waiting (h : b.field.waiting.occupancy.get t = some ⟨false, stamp⟩) (hc : e.nodeState ≠ .configuring) :
    occupancyFall e b t = depart e (sentOccupancy b t) t stamp := by
  simp [occupancyFall, h, Env.configured, hc]

theorem occupancyRise_of_none (h : b.field.waiting.occupancy.get t = none) : occupancyRise e b t = b := by simp [occupancyRise, h]

theorem occupancyFall_of_none (h : b.field.waiting.occupancy.get t = none) : occupancyFall e b t = b := by simp [occupancyFall, h]

theorem plungerRise_of_waiting (h : b.field.waiting.plunger.get t = some ⟨true, stamp⟩) :
    plungerRise e b t = plungerPress e (sentPlunger b t) t := by simp [plungerRise, h]

theorem plungerFall_of_waiting (h : b.field.waiting.plunger.get t = some ⟨false, stamp⟩) :
    plungerFall e b t = plungerRelease e (sentPlunger b t) t := by simp [plungerFall, h]

theorem plungerRise_of_none (h : b.field.waiting.plunger.get t = none) : plungerRise e b t = b := by simp [plungerRise, h]

theorem plungerFall_of_none (h : b.field.waiting.plunger.get t = none) : plungerFall e b t = b := by simp [plungerFall, h]

theorem breakerSettles_of_waiting {r : BreakerRecord} {level : Bool} (hr : b.power.breakers.get br = some r) (hc : r.condition = none)
    (h : b.field.waiting.status.get br = some ⟨level, stamp⟩) :
    breakerSettles e b br level = settleBreaker e (sentStatus b br) br level := by
  simp [breakerSettles, hr, hc, h]

theorem breakerMoves_of_waiting {r : BreakerRecord} {c : Condition} {level : Bool} (hr : b.power.breakers.get br = some r)
    (hc : r.condition = some c) (h : b.field.waiting.status.get br = some ⟨level, stamp⟩) :
    breakerMoves e b br level = breakerChange e (sentStatus b br) br level := by
  simp [breakerMoves, hr, hc, h]

end

/-! ### Inputs that only report (R140, R142) -/

theorem plungerPress_of_set (e : Env) {b : Blocks} {t : Track} (h : (b.power.latches.get t).isSet = true) :
    plungerPress e b t = queueReport e (b.setLatch t { b.power.latches.get t with ignored := countUp 255 (b.power.latches.get t).ignored })
      (.plungerPressed t (countUp 255 (b.power.latches.get t).ignored)) := if_pos h

/-- Settles O10: the change that waits is delivered, and the report is all that follows. -/
theorem inputsThatOnlyReport : Obligations.InputsThatOnlyReport := by
  intro e b q
  refine ⟨?press, fun t stamp h => ?release, fun t h => ?none, fun level h => ?key⟩
  case press =>
    rintro t _ stamp h rfl set
    rw [exec_plungerPress, plungerRise_of_waiting h, plungerPress_of_set e (by exact set)]
    rfl
  case release => rw [exec_plungerRelease, plungerFall_of_waiting h]; rfl
  case none => simp [plungerRise_of_none h, plungerFall_of_none h]
  case key =>
    rw [exec_localKeyChange, keyMoves, if_pos h]
    rfl

end Sys2Proof.Machine

/-! SUPPORT. A section's state as it is derived and made known, and the withdrawal of the chains linked to it (R127, R128, R193). -/

namespace Sys2Proof.Machine

/-! ### The derivation (R127) -/

theorem BreakerState.energising_iff (s : BreakerState) : s.energising = true ↔ s ≠ .opened := by cases s <;> simp [BreakerState.energising]

/-- LIVE where either end energises, DEAD where both are OPEN, UNSURE otherwise. -/
theorem deriveSection_eq {own far : Option BreakerState} {live dead : Prop} [Decidable live] [Decidable dead]
    (hl : live ↔ (∃ s, own = some s ∧ s ≠ .opened) ∨ far ≠ none ∧ far ≠ some .opened)
    (hd : dead ↔ own = some .opened ∧ far = some .opened) :
    deriveSection own far = if live then .live else if dead then .dead else .unsure := by
  have energised (o : Option BreakerState) : (o.map BreakerState.energising).getD false = true ↔ o ≠ none ∧ o ≠ some .opened := by
    cases o <;> simp [BreakerState.energising_iff]
  have present (o : Option BreakerState) : (∃ s, o = some s ∧ s ≠ .opened) ↔ o ≠ none ∧ o ≠ some .opened := by cases o <;> simp
  rw [present] at hl
  unfold deriveSection
  simp only [Bool.or_eq_true, energised, ← hl, ← hd]

theorem Blocks.breakerState_of_record {b : Blocks} {br : Breaker} {r : BreakerRecord} (h : b.power.breakers.get br = some r) :
    b.breakerState br = r.condition.map Condition.state := by simp [Blocks.breakerState, h]

theorem farReport_congr {b b' : Blocks} (h : b'.peers = b.peers) (e : Env) (br : Breaker) : farReport e b' br = farReport e b br := by
  simp only [farReport, h]

/-- The section of a breaker whose record stands. -/
theorem sectionStateOf_eq {e : Env} {b : Blocks} {br : Breaker} {r : BreakerRecord} (h : b.power.breakers.get br = some r)
    {live dead : Prop} [Decidable live] [Decidable dead]
    (hl : live ↔ (∃ c, r.condition = some c ∧ c ≠ .opened)
      ∨ (farReport e b br).map (·.1) ≠ none ∧ (farReport e b br).map (·.1) ≠ some .opened)
    (hd : dead ↔ r.condition = some .opened ∧ (farReport e b br).map (·.1) = some .opened) :
    sectionStateOf e b br = if live then .live else if dead then .dead else .unsure := by
  have own (p : Prop) : (∃ c, r.condition = some c ∧ c ≠ .opened) ∨ p ↔ (∃ s, r.condition.map Condition.state = some s ∧ s ≠ .opened) ∨ p := by
    cases r.condition <;> simp [Condition.state_eq_opened]
  have opened : r.condition = some .opened ↔ r.condition.map Condition.state = some .opened := by
    cases r.condition <;> simp [Condition.state_eq_opened]
  unfold sectionStateOf
  rw [Blocks.breakerState_of_record h]
  exact deriveSection_eq (hl.trans (own _)) (hd.trans (and_congr_left' opened))

/-! ### The record of a section and what its change brings (R127, R128) -/

section
variable {e : Env} {b : Blocks} {br : Breaker} {r : BreakerRecord}

theorem sectionUpdate_same (h : b.power.breakers.get br = some r)
    (hs : r.condition = none ∨ r.sectionState = some (sectionStateOf e b br)) : sectionUpdate e b br = b := by
  rcases hs with hs | hs <;> simp [sectionUpdate, h, hs]

theorem platformAhead_fed (e : Env) (br : Breaker) :
    e.platformAhead (e.fed br) = if e.sectionAhead br.track = some (e.fed br) then some br.track else none := rfl

theorem sectionUpdate_begins (h : b.power.breakers.get br = some r) (hc : r.condition ≠ none) (hs : r.sectionState = none) {w : Blocks}
    (hw : w = b.setBreaker br { r with sectionState := some (sectionStateOf e b br) }) :
    sectionUpdate e b br = if e.sectionAhead br.track = some (e.fed br) then toldPower e w br.track else w := by
  subst hw
  simp only [sectionUpdate, h, hc, hs, if_false, platformAhead_fed]
  by_cases ahead : e.sectionAhead br.track = some (e.fed br) <;> simp [ahead]

theorem sectionUpdate_changes (h : b.power.breakers.get br = some r) (hc : r.condition ≠ none) {before : SectionState}
    (hs : r.sectionState = some before) (hn : before ≠ sectionStateOf e b br) :
    sectionUpdate e b br = tellSection e
      (queueReport e (b.setBreaker br { r with sectionState := some (sectionStateOf e b br) })
        (.sectionChange (e.fed br) before (sectionStateOf e b br))) (e.fed br) before (sectionStateOf e b br) := by
  simp only [sectionUpdate, h, hc, hs, if_false, hn]

/-- The regulator ahead is told first, a SUSPEND is offered on becoming DEAD in SERVICE, and the chains are withdrawn on leaving it. -/
theorem tellSection_fed (e : Env) (b : Blocks) (br : Breaker) (before after : SectionState) {y z : Blocks}
    (hy : y = if e.sectionAhead br.track = some (e.fed br) then toldPower e b br.track else b)
    (hz : z = if e.sectionAhead br.track = some (e.fed br) ∧ after = .dead ∧ e.nodeState = .service then
      offerSuspend e y br.track (e.fed br) else y) :
    tellSection e b (e.fed br) before after = if before = .dead then withdrawSection e z (e.fed br) else z := by
  subst hz hy
  simp only [tellSection, platformAhead_fed, Env.inService, decide_eq_true_eq]
  by_cases ahead : e.sectionAhead br.track = some (e.fed br) <;> simp [ahead]

/-- The record after its section has been derived afresh. -/
theorem sectionUpdate_get (h : b.power.breakers.get br = some r) (hc : r.condition ≠ none) :
    (sectionUpdate e b br).power.breakers.get br = some { r with sectionState := some (sectionStateOf e b br) } := by
  have written := setBreaker_get b br r { r with sectionState := some (sectionStateOf e b br) } h
  cases hs : r.sectionState with
  | none =>
    rw [sectionUpdate_begins h hc hs rfl]
    split
    · rw [(toldPower_told ..).power, written]
    · exact written
  | some before =>
    by_cases hn : before = sectionStateOf e b br
    · rw [sectionUpdate_same h (.inr (hn ▸ hs)), h, ← hn, ← hs]
    · rw [sectionUpdate_changes h hc hs hn, tellSection_power]
      exact written

end

/-! ### A change of a breaker's state (R120, R127, R129) -/

theorem setCondition_eq {b : Blocks} {br : Breaker} {r : BreakerRecord} (h : b.power.breakers.get br = some r) (e : Env) (c : Condition)
    (cause : Option ChangeCause) {u : Blocks}
    (hu : u = queueReport e (queuePowerFrame e (b.setBreaker br { r with condition := some c }) br none) (.breakerChange br c.state cause)) :
    setCondition e b br c cause =
      if c = .opened then confirmItems e (sectionUpdate e u br) (fun sec => decide (sec = e.fed br)) else sectionUpdate e u br := by
  subst hu
  simp only [setCondition, modifyBreaker_eq b br r _ h]

/-- The breaker's record after a change of its state. -/
theorem setCondition_get {b : Blocks} {br : Breaker} {r : BreakerRecord} (h : b.power.breakers.get br = some r) (e : Env) (c : Condition)
    (cause : Option ChangeCause) : (setCondition e b br c cause).power.breakers.get br =
      some { r with condition := some c
                    sectionState := some (deriveSection (some c.state) ((farReport e b br).map (·.1))) } := by
  rw [setCondition_eq h e c cause rfl]
  generalize hu : queueReport e (queuePowerFrame e (b.setBreaker br { r with condition := some c }) br none)
    (.breakerChange br c.state cause) = u
  have record : u.power.breakers.get br = some { r with condition := some c } := by
    rw [← hu, queueReport_power, queuePowerFrame_power]
    exact setBreaker_get b br r _ h
  have peers : u.peers = b.peers := by
    rw [← hu, queueReport_peers, (queuePowerFrame_keeps ..).peers, Blocks.setBreaker_peers]
  have section_ : (sectionUpdate e u br).power.breakers.get br =
      some { r with condition := some c, sectionState := some (deriveSection (some c.state) ((farReport e b br).map (·.1))) } := by
    rw [sectionUpdate_get record (by simp), sectionStateOf, Blocks.breakerState_of_record record, farReport_congr peers]
    rfl
  split
  · rw [confirmItems_power]
    exact section_
  · exact section_

theorem setCondition_condition {b : Blocks} {br : Breaker} {r : BreakerRecord} (h : b.power.breakers.get br = some r) (e : Env)
    (c : Condition) (cause : Option ChangeCause) : (setCondition e b br c cause).condition br = some c := by
  simp [Blocks.condition, setCondition_get h]

/-! ### Chains that are withdrawn (R193) -/

/-- Every chain held meets a condition. -/
def Blocks.chainsAll (p : Chain → Prop) (b : Blocks) : Prop := ∀ z, ∀ c ∈ b.announce.queues.get z, p c

theorem mem_insertChain {c d : Chain} {l : List Chain} (h : d ∈ insertChain c l) : d = c ∨ d ∈ l := by
  induction l with
  | nil => simpa [insertChain] using h
  | cons x l ih =>
    unfold insertChain at h
    split at h
    · simpa using h
    · rcases List.mem_cons.1 h with rfl | h
      · exact .inr List.mem_cons_self
      · exact (ih h).imp_right (List.mem_cons_of_mem _)

theorem placeChain_chainsAll {p : Chain → Prop} {b : Blocks} {z : Zone} {c : Chain} (h : b.chainsAll p) (hc : p c) :
    (placeChain b z c).chainsAll p := by
  intro y d hd
  by_cases hy : y = z
  · subst hy
    have hd : d ∈ insertChain c (withoutChain c.headId (b.announce.queues.get y)) := by simpa [placeChain, Blocks.setQueue] using hd
    rcases mem_insertChain hd with rfl | hd
    · exact hc
    · exact h y d (List.mem_of_mem_filter hd)
  · exact h y d (by simpa [placeChain, Blocks.setQueue, hy] using hd)

theorem mem_insertRanked {x y : Zone × Chain} {l : List (Zone × Chain)} (h : y ∈ readyChains.insertRanked x l) : y = x ∨ y ∈ l := by
  induction l with
  | nil => simpa [readyChains.insertRanked] using h
  | cons w l ih =>
    unfold readyChains.insertRanked at h
    split at h
    · rcases List.mem_cons.1 h with rfl | h
      · exact .inr List.mem_cons_self
      · exact (ih h).imp_right (List.mem_cons_of_mem _)
    · simpa using h

theorem mem_foldr_insertRanked {y : Zone × Chain} (l : List (Zone × Chain))
    (h : y ∈ l.foldr (fun x acc => readyChains.insertRanked x acc) []) : y ∈ l := by
  induction l with
  | nil => exact h
  | cons x l ih =>
    rcases mem_insertRanked h with rfl | h
    · exact List.mem_cons_self
    · exact List.mem_cons_of_mem _ (ih h)

/-- A ready chain stands in the queue of its zone. -/
theorem mem_of_mem_readyChains {e : Env} {a : Announcer} {z : Zone} {c : Chain} (h : (z, c) ∈ readyChains e a) : c ∈ a.queues.get z := by
  obtain ⟨y, -, found⟩ := List.mem_filterMap.1 (mem_foldr_insertRanked _ h)
  obtain ⟨c', ready, same⟩ := Option.map_eq_some_iff.1 found
  obtain ⟨rfl, rfl⟩ := Prod.mk.inj same
  unfold readyChain at ready
  split at ready
  · cases ready
  · exact List.mem_of_find?_eq_some (Option.filter_eq_some_iff.1 ready).1

theorem giveChannels_chainsAll {p : Chain → Prop} (hp : ∀ c, p c → p { c with place := .onChannel }) {e : Env} (n : Nat) {b : Blocks}
    (h : b.chainsAll p) : (giveChannels e n b).chainsAll p := by
  induction n generalizing b with
  | zero => exact h
  | succ n ih =>
    unfold giveChannels
    split
    · rename_i i z c _ startable
      have mem : c ∈ b.announce.queues.get z := mem_of_mem_readyChains (List.mem_of_find?_eq_some startable)
      split
      · rename_i m _
        exact ih (placeChain_chainsAll (b := b.setChannel i (.playing z m.id 0 e.now)) h (hp c (h z c mem)))
      · exact h
    · exact h

theorem arbiter_chainsAll {p : Chain → Prop} (hp : ∀ c, p c → p { c with place := .onChannel }) {e : Env} {b : Blocks}
    (h : b.chainsAll p) : (arbiter e b).chainsAll p := by
  have given := giveChannels_chainsAll hp (e := e) b.announce.channels.length h
  unfold arbiter
  dsimp only
  split
  · exact given
  · unfold preemptCheck
    split
    · exact given
    · split
      · unfold stopChannel
        split <;> exact given
      · exact given

/-- A withdrawn chain leaves its queue, and no chain joins one. -/
theorem withdrawOne_queues (e : Env) (b : Blocks) (z : Zone) (c : Chain) :
    (withdrawOne e b z c).announce.queues = (dropChain b z c).announce.queues := by
  unfold withdrawOne
  dsimp only
  split
  · unfold stopChannel
    split <;> rfl
  · rfl
  · rfl

theorem withdrawList_queue (e : Env) (z : Zone) (l : List Chain) (b : Blocks) :
    (∀ d ∈ (l.foldl (fun b c => withdrawOne e b z c) b).announce.queues.get z, d ∈ b.announce.queues.get z ∧ d ∉ l)
    ∧ ∀ y, y ≠ z → (l.foldl (fun b c => withdrawOne e b z c) b).announce.queues.get y = b.announce.queues.get y := by
  induction l generalizing b with
  | nil => exact ⟨fun d hd => ⟨hd, List.not_mem_nil⟩, fun _ _ => rfl⟩
  | cons c l ih =>
    obtain ⟨kept, others⟩ := ih (withdrawOne e b z c)
    have dropped := dropChain_dropped b z c
    refine ⟨fun d hd => ?_, fun y hy => (others y hy).trans ?_⟩
    · obtain ⟨hd, later⟩ := kept d hd
      rw [withdrawOne_queues] at hd
      obtain ⟨hd, now⟩ := dropped.queue d hd
      have : d ≠ c := fun h => now c List.mem_cons_self (h ▸ rfl)
      exact ⟨hd, by simp [this, later]⟩
    · rw [withdrawOne_queues]
      exact dropped.others y hy

/-- The chains of one zone that meet a condition, withdrawn. -/
def withdrawZone (e : Env) (p : Chain → Bool) (b : Blocks) (z : Zone) : Blocks :=
  ((b.announce.queues.get z).filter p).foldl (fun b c => withdrawOne e b z c) b

theorem withdrawWhere_eq (e : Env) (b : Blocks) (p : Chain → Bool) :
    withdrawWhere e b p = arbiterIfLifted e b (allZones.foldl (withdrawZone e p) b) := rfl

theorem withdrawZone_queues (e : Env) (p : Chain → Bool) (b : Blocks) (z : Zone) :
    (∀ d ∈ (withdrawZone e p b z).announce.queues.get z, p d = false)
    ∧ ∀ y, y ≠ z → (withdrawZone e p b z).announce.queues.get y = b.announce.queues.get y := by
  obtain ⟨kept, others⟩ := withdrawList_queue e z ((b.announce.queues.get z).filter p) b
  refine ⟨fun d hd => ?_, others⟩
  obtain ⟨mem, gone⟩ := kept d hd
  by_contra hp
  exact gone (List.mem_filter.2 ⟨mem, by simpa using hp⟩)

theorem withdrawZone_of_none {e : Env} {p : Chain → Bool} {b : Blocks} {z : Zone} (h : (b.announce.queues.get z).filter p = []) :
    withdrawZone e p b z = b := by simp [withdrawZone, h]

/-- After the zones have been gone through, no chain that meets the condition is held. -/
theorem withdrawZones_chainsAll (e : Env) (p : Chain → Bool) (b : Blocks) :
    (allZones.foldl (withdrawZone e p) b).chainsAll fun c => p c = false := by
  have up := withdrawZone_queues e p b .up
  have down := withdrawZone_queues e p (withdrawZone e p b .up) .down
  have concourse := withdrawZone_queues e p (withdrawZone e p (withdrawZone e p b .up) .down) .concourse
  intro z d hd
  cases z with
  | up =>
    refine up.1 d ?_
    rw [← down.2 .up (by simp), ← concourse.2 .up (by simp)]
    exact hd
  | down =>
    refine down.1 d ?_
    rw [← concourse.2 .down (by simp)]
    exact hd
  | concourse => exact concourse.1 d hd

/-- What one chain among all zones leaves: it alone is withdrawn. -/
theorem withdrawZones_one {e : Env} {p : Chain → Bool} {b : Blocks} {z : Zone} {c : Chain}
    (h : ∀ y, (b.announce.queues.get y).filter p = if y = z then [c] else []) :
    allZones.foldl (withdrawZone e p) b = withdrawOne e b z c := by
  have one : withdrawZone e p b z = withdrawOne e b z c := by simp [withdrawZone, h]
  have before (y : Zone) (hy : y ≠ z) : withdrawZone e p b y = b := withdrawZone_of_none (by simp [h, hy])
  have after (y : Zone) (hy : y ≠ z) : withdrawZone e p (withdrawOne e b z c) y = withdrawOne e b z c := by
    refine withdrawZone_of_none ?_
    rw [withdrawOne_queues, (dropChain_dropped b z c).others y hy]
    simp [h, hy]
  cases z with
  | up => simp [allZones, one, after]
  | down => simp [allZones, one, before, after]
  | concourse => simp [allZones, one, before]

theorem withdrawSection_chainsAll (e : Env) (b : Blocks) (sec : TractionSection) :
    (withdrawSection e b sec).chainsAll fun c => c.link ≠ some (.traction sec) := by
  have gone : (allZones.foldl (withdrawZone e fun c => decide (c.link = some (.traction sec))) b).chainsAll
      fun c => c.link ≠ some (.traction sec) := fun z c hc => by simpa using withdrawZones_chainsAll e _ b z c hc
  rw [withdrawSection, withdrawWhere_eq, arbiterIfLifted]
  split
  · exact arbiter_chainsAll (fun c hc => hc) gone
  · exact gone

theorem withdrawSection_of_unlinked {e : Env} {b : Blocks} {sec : TractionSection}
    (h : b.chainsAll fun c => c.link ≠ some (.traction sec)) : withdrawSection e b sec = b := by
  have none (z : Zone) : withdrawZone e (fun c => decide (c.link = some (.traction sec))) b z = b := by
    refine withdrawZone_of_none (List.filter_eq_nil_iff.2 fun c hc => ?_)
    simpa using h z c hc
  rw [withdrawSection, withdrawWhere_eq]
  simp [allZones, none, arbiterIfLifted]

theorem withdrawSection_one {e : Env} {b y : Blocks} {sec : TractionSection} {z : Zone} {c : Chain} (hc : c.place = .waiting)
    (hy : y = discardChain e b z c .withdrawn)
    (h : ∀ z', (b.announce.queues.get z').filter (fun d => decide (d.link = some (.traction sec))) = if z' = z then [c] else []) :
    withdrawSection e b sec = if b.announce.mask = true ∧ y.announce.mask = false then arbiter e y else y := by
  have waiting : withdrawOne e b z c = y := by simp [withdrawOne, hc, hy]
  rw [withdrawSection, withdrawWhere_eq, withdrawZones_one h, waiting, arbiterIfLifted]
  simp

end Sys2Proof.Machine

/-! SUPPORT. The accepted changes of a breaker's status input: settlements, arrivals, trips and uncommanded closes (R117 to R124). -/

namespace Sys2Proof.Machine

/-! ### An open command where a lockout stands (R117, R122, R124) -/

theorem BreakerRecord.lockedOut_iff (r : BreakerRecord) : r.lockedOut = true ↔ r.lockout ≠ [] ∨ r.overlock = true := by
  simp [BreakerRecord.lockedOut]

theorem openIfLocked_eq {b : Blocks} {br : Breaker} {r : BreakerRecord} (h : b.power.breakers.get br = some r) (e : Env) :
    openIfLocked e b br = if r.condition = some .closed ∧ (r.lockout ≠ [] ∨ r.overlock = true) then openCommand e b br else b := by
  simp only [openIfLocked, h, BreakerRecord.lockedOut_iff, and_comm]

/-- After a change to CLOSED or OPEN with the input, only a CLOSED breaker with a lockout is opened. -/
theorem openIfLocked_setCondition {b : Blocks} {br : Breaker} {r : BreakerRecord} (h : b.power.breakers.get br = some r) (e : Env)
    (level : Bool) (cause : Option ChangeCause) {y : Blocks} (hy : y = setCondition e b br (if level then .closed else .opened) cause) :
    openIfLocked e y br = if level = true ∧ (r.lockout ≠ [] ∨ r.overlock = true) then openCommand e y br else y := by
  subst hy
  rw [openIfLocked_eq (setCondition_get h ..)]
  cases level <;> simp

/-- Settles O14: the settlement writes the level, then the state, and opens a locked breaker that settles CLOSED. -/
theorem breakerSettlementTakesLevel : Obligations.BreakerSettlementTakesLevel := by
  intro e b b' q br r level stamp hr hc hw hb settled
  have sent : (sentStatus b br).power.breakers.get br = some r := hr
  have record : b'.power.breakers.get br = some { r with inputClosed := some level } := hb ▸ setBreaker_get _ br r _ sent
  refine ⟨?_, setCondition_condition record ..⟩
  rw [exec_breakerSettlement, breakerSettles_of_waiting hr hc hw, settleBreaker, modifyBreaker_eq _ br r _ sent]
  rw [← hb, openIfLocked_setCondition record e level _ rfl]

/-! ### Movements that a command brings (R120) -/

/-- A change that waits at a settled breaker writes its level first. -/
theorem breakerMoves_eq {b : Blocks} {br : Breaker} {r : BreakerRecord} {c : Condition} {level : Bool} {stamp : Nat}
    (hr : b.power.breakers.get br = some r) (hc : r.condition = some c) (hw : b.field.waiting.status.get br = some ⟨level, stamp⟩)
    (e : Env) {f : Blocks} (hf : f = (sentStatus b br).setBreaker br { r with inputClosed := some level }) :
    breakerMoves e b br level = match c with
      | .closing _ => if level then setCondition e f br .closed (some .arrival) else f
      | .opening k =>
        if !level then setCondition e f br .opened (some .arrival)
        else if k.overtook then modifyBreaker f br fun r => { r with condition := some (.opening { k with passing := true }) }
        else f
      | .closed => if level then f else protectionTrip e f br
      | .opened => if level then uncommandedClose e f br else f
      | .failed => followInput e f br := by
  have sent : (sentStatus b br).power.breakers.get br = some r := hr
  have before : (sentStatus b br).condition br = some c := by simp [Blocks.condition, sent, hc]
  rw [breakerMoves_of_waiting hr hc hw, breakerChange, before, modifyBreaker_eq _ br r _ sent, ← hf]
  cases c <;> rfl

theorem thirdStep_of_due {b : Blocks} {br : Breaker} {r : BreakerRecord} {c : Command} (hr : b.power.breakers.get br = some r)
    (hc : r.condition = some (.opening c)) (ho : c.overtook = true) (hp : c.passing = false) (hn : 3 ≤ c.count)
    (hi : r.inputClosed = some false) (e : Env) : thirdStep e b br = setCondition e b br .opened (some .arrival) := by
  have due : thirdDue r = true := by simp [thirdDue, hc, ho, hp, hn, hi]
  simp [thirdStep, hr, due]

/-- Settles O15: each movement by its branch, and what its change of state brings by the derivation of the section. -/
theorem breakerArrivals : Obligations.BreakerArrivals := by
  refine ⟨?movements, ?state, ?sections, ?suspend, fun e x sec => ⟨withdrawSection_chainsAll e x sec,
    fun h => withdrawSection_of_unlinked h, fun z c y hc hy h => withdrawSection_one hc hy h⟩⟩
  case movements =>
    intro e b q br r c f hr hf
    simp only [exec_breakerStatusChange, exec_thirdAdvanceOpen]
    refine ⟨fun stamp hw hc => ?_, fun stamp hw hc => ?_, fun stamp hw hc ho => ?_, fun stamp hw hc ho => ?_,
      fun hc ho hp hn hi => ?_⟩
    · simp [breakerMoves_eq hr hc hw e (hf true)]
    · simp [breakerMoves_eq hr hc hw e (hf false)]
    · have sent : (sentStatus b br).power.breakers.get br = some r := hr
      have written := setBreaker_get _ br r { r with inputClosed := some true } sent
      rw [breakerMoves_eq hr hc hw e rfl]
      simp [ho, modifyBreaker_eq _ br _ _ written, setBreaker_twice _ br r _ _ sent]
    · simp [breakerMoves_eq hr hc hw e (hf true), ho]
    · rw [thirdStep_of_due hr hc ho hp hn hi]
  case state =>
    rintro e x u br r c cause _ s hr rfl hs
    refine ⟨?_, setCondition_eq hr e c cause⟩
    rw [setCondition_get hr, hs]
    refine congrArg (fun s => some { r with condition := some c, sectionState := some s }) ?_
    rw [deriveSection_eq (live := c ≠ .opened ∨ (farReport e x br).map (·.1) ≠ none ∧ (farReport e x br).map (·.1) ≠ some .opened)
      (dead := c = .opened ∧ (farReport e x br).map (·.1) = some .opened)
      (by simp [Condition.state_eq_opened]) (by simp [Condition.state_eq_opened])]
    split
    · rfl
    · have opened : c = .opened := by tauto
      simp [opened]
  case sections =>
    rintro e x w br r _ s _ hr rfl hs rfl hw
    obtain rfl : s = sectionStateOf e x br := hs.trans (sectionStateOf_eq hr Iff.rfl Iff.rfl).symm
    refine ⟨sectionUpdate_same hr, fun hc hn => ?_, fun before v y z hc hb hn hv hy hz => ?_⟩
    · simpa using sectionUpdate_begins hr hc hn hw
    · rw [sectionUpdate_changes hr hc hb hn, ← hw, ← hv]
      exact tellSection_fed e v br before _ (by simpa using hy) (by simpa using hz)
  case suspend =>
    intro e x t sec o ho
    simp [offerSuspend, offerAuto, ho, AutoKind.row, Templates.get]

/-! ### States that hold while records leave and enter the table -/

/-- Every breaker that is not FAILED keeps its state. -/
structure StatesHold (b b' : Blocks) : Prop where
  states : ∀ br r, b.power.breakers.get br = some r → r.condition ≠ some .failed →
    ∃ r', b'.power.breakers.get br = some r' ∧ r'.condition = r.condition

theorem StatesHold.of_power {b b' : Blocks} (h : b'.power = b.power) : StatesHold b b' := ⟨fun _ r hr _ => ⟨r, h ▸ hr, rfl⟩⟩

theorem StatesHold.refl (b : Blocks) : StatesHold b b := .of_power rfl

theorem StatesHold.trans {a b c : Blocks} (h : StatesHold a b) (k : StatesHold b c) : StatesHold a c := by
  refine ⟨fun br r hr hf => ?_⟩
  obtain ⟨r', hr', same⟩ := h.states br r hr hf
  obtain ⟨r'', hr'', same'⟩ := k.states br r' hr' (same ▸ hf)
  exact ⟨r'', hr'', same'.trans same⟩

theorem StatesHold.foldl {α : Type} {f : Blocks → α → Blocks} (hf : ∀ b x, StatesHold b (f b x)) (l : List α) (b : Blocks) :
    StatesHold b (l.foldl f b) := foldl_related StatesHold.refl StatesHold.trans hf l b

/-- What acts at one breaker leaves the states of the others. -/
theorem AtBreaker.statesHold {br : Breaker} {b b' : Blocks} (h : AtBreaker br b b')
    (own : ∀ r, b.power.breakers.get br = some r → r.condition ≠ some .failed →
      ∃ r', b'.power.breakers.get br = some r' ∧ r'.condition = r.condition) : StatesHold b b' := by
  refine ⟨fun y r hr hf => ?_⟩
  by_cases hy : y = br
  · subst hy
    exact own r hr hf
  · exact ⟨r, (h.others y hy).trans hr, rfl⟩

theorem reportLockout_power (e : Env) (b : Blocks) (br : Breaker) (before : BreakerRecord) :
    (reportLockout e b br before).power = b.power := by
  unfold reportLockout
  split
  · split <;> rfl
  · rfl

theorem lockoutRemove_statesHold (e : Env) (b : Blocks) (br : Breaker) (id : IncidentId) : StatesHold b (lockoutRemove e b br id) := by
  unfold lockoutRemove
  split
  · rename_i r hr
    split
    · refine .trans (b := b.setBreaker br { r with lockout := r.lockout.filter fun i => decide (i ≠ id) }) ?_
        (.of_power (reportLockout_power ..))
      refine (setBreaker_atBreaker ..).statesHold fun r₀ hr₀ _ => ⟨_, setBreaker_get b br r _ hr, ?_⟩
      rw [Option.some.inj (hr.symm.trans hr₀)]
    · exact .refl b
  · exact .refl b

theorem followInput_of_not_failed {b : Blocks} {br : Breaker} {r : BreakerRecord} (hr : b.power.breakers.get br = some r)
    (hf : r.condition ≠ some .failed) (e : Env) : followInput e b br = b := by simp [followInput, hr, hf]

theorem openIfLocked_atBreaker (e : Env) (b : Blocks) (br : Breaker) : AtBreaker br b (openIfLocked e b br) := by
  unfold openIfLocked
  split
  · split
    · exact openCommand_atBreaker ..
    · exact .refl br b
  · exact .refl br b

theorem followInput_atBreaker (e : Env) (b : Blocks) (br : Breaker) : AtBreaker br b (followInput e b br) := by
  unfold followInput
  split
  · split
    · exact .trans (setCondition_atBreaker ..) (openIfLocked_atBreaker ..)
    · exact .refl br b
  · exact .refl br b

theorem failIdLeft_statesHold (e : Env) (b : Blocks) (br : Breaker) (id : IncidentId) : StatesHold b (failIdLeft e b br id) := by
  unfold failIdLeft
  split
  · rename_i r hr
    split
    · refine (AtBreaker.trans (setBreaker_atBreaker b br _) (followInput_atBreaker ..)).statesHold fun r₀ hr₀ hf => ?_
      obtain rfl := Option.some.inj (hr.symm.trans hr₀)
      have written := setBreaker_get b br r { r with failId := none } hr
      rw [followInput_of_not_failed written hf]
      exact ⟨_, written, rfl⟩
    · exact .refl b
  · exact .refl b

theorem powerIdLeft_statesHold (e : Env) (b : Blocks) (id : IncidentId) : StatesHold b (powerIdLeft e b id) := by
  have cleared (b : Blocks) (t : Track) : StatesHold b (latchIdLeft b t id) := by
    unfold latchIdLeft
    dsimp only
    split
    · exact ⟨fun br r hr _ => ⟨r, hr, rfl⟩⟩
    · exact .refl b
  have told (before b : Blocks) (t : Track) : StatesHold b (tellLatchCleared e b t id before) := by
    unfold tellLatchCleared
    split
    · exact .of_power (toldLatch_told e b t).power
    · exact .refl b
  unfold powerIdLeft
  dsimp only
  exact .trans (.trans (.trans (.foldl cleared _ _) (.foldl (fun b br => lockoutRemove_statesHold e b br id) _ _)) (.foldl (told b) _ _))
    (.foldl (fun b br => failIdLeft_statesHold e b br id) _ _)

theorem tellDeparture_statesHold (e : Env) (b : Blocks) (id : IncidentId) : StatesHold b (tellDeparture e b id) :=
  .trans (powerIdLeft_statesHold e b id) (.of_power ((toldIncident_told ..).power.trans (withdrawWhere_announced ..).power))

theorem removeCopy_statesHold (e : Env) (b : Blocks) (id : IncidentId) : StatesHold b (removeCopy e b id) :=
  .trans (b := leaveTable b id) (.of_power rfl) (tellDeparture_statesHold ..)

theorem evictCopy_statesHold (e : Env) (b : Blocks) (r : Incident) : StatesHold b (evictCopy e b r) :=
  .trans (removeCopy_statesHold e b r.id) (.of_power (queueReport_power ..))

theorem closeRecord_statesHold (e : Env) (b : Blocks) (r : Incident) (reason : CloseReason) : StatesHold b (closeRecord e b r reason) := by
  unfold closeRecord
  dsimp only
  refine .trans (.trans ?_ (removeCopy_statesHold e _ r.id)) (.of_power (queueReport_power ..))
  split
  · exact .refl b
  · exact .of_power (queueFrame_power ..)

theorem makeRoom_statesHold {e : Env} {b b' : Blocks} {severity : Nat} {isLocal : Bool} (h : makeRoom e b severity isLocal = some b') :
    StatesHold b b' := by
  unfold makeRoom at h
  repeat' split at h
  all_goals cases h
  · exact .refl b
  · exact evictCopy_statesHold ..
  · exact closeRecord_statesHold ..
  · exact evictCopy_statesHold ..
  · exact closeRecord_statesHold ..

theorem soundAlarm_power (b : Blocks) (severity : Nat) : (soundAlarm b severity).power = b.power := by
  unfold soundAlarm
  split <;> rfl

theorem queueIncidentFrame_power (e : Env) (b : Blocks) (id : IncidentId) (action : IncidentAction) (reason : Option CloseReason) :
    (queueIncidentFrame e b id action reason).power = b.power := by
  unfold queueIncidentFrame
  split
  · exact queueFrame_power ..
  · rfl

theorem reportIncident_power (e : Env) (b : Blocks) (event : IncidentEvent) (id : IncidentId) :
    (reportIncident e b event id).power = b.power := by
  unfold reportIncident
  split <;> rfl

theorem tellEntry_power (e : Env) (b : Blocks) (r : Incident) (lateness : Option Nat) : (tellEntry e b r lateness).power = b.power := by
  rw [tellEntry, (offerForIncident_announced ..).power, soundAlarm_power, (toldIncident_told ..).power]

/-- Once room has been made, a raise leaves the Power Controller as it is. -/
theorem raiseIncident_power_of_room {e : Env} {b b' : Blocks} {x : Raise} (h : makeRoom e b x.severity true = some b')
    (lateness : Option Nat) : (raiseIncident e b x lateness).1.power = b'.power := by
  simp only [raiseIncident, h, tellEntry_power, reportIncident_power, queueIncidentFrame_power]
  rfl

theorem raiseIncident_statesHold (e : Env) (b : Blocks) (x : Raise) (lateness : Option Nat) :
    StatesHold b (raiseIncident e b x lateness).1 := by
  cases h : makeRoom e b x.severity true with
  | none =>
    simp only [raiseIncident, h]
    split
    · exact .refl b
    · exact .of_power rfl
  | some b' => exact .trans (makeRoom_statesHold h) (.of_power (raiseIncident_power_of_room h lateness))

/-! ### Trips, uncommanded closes and FAILED breakers (R122 to R124) -/

theorem protectionTrip_eq (e : Env) (b : Blocks) (br : Breaker) {x : Blocks × Option IncidentId}
    (hx : x = raiseIncident e (setCondition e b br .opened (some .trip)) (sectionRaise .sectionTrip (e.fed br)) none) :
    protectionTrip e b br = match x.2 with
      | some id => beginIsolation e (lockoutAdd e x.1 br id false) id (e.fed br)
      | none => x.1 := by
  obtain ⟨x, o⟩ := x
  rw [protectionTrip, ← hx]
  cases o <;> rfl

theorem followInput_of_failed {b : Blocks} {br : Breaker} {r : BreakerRecord} {level : Bool} (hr : b.power.breakers.get br = some r)
    (hf : r.condition = some .failed) (hi : r.inputClosed = some level) (e : Env) :
    followInput e b br = openIfLocked e (setCondition e b br (if level then .closed else .opened) (some .followInput)) br := by
  simp only [followInput, hr, hf, hi, if_true, Option.some.injEq]

/-- Settles O16: a trip and an uncommanded close raise once the state is written, and a FAILED breaker takes its input. -/
theorem tripsAndUncommandedCloses : Obligations.TripsAndUncommandedCloses := by
  intro e b b' q br r level stamp x hr hw hb
  have sent : (sentStatus b br).power.breakers.get br = some r := hr
  have record : b'.power.breakers.get br = some { r with inputClosed := some level } := hb ▸ setBreaker_get _ br r _ sent
  refine ⟨?trip, ?close, ?follow⟩
  case trip =>
    rintro rfl hc hx
    rw [exec_breakerStatusChange, breakerMoves_eq hr hc hw e hb]
    exact congrArg (fun y => Host.Outcome.next (⟨⟨e, y⟩, q⟩ : State)) (protectionTrip_eq e b' br hx)
  case close =>
    rintro rfl hc hx
    obtain ⟨r', hr', same⟩ := (raiseIncident_statesHold e (setCondition e b' br .closed (some .uncommandedClose))
      { kind := .uncommandedClose, severity := 4, span := .one (e.fed br), platform := none, trip := none } none).states br _
      (setCondition_get record ..) (by simp)
    rw [← hx] at hr'
    refine ⟨r', hr', same, ?_⟩
    rw [exec_breakerStatusChange, breakerMoves_eq hr hc hw e hb]
    have raised : uncommandedClose e b' br = openIfLocked e x.1 br := by rw [hx]; rfl
    simp only [if_true, raised, openIfLocked_eq hr', same, true_and]
  case follow =>
    intro hc y hy
    refine ⟨hy ▸ setCondition_condition record .., ?_⟩
    rw [exec_breakerStatusChange, breakerMoves_eq hr hc hw e hb]
    simp only [followInput_of_failed record hc rfl, ← hy, openIfLocked_setCondition record e level _ hy]

end Sys2Proof.Machine

/-! SUPPORT. What the blocks' operations leave of the starter lines, the alarm and the records of the Incident Table, whatever else they
change: a starter line is ACTIVE at a RELEASED platform alone (R89), and a record that stays keeps its id and its sections (R145). -/

namespace Sys2Proof.Machine

/-! ### Frames that are queued change the bus and the reports alone (R39) -/

theorem dropFrame_eq (e : Env) (b : Blocks) (cause : TxDropCause) (f : Frame) :
    ∃ l p, dropFrame e b cause f = (b.setBus l).setPort p := by
  unfold dropFrame
  dsimp only
  split
  · exact ⟨{ b.bus with dropped := countUp Config.counterMax b.bus.dropped }, b.port, rfl⟩
  · exact ⟨_, _, rfl⟩

theorem admitFrame_eq (e : Env) (b : Blocks) (f : Frame) : ∃ l p, admitFrame e b f = (b.setBus l).setPort p := by
  unfold admitFrame
  split
  · exact ⟨b.bus.insert f, b.port, rfl⟩
  · split
    · split
      · rename_i g _ _
        obtain ⟨l, p, eq⟩ := dropFrame_eq e (b.setBus { b.bus with waiting := b.bus.waiting.dropLast }) .evicted g
        dsimp only
        rw [eq]
        exact ⟨_, _, rfl⟩
      · exact dropFrame_eq ..
    · exact dropFrame_eq ..

theorem queueFrame_eq (e : Env) (b : Blocks) (f : Frame) : ∃ l p, queueFrame e b f = (b.setBus l).setPort p := by
  unfold queueFrame
  split
  · exact ⟨b.bus, b.port, rfl⟩
  · obtain ⟨l, p, eq⟩ := admitFrame_eq e b f
    dsimp only
    rw [eq]
    split <;> exact ⟨_, _, rfl⟩

theorem queuePowerFrame_eq (e : Env) (b : Blocks) (br : Breaker) (reason : Option RefusalReason) :
    ∃ l p, queuePowerFrame e b br reason = (b.setBus l).setPort p := by
  unfold queuePowerFrame
  split
  · split
    · exact queueFrame_eq ..
    · exact ⟨b.bus, b.port, rfl⟩
  · exact ⟨b.bus, b.port, rfl⟩

/-! ### Starter lines (R89) -/

/-- A starter line is ACTIVE at a RELEASED platform alone. -/
def Blocks.starterTrue (b : Blocks) (t : Track) : Prop :=
  b.field.starters.get t = true → (b.platforms.get t).standing.state = .released

/-- The starter lines stay true, each for itself. -/
structure StartersKept (b b' : Blocks) : Prop where
  kept : ∀ t, b.starterTrue t → b'.starterTrue t

theorem StartersKept.of_eq {b b' : Blocks} (hf : b'.field.starters = b.field.starters)
    (hp : ∀ t, (b'.platforms.get t).standing = (b.platforms.get t).standing) : StartersKept b b' :=
  ⟨fun t h => by unfold Blocks.starterTrue; rw [hf, hp]; exact h⟩

theorem StartersKept.refl (b : Blocks) : StartersKept b b := ⟨fun _ h => h⟩

theorem StartersKept.trans {a b c : Blocks} (h : StartersKept a b) (k : StartersKept b c) : StartersKept a c :=
  ⟨fun t ht => k.kept t (h.kept t ht)⟩

theorem StartersKept.ite {b x : Blocks} (p : Prop) [Decidable p] (h : StartersKept b x) : StartersKept b (if p then x else b) := by
  split
  · exact h
  · exact .refl b

theorem Announced.startersKept {b b' : Blocks} (h : Announced b b') : StartersKept b b' :=
  .of_eq (by rw [h.field]) fun t => by rw [h.platforms]

/-- A starter that is true at a platform that is not RELEASED is INACTIVE. -/
theorem Blocks.starterTrue.inactive {b : Blocks} {t : Track} (h : b.starterTrue t) (hn : (b.platforms.get t).standing.state ≠ .released) :
    b.field.starters.get t = false := Bool.eq_false_iff.2 (mt h hn)

theorem enter_startersKept (b : Blocks) (t : Track) (p : Phase) (d : Dwell) {v : Bool} (hv : v = true → p = .released) :
    StartersKept b ((writeDwell b t p d).setStarter t v) := by
  refine ⟨fun u h => ?_⟩
  by_cases hu : u = t
  · subst hu
    simpa [Blocks.starterTrue] using hv
  · simpa [Blocks.starterTrue, writeDwell, hu] using h

theorem writeDwell_startersKept {b : Blocks} {t : Track} {p : Phase} {d : Dwell} (d' : Dwell)
    (h : (b.platforms.get t).standing = .occupied p d) : StartersKept b (writeDwell b t p d') := by
  refine ⟨fun u hs => ?_⟩
  by_cases hu : u = t
  · subst hu
    simpa [Blocks.starterTrue, writeDwell, h] using hs
  · simpa [Blocks.starterTrue, writeDwell, hu] using hs

theorem reportSet_startersKept (e : Env) (b : Blocks) (t : Track) (p : Phase) (d : Dwell) : StartersKept b (reportSet e b t p d) :=
  .of_eq rfl fun _ => rfl

theorem watchHeld_startersKept (e : Env) (b : Blocks) (t : Track) : StartersKept b (watchHeld e b t) := by
  unfold watchHeld
  split
  case h_1 d h => exact .ite _ (.trans (writeDwell_startersKept _ h) (offerHeld_announced ..).startersKept)
  case h_2 => exact .refl b

theorem enterHeld_startersKept (e : Env) (b : Blocks) (t : Track) (d : Dwell) : StartersKept b (enterHeld e b t d) :=
  .trans (.trans (enter_startersKept b t .held d (by simp)) (reportSet_startersKept ..)) (watchHeld_startersKept ..)

theorem enterReleased_startersKept (e : Env) (b : Blocks) (t : Track) (d : Dwell) : StartersKept b (enterReleased e b t d) :=
  .trans (enter_startersKept b t .released _ fun _ => rfl) (reportSet_startersKept ..)

theorem settleHeld_startersKept (e : Env) {b : Blocks} {t : Track} {d : Dwell} (old new : Dwell)
    (h : (b.platforms.get t).standing = .occupied .held d) : StartersKept b (settleHeld e b t old new) := by
  unfold settleHeld
  split
  · exact enterReleased_startersKept ..
  · split
    · exact writeDwell_startersKept _ h
    · exact .trans (writeDwell_startersKept _ h) (reportSet_startersKept ..)

theorem withdrawRelease_startersKept (e : Env) (b : Blocks) (t : Track) (d : Dwell) (r : Reasons) :
    StartersKept b (withdrawRelease e b t d r) := enterHeld_startersKept ..

theorem toldPower_startersKept (e : Env) (b : Blocks) (t : Track) : StartersKept b (toldPower e b t) := by
  unfold toldPower
  split
  case h_1 d h => exact settleHeld_startersKept e _ _ h
  case h_2 => exact .ite _ (withdrawRelease_startersKept ..)
  all_goals exact .refl b

theorem toldIncidentAt_startersKept (e : Env) (b : Blocks) (t : Track) : StartersKept b (toldIncidentAt e b t) := by
  unfold toldIncidentAt
  split
  case h_1 d h => exact settleHeld_startersKept e _ _ h
  case h_2 => exact .ite _ (withdrawRelease_startersKept ..)
  all_goals exact .refl b

theorem toldIncident_startersKept (e : Env) (b : Blocks) : StartersKept b (toldIncident e b) :=
  .trans (toldIncidentAt_startersKept e b .up) (toldIncidentAt_startersKept ..)

theorem toldLatch_startersKept (e : Env) (b : Blocks) (t : Track) : StartersKept b (toldLatch e b t) := by
  unfold toldLatch
  split
  case h_1 d h => exact settleHeld_startersKept e _ _ h
  case h_2 => exact .ite _ (withdrawRelease_startersKept ..)
  all_goals exact .refl b

theorem toldStartsAt_startersKept (e : Env) (b : Blocks) (t : Track) : StartersKept b (toldStartsAt e b t) := by
  unfold toldStartsAt
  split
  case h_1 d h => exact .ite _ (settleHeld_startersKept e _ _ h)
  all_goals exact .refl b

theorem toldStarts_startersKept (e : Env) (b : Blocks) : StartersKept b (toldStarts e b) :=
  .trans (toldStartsAt_startersKept e b .up) (toldStartsAt_startersKept ..)

/-! ### Records that keep their sections (R145) -/

/-- A record with other counts, floor or item states at most. -/
def Incident.KeepsItems (r r' : Incident) : Prop := r.StandsOn r' ∧ r'.items.map (·.sec) = r.items.map (·.sec)

theorem Incident.KeepsItems.refl (r : Incident) : r.KeepsItems r := ⟨.inl rfl, rfl⟩

theorem Incident.KeepsItems.trans {a b c : Incident} (h : a.KeepsItems b) (k : b.KeepsItems c) : a.KeepsItems c :=
  ⟨h.1.trans k.1, k.2.trans h.2⟩

theorem Incident.items_setItems {r : Incident} (h : r.isLocal = true) (l : List IsolationItem) : (r.setItems l).items = l := by
  unfold Incident.setItems
  split
  case h_1 o ho => rfl
  case h_2 c hc => simp [Incident.isLocal, hc, Holding.isLocal] at h

theorem Incident.items_of_copy {r : Incident} (h : r.isLocal = false) (l : List IsolationItem) : (r.setItems l) = r := by
  unfold Incident.setItems
  split
  case h_1 o ho => simp [Incident.isLocal, ho, Holding.isLocal] at h
  case h_2 c hc => rfl

/-- The items of a section changed where they stand. -/
theorem Incident.setItems_keepsItems (r : Incident) (sec : TractionSection) {f : IsolationItem → IsolationItem} (hf : ∀ i, (f i).sec = i.sec) :
    r.KeepsItems (r.setItems (r.items.map fun i => if i.sec = sec then f i else i)) := by
  cases h : r.isLocal with
  | false =>
    rw [Incident.items_of_copy h]
    exact .refl r
  | true =>
    refine ⟨r.setItems_standsOn _, ?_⟩
    rw [Incident.items_setItems h, List.map_map]
    refine List.map_congr_left fun i _ => ?_
    dsimp only [Function.comp]
    split <;> simp [hf]

theorem find_modifyRecord {b : Blocks} {id i : IncidentId} {f : Incident → Incident} (hf : ∀ r, (f r).id = r.id) :
    (b.modifyRecord id f).incidents.find i = (b.incidents.find i).map fun r => if r.id = id then f r else r := by
  have same : ((fun r : Incident => decide (r.id = i)) ∘ fun r => if r.id = id then f r else r) = fun r => decide (r.id = i) := by
    funext r
    dsimp only [Function.comp]
    split <;> simp [hf]
  rw [IncidentTable.find, Blocks.modifyRecord_incidents, List.find?_map, same]
  rfl

/-! ### What the Power Controller does (chapter 7) -/

/-- The starters stay true, the alarm stands, and every record stays with its sections. -/
structure Acts (b b' : Blocks) : Prop where
  starters : StartersKept b b'
  alarm : b'.incidents.alarm = b.incidents.alarm
  alarmLine : b'.field.alarmLine = b.field.alarmLine
  records : ∀ id r, b.incidents.find id = some r → ∃ r', b'.incidents.find id = some r' ∧ r.KeepsItems r'

theorem Acts.of_incidents {b b' : Blocks} (hs : StartersKept b b') (ha : b'.field.alarmLine = b.field.alarmLine)
    (hi : b'.incidents = b.incidents) : Acts b b' := ⟨hs, by rw [hi], ha, fun _ r h => ⟨r, hi ▸ h, .refl r⟩⟩

theorem Acts.of_eq {b b' : Blocks} (hf : b'.field = b.field) (hp : b'.platforms = b.platforms) (hi : b'.incidents = b.incidents) :
    Acts b b' := .of_incidents (.of_eq (by rw [hf]) fun t => by rw [hp]) (by rw [hf]) hi

theorem Acts.refl (b : Blocks) : Acts b b := .of_eq rfl rfl rfl

theorem Acts.trans {a b c : Blocks} (h : Acts a b) (k : Acts b c) : Acts a c := by
  refine ⟨h.starters.trans k.starters, k.alarm.trans h.alarm, k.alarmLine.trans h.alarmLine, fun id r hr => ?_⟩
  obtain ⟨r', hr', same⟩ := h.records id r hr
  obtain ⟨r'', hr'', same'⟩ := k.records id r' hr'
  exact ⟨r'', hr'', same.trans same'⟩

theorem Acts.foldl {α : Type} {f : Blocks → α → Blocks} (hf : ∀ b x, Acts b (f b x)) (l : List α) (b : Blocks) :
    Acts b (l.foldl f b) := foldl_related Acts.refl Acts.trans hf l b

theorem Acts.ite {b x : Blocks} (p : Prop) [Decidable p] (h : Acts b x) : Acts b (if p then x else b) := by
  split
  · exact h
  · exact .refl b

theorem Told.acts {b b' : Blocks} (h : Told b b') (hs : StartersKept b b') : Acts b b' := .of_incidents hs h.alarmLine h.incidents

theorem Announced.acts {b b' : Blocks} (h : Announced b b') : Acts b b' := .of_eq h.field h.platforms h.incidents

theorem queueReport_acts (e : Env) (b : Blocks) (r : ReportBody) : Acts b (queueReport e b r) := .of_eq rfl rfl rfl

theorem queueFrame_acts (e : Env) (b : Blocks) (f : Frame) : Acts b (queueFrame e b f) := by
  obtain ⟨l, p, eq⟩ := queueFrame_eq e b f
  rw [eq]
  exact .of_eq rfl rfl rfl

theorem queuePowerFrame_acts (e : Env) (b : Blocks) (br : Breaker) (reason : Option RefusalReason) :
    Acts b (queuePowerFrame e b br reason) := by
  obtain ⟨l, p, eq⟩ := queuePowerFrame_eq e b br reason
  rw [eq]
  exact .of_eq rfl rfl rfl

theorem setBreaker_acts (b : Blocks) (br : Breaker) (r : BreakerRecord) : Acts b (b.setBreaker br r) :=
  .of_eq (Blocks.setBreaker_field ..) (Blocks.setBreaker_platforms ..) (Blocks.setBreaker_incidents ..)

theorem modifyBreaker_acts (b : Blocks) (br : Breaker) (f : BreakerRecord → BreakerRecord) : Acts b (modifyBreaker b br f) := by
  unfold modifyBreaker
  split
  · exact setBreaker_acts ..
  · exact .refl b

theorem setCoils_acts (b : Blocks) (br : Breaker) (c : CoilLines) : Acts b (b.setCoils br c) :=
  .of_incidents (.of_eq rfl fun _ => rfl) rfl rfl

theorem modifyRecord_acts (b : Blocks) (id : IncidentId) {f : Incident → Incident} (hf : ∀ r : Incident, r.KeepsItems (f r)) :
    Acts b (b.modifyRecord id f) := by
  refine ⟨.of_eq rfl fun _ => rfl, rfl, rfl, fun i r hr => ?_⟩
  rw [find_modifyRecord fun r => (hf r).1.id_eq, hr]
  refine ⟨_, rfl, ?_⟩
  dsimp only
  split
  · exact hf r
  · exact .refl r

theorem setItem_acts (b : Blocks) (id : IncidentId) (sec : TractionSection) {f : IsolationItem → IsolationItem}
    (hf : ∀ i, (f i).sec = i.sec) : Acts b (setItem b id sec f) := modifyRecord_acts b id fun r => r.setItems_keepsItems sec hf

theorem confirmItem_acts (e : Env) (b : Blocks) (id : IncidentId) (sec : TractionSection) : Acts b (confirmItem e b id sec) :=
  .ite _ (.trans (setItem_acts b id sec (by exact fun _ => rfl)) (queueReport_acts ..))

theorem confirmItems_acts (e : Env) (b : Blocks) (p : TractionSection → Bool) : Acts b (confirmItems e b p) :=
  Acts.foldl (fun b (x : IncidentId × TractionSection) => confirmItem_acts e b x.1 x.2) _ b

theorem toldPower_acts (e : Env) (b : Blocks) (t : Track) : Acts b (toldPower e b t) :=
  (toldPower_told e b t).acts (toldPower_startersKept e b t)

theorem tellSection_acts (e : Env) (b : Blocks) (sec : TractionSection) (before after : SectionState) :
    Acts b (tellSection e b sec before after) := by
  unfold tellSection
  dsimp only
  refine .trans ?_ (.ite _ (withdrawWhere_announced ..).acts)
  split
  · exact .trans (toldPower_acts ..) (.ite _ (offerSuspend_announced ..).acts)
  · exact .refl b

theorem sectionUpdate_acts (e : Env) (b : Blocks) (br : Breaker) : Acts b (sectionUpdate e b br) := by
  unfold sectionUpdate
  split
  · split
    · exact .refl b
    · dsimp only
      split
      · split
        · exact .trans (setBreaker_acts ..) (toldPower_acts ..)
        · exact setBreaker_acts ..
      · split
        · exact .refl b
        · exact .trans (.trans (setBreaker_acts ..) (queueReport_acts ..)) (tellSection_acts ..)
  · exact .refl b

theorem setCondition_acts (e : Env) (b : Blocks) (br : Breaker) (c : Condition) (cause : Option ChangeCause) :
    Acts b (setCondition e b br c cause) := by
  unfold setCondition
  dsimp only
  refine .trans ?_ (.ite _ (confirmItems_acts ..))
  refine .trans ?_ (sectionUpdate_acts ..)
  exact .trans (.trans (modifyBreaker_acts ..) (queuePowerFrame_acts ..)) (queueReport_acts ..)

theorem endWait_acts (e : Env) (b : Blocks) (br : Breaker) (reason : RefusalReason) : Acts b (endWait e b br reason) := by
  unfold endWait
  split
  · exact .trans (.trans (modifyBreaker_acts ..) (queuePowerFrame_acts ..)) (queueReport_acts ..)
  · exact .refl b

theorem openCommand_acts (e : Env) (b : Blocks) (br : Breaker) : Acts b (openCommand e b br) := by
  obtain ⟨x, hx, same⟩ := openCommand_cases e b br
  rw [hx]
  refine .trans ?_ (endWait_acts ..)
  rcases same with rfl | ⟨c, -, -, rfl⟩ | rfl
  · exact .refl x
  · exact .trans (setCoils_acts b br _) (setCondition_acts ..)
  · exact setCondition_acts ..

theorem openIfLocked_acts (e : Env) (b : Blocks) (br : Breaker) : Acts b (openIfLocked e b br) := by
  unfold openIfLocked
  split
  · exact .ite _ (openCommand_acts ..)
  · exact .refl b

theorem followInput_acts (e : Env) (b : Blocks) (br : Breaker) : Acts b (followInput e b br) := by
  unfold followInput
  split
  · exact .ite _ (.trans (setCondition_acts ..) (openIfLocked_acts ..))
  · exact .refl b

theorem reportLockout_acts (e : Env) (b : Blocks) (br : Breaker) (before : BreakerRecord) : Acts b (reportLockout e b br before) := by
  unfold reportLockout
  split
  · split
    · exact .refl b
    · exact queueReport_acts ..
  · exact .refl b

theorem examineBreaker_acts (e : Env) (b : Blocks) (br : Breaker) : Acts b (examineBreaker e b br) :=
  .trans (.trans (openCommand_acts ..) (setCoils_acts _ br _)) (endWait_acts ..)

theorem lockoutAdd_acts (e : Env) (b : Blocks) (br : Breaker) (id : IncidentId) (latch : Bool) : Acts b (lockoutAdd e b br id latch) := by
  unfold lockoutAdd
  split
  · split
    · exact .refl b
    · exact .trans (.trans (setBreaker_acts ..) (reportLockout_acts ..)) (examineBreaker_acts ..)
  · exact .refl b

theorem lockoutRemove_acts (e : Env) (b : Blocks) (br : Breaker) (id : IncidentId) : Acts b (lockoutRemove e b br id) := by
  unfold lockoutRemove
  split
  · exact .ite _ (.trans (setBreaker_acts ..) (reportLockout_acts ..))
  · exact .refl b

theorem failIdLeft_acts (e : Env) (b : Blocks) (br : Breaker) (id : IncidentId) : Acts b (failIdLeft e b br id) := by
  unfold failIdLeft
  split
  · exact .ite _ (.trans (setBreaker_acts ..) (followInput_acts ..))
  · exact .refl b

theorem powerIdLeft_acts (e : Env) (b : Blocks) (id : IncidentId) : Acts b (powerIdLeft e b id) := by
  have cleared (b : Blocks) (t : Track) : Acts b (latchIdLeft b t id) := .ite _ (.of_eq rfl rfl rfl)
  have told (before b : Blocks) (t : Track) : Acts b (tellLatchCleared e b t id before) :=
    .ite _ (.trans ((toldLatch_told e b t).acts (toldLatch_startersKept e b t)) (queueReport_acts ..))
  unfold powerIdLeft
  dsimp only
  exact .trans (.trans (.trans (.foldl cleared _ _) (.foldl (fun b br => lockoutRemove_acts e b br id) _ _)) (.foldl (told b) _ _))
    (.foldl (fun b br => failIdLeft_acts e b br id) _ _)

/-! ### Raises and closes leave the starters true (R149, R154) -/

theorem toldIncident_acts (e : Env) (b : Blocks) : Acts b (toldIncident e b) :=
  (toldIncident_told e b).acts (toldIncident_startersKept e b)

theorem removeCopy_startersKept (e : Env) (b : Blocks) (id : IncidentId) : StartersKept b (removeCopy e b id) := by
  have left : StartersKept b (leaveTable b id) := .of_eq rfl fun _ => rfl
  exact .trans left (Acts.trans (Acts.trans (powerIdLeft_acts ..) (withdrawWhere_announced ..).acts) (toldIncident_acts ..)).starters

theorem evictCopy_startersKept (e : Env) (b : Blocks) (r : Incident) : StartersKept b (evictCopy e b r) :=
  .trans (removeCopy_startersKept e b r.id) (queueReport_acts ..).starters

theorem closeRecord_startersKept (e : Env) (b : Blocks) (r : Incident) (reason : CloseReason) :
    StartersKept b (closeRecord e b r reason) := by
  unfold closeRecord
  dsimp only
  refine .trans (.trans ?_ (removeCopy_startersKept e _ r.id)) (queueReport_acts ..).starters
  split
  · exact .refl b
  · exact (queueFrame_acts ..).starters

theorem closeOwned_startersKept (e : Env) (b : Blocks) (id : Option IncidentId) (kind : IncidentKind) :
    StartersKept b (closeOwned e b id kind) := by
  unfold closeOwned
  split
  · exact closeRecord_startersKept ..
  · exact .refl b

theorem makeRoom_startersKept {e : Env} {b b' : Blocks} {severity : Nat} {isLocal : Bool} (h : makeRoom e b severity isLocal = some b') :
    StartersKept b b' := by
  unfold makeRoom at h
  repeat' split at h
  all_goals cases h
  · exact .refl b
  · exact evictCopy_startersKept ..
  · exact closeRecord_startersKept ..
  · exact evictCopy_startersKept ..
  · exact closeRecord_startersKept ..

theorem soundAlarm_startersKept (b : Blocks) (severity : Nat) : StartersKept b (soundAlarm b severity) :=
  .ite _ (.of_eq rfl fun _ => rfl)

theorem queueIncidentFrame_startersKept (e : Env) (b : Blocks) (id : IncidentId) (action : IncidentAction) (reason : Option CloseReason) :
    StartersKept b (queueIncidentFrame e b id action reason) := by
  unfold queueIncidentFrame
  split
  · exact .trans (queueFrame_acts ..).starters (.of_eq rfl fun _ => rfl)
  · exact .refl b

theorem reportIncident_acts (e : Env) (b : Blocks) (event : IncidentEvent) (id : IncidentId) : Acts b (reportIncident e b event id) := by
  unfold reportIncident
  split
  · exact queueReport_acts ..
  · exact .refl b

theorem tellEntry_startersKept (e : Env) (b : Blocks) (r : Incident) (lateness : Option Nat) : StartersKept b (tellEntry e b r lateness) :=
  .trans (.trans (toldIncident_startersKept e b) (soundAlarm_startersKept ..)) (offerForIncident_announced ..).startersKept

theorem raiseIncident_startersKept (e : Env) (b : Blocks) (x : Raise) (lateness : Option Nat) :
    StartersKept b (raiseIncident e b x lateness).1 := by
  unfold raiseIncident
  split
  · dsimp only
    split
    · exact .refl b
    · exact (queueReport_acts ..).starters
  case h_2 b' h =>
    refine .trans (makeRoom_startersKept h) (.trans ?_ (tellEntry_startersKept ..))
    refine .trans (.trans ?_ (queueIncidentFrame_startersKept ..)) (reportIncident_acts ..).starters
    exact .of_eq rfl fun _ => rfl

end Sys2Proof.Machine

/-! SUPPORT. Arrivals and departures of the Platform Regulators: the dwell that an arrival begins, the place of an entry in its sequence,
and what each step of a departure leaves (R74, R85, R90 to R96, R107 to R112). -/

namespace Sys2Proof.Machine

/-! ### The place of an entry in its sequence (R63) -/

theorem indexOf_append {α : Type} {p : α → Bool} {before after : List α} {x : α} (hb : ∀ y ∈ before, p y = false) (hx : p x = true) :
    indexOf (before ++ x :: after) p = some before.length := by
  refine List.find?_range_eq_some.2 ⟨by simp [hx], by simp, fun j hj => ?_⟩
  simp [List.getElem?_append_left hj, hj, hb]

theorem tripIndex_append {before after : List Entry} {x : Entry} (h : ∀ y ∈ before, y.trip ≠ x.trip) :
    tripIndex (before ++ x :: after) x.trip = some before.length :=
  indexOf_append (fun y hy => by simpa using h y hy) (by simp)

theorem modifyAt_append {α : Type} (before after : List α) (x : α) (f : α → α) :
    modifyAt (before ++ x :: after) before.length f = before ++ f x :: after := by simp [modifyAt]

theorem trips_before_ne {before after : List Entry} {x : Entry} (h : ((before ++ x :: after).map (·.trip)).Nodup) :
    ∀ y ∈ before, y.trip ≠ x.trip := by
  intro y hy
  rw [List.map_append, List.nodup_append] at h
  exact h.2.2 _ (List.mem_map_of_mem hy) _ (by simp)

/-- The entry standing immediately before another (R93). -/
theorem departureBefore_append {before after : List Entry} {x : Entry} (h : ∀ y ∈ before, y.trip ≠ x.trip) :
    departureBefore (before ++ x :: after) x.trip = before.getLast?.map (·.departure) := by
  unfold departureBefore
  rw [tripIndex_append h]
  rcases List.eq_nil_or_concat before with rfl | ⟨init, last, rfl⟩
  · rfl
  · simp

/-! ### Arrivals (R85, R90, R91) -/

section
variable {e : Env} {b : Blocks} {t : Track} {stamp : Nat}

theorem arrive_of_occupied {p : Phase} {d : Dwell} (h : (b.platforms.get t).standing = .occupied p d) :
    arrive e b t stamp = queueReport e b (.outOfStep t true stamp) := by simp [arrive, h]

theorem arrive_in_ready (hv : (b.platforms.get t).standing = .vacant) (hs : e.nodeState = .ready) :
    arrive e b t stamp = manualArrival e b t stamp := by simp [arrive, hv, hs]

theorem arrive_in_service (hv : (b.platforms.get t).standing = .vacant) (hs : e.nodeState = .service) :
    arrive e b t stamp = regulatedArrival e b t stamp := by simp [arrive, hv, hs]

theorem depart_of_vacant (hv : (b.platforms.get t).standing = .vacant) :
    depart e b t stamp = queueReport e b (.outOfStep t false stamp) := by simp [depart, hv]

theorem depart_of_occupied {p : Phase} {d : Dwell} (h : (b.platforms.get t).standing = .occupied p d) :
    depart e b t stamp = departTrain e b t p d stamp := by simp [depart, h]

theorem manualArrival_of_empty (h : b.describer.get t = []) : manualArrival e b t stamp =
    queueReport e (writeDwell b t .dwell (.begun .manual 0 stamp)) (arrivalReport t (.begun .manual 0 stamp) none) := by
  simp [manualArrival, h]

theorem manualArrival_of_head {a : Approach} {rest : List Approach} (h : b.describer.get t = a :: rest) :
    manualArrival e b t stamp = queueReport e (writeDwell (takeHead e b t a rest) t .dwell (.begun .manual a.trip stamp))
      (arrivalReport t (.begun .manual a.trip stamp) none) := by
  simp [manualArrival, h]

end

/-- Settles O19: a MANUAL dwell as it is begun, and the two movements out of step. -/
theorem manualArrivalsAndOutOfStep : Obligations.ManualArrivalsAndOutOfStep := by
  intro e b q t stamp
  simp only [exec_occupancyRise, exec_departure]
  refine ⟨?manual, fun hc hw p d hs => ?_, fun hc hw hv => ?_, fun hn => ⟨?_, ?_⟩⟩
  case manual =>
    rintro _ d hw rfl hs hv ⟨mode, entry, outcome, skipped, arrival, scheduled, target, deviation, passed, reasons, stagger, time,
      follower, grace, long, headway⟩
    have begun : d = .begun .manual d.trip stamp := by
      cases d
      simp_all [Dwell.begun]
    have vacant : ((sentOccupancy b t).platforms.get t).standing = .vacant := hv
    rw [occupancyRise_of_waiting hw (by simp [hs]), arrive_in_ready vacant hs]
    refine ⟨fun empty trip => ?_, fun a rest head trip => ?_⟩
    · rw [manualArrival_of_empty (b := sentOccupancy b t) empty, begun, trip]
      rfl
    · rw [manualArrival_of_head (b := sentOccupancy b t) head, begun, trip]
  · rw [occupancyRise_of_waiting hw hc, arrive_of_occupied (b := sentOccupancy b t) hs]
  · rw [occupancyFall_of_waiting hw hc, depart_of_vacant (b := sentOccupancy b t) hv]
  · rw [occupancyRise_of_none hn]
  · rw [occupancyFall_of_none hn]

/-! ### The headway and the gain (R92, R93) -/

theorem headway_of_both (cfg : PlatformConfig) (s p : Nat) :
    (headway cfg (some s) (some p) : Int) = min (max ((s : Int) - (p : Int)) (cfg.wmin : Int)) 6000 := by
  simp only [headway]
  omega

theorem disruption_iff (i : IncidentTable) : i.disruption = true ↔ ∃ r ∈ i.records, r.kind = .delay ∨ r.kind = .trainStalled
    ∨ r.kind = .sectionTrip ∨ r.kind = .departedUnreleased ∨ r.kind = .nodeLost := by
  have kinds (k : IncidentKind) : k.disrupts = true ↔
      k = .delay ∨ k = .trainStalled ∨ k = .sectionTrip ∨ k = .departedUnreleased ∨ k = .nodeLost := by
    cases k <;> simp [IncidentKind.disrupts]
  simp [IncidentTable.disruption, kinds]

theorem effectiveGain_disrupted {e : Env} {b : Blocks} {t : Track} {extra : Bool} (h : extra = true ∨ b.incidents.disruption = true) :
    effectiveGain e b t extra = 8 := by rcases h with h | h <;> simp [effectiveGain, h]

theorem effectiveGain_calm {e : Env} {b : Blocks} {t : Track} {extra : Bool} (h : extra = false) (hd : ¬b.incidents.disruption = true) :
    effectiveGain e b t extra = (e.platformConfig t).gain := by simp [effectiveGain, h, hd]

/-! ### Regulated arrivals (R90, R96) -/

/-- What the computation reads for the train that a match hands over (R93). -/
def arrivalInput (e : Env) (x : Blocks) (t : Track) (m : Match) (stamp : Nat) : DwellInput :=
  { arrival := stamp, scheduled := m.entry.map (·.departure), wmin := (e.platformConfig t).wmin, wmax := (e.platformConfig t).wmax
    rup := (e.platformConfig t).rup, previous := (x.platforms.get t).lastDeparture.map (·.dact)
    headway := headway (e.platformConfig t) (m.entry.map (·.departure)) (departureBefore (x.timetable.sequences.get t) m.trip)
    follower := ((x.describer.get t).head?).map (·.upstream), gain := effectiveGain e x t m.entry.isNone }

/-- The dwell that begins with it (R88, R90). -/
def arrivalDwell (x : Blocks) (t : Track) (m : Match) (i : DwellInput) : Dwell :=
  { Dwell.begun .regulated m.trip i.arrival with
    entry := m.entry.map (·.trip), outcome := some m.outcome, skipped := m.skipped, scheduled := m.entry.map (·.departure)
    target := some i.target, deviation := m.entry.map fun y => (i.target : Int) - (y.departure : Int)
    followerAvailable := (x.describer.get t).isEmpty, headway := i.headway }

theorem regulatedArrival_of_match {e : Env} {b x y : Blocks} {t : Track} {m : Match} {stamp : Nat} {i : DwellInput} {d : Dwell}
    (hm : matchArrival e b t = (x, m)) (hi : i = arrivalInput e x t m stamp) (hd : d = arrivalDwell x t m i)
    (hy : y = queueReport e (writeDwell x t .dwell d) (arrivalReport t d (some i.gain))) :
    regulatedArrival e b t stamp = if i.target ≤ e.time.service then releaseCheck e y t { d with targetOver := true } else y := by
  have deviation : i.deviation = m.entry.map fun y => (i.target : Int) - (y.departure : Int) := by
    subst hi
    cases h : m.entry <;> simp [DwellInput.deviation, arrivalInput, h]
  have passed : e.passed d.target = decide (i.target ≤ e.time.service) := by
    subst hd
    rfl
  have aimed : d = { Dwell.begun .regulated m.trip stamp with
      entry := m.entry.map Entry.trip, outcome := some m.outcome, skipped := m.skipped, scheduled := m.entry.map (·.departure)
      followerAvailable := (x.describer.get t).isEmpty, headway := i.headway, target := some i.target, deviation := i.deviation } := by
    rw [hd, deviation, hi]
    rfl
  have begun : regulatedArrival e b t stamp =
      if e.passed d.target then releaseCheck e y t { d with targetOver := true } else y := by
    unfold regulatedArrival
    rw [hm, hy, aimed, hi]
    rfl
  rw [begun, passed]
  simp only [decide_eq_true_eq]

/-- Settles O20: the dwell of the matched train, with the headway and the gain that its computation reads. -/
theorem regulatedArrivals : Obligations.RegulatedArrivals := by
  refine ⟨fun e b x q t m i d stamp hw hs hv hm hi hd => ?arrival, fun cfg s p => ⟨headway_of_both cfg s p, rfl, rfl, rfl⟩,
    fun before after x h => departureBefore_append (trips_before_ne h), fun e b t extra disrupts hd => ?gain⟩
  case arrival =>
    have vacant : ((sentOccupancy b t).platforms.get t).standing = .vacant := hv
    have dwell : d = arrivalDwell x t m i := by
      rw [hd, hi]
      rfl
    rw [exec_occupancyRise, occupancyRise_of_waiting hw (by simp [hs]), arrive_in_service vacant hs,
      regulatedArrival_of_match hm hi dwell rfl]
  case gain =>
    have disrupted := hd.trans (disruption_iff b.incidents).symm
    exact ⟨fun h => effectiveGain_disrupted (h.imp_right disrupted.1), fun h hn => effectiveGain_calm h (mt disrupted.2 hn)⟩

end Sys2Proof.Machine

/-! SUPPORT. What each step of a departure leaves, the final state of its entry, and its lateness (R74, R107 to R112). -/

namespace Sys2Proof.Machine

/-! ### The final state of an entry (R74) -/

/-- The conditions of R70 at an entry's place (R74). -/
theorem changeRefusal_append (before after : List Entry) (y : Entry) (dep : Nat) :
    changeRefusal (before ++ y :: after) before.length dep = none ↔
      (∀ z, before.getLast? = some z → z.departure ≤ dep) ∧ (∀ z, after.head? = some z → dep ≤ z.departure)
        ∧ ∀ a, y.arrival = some a → a ≤ dep := by
  have previous : (if before.length = 0 then none else (before ++ y :: after)[before.length - 1]?) = before.getLast? := by
    rcases List.eq_nil_or_concat before with rfl | ⟨init, last, rfl⟩ <;> simp
  have next : (before ++ y :: after)[before.length + 1]? = after.head? := by
    rw [List.getElem?_append_right (by omega), Nat.add_sub_cancel_left, List.head?_eq_getElem?]
    rfl
  have here : (before ++ y :: after)[before.length]? = some y := by simp
  unfold changeRefusal
  simp only [previous, next, here, Option.bind_some]
  cases before.getLast? <;> cases after.head? <;> cases y.arrival <;> simp <;> grind

section
variable {e : Env} {x w : Blocks} {t : Track} {before after : List Entry} {y : Entry}

/-- The entry of the train that departs, by what its platform holds of an amendment. -/
theorem finishEntry_append (hl : x.timetable.sequences.get t = before ++ y :: after) (hb : ∀ z ∈ before, z.trip ≠ y.trip)
    (hw : w = x.setPlatform t { x.platforms.get t with amendment := none }) :
    finishEntry e x t y.trip = match (x.platforms.get t).amendment with
      | none => w.setSequence t (before ++ { y with state := .consumed } :: after)
      | some .cancel => w.setSequence t (before ++ { y with state := .cancelled } :: after)
      | some (.change dep) =>
        if changeRefusal (before ++ y :: after) before.length dep = none then
          w.setSequence t (before ++ { y with state := .consumed, departure := dep } :: after)
        else queueReport e (w.setSequence t (before ++ { y with state := .consumed } :: after)) (.amendmentDropped t y.trip dep) := by
  unfold finishEntry
  simp only [hl, tripIndex_append hb, modifyAt_append, ← hw]
  cases (x.platforms.get t).amendment with
  | none => rfl
  | some a =>
    cases a with
    | cancel => rfl
    | change dep =>
      dsimp only
      cases changeRefusal (before ++ y :: after) before.length dep <;> rfl

end

/-- What the end of an entry leaves: of its platform all but the amendment, of the timetable all but the sequences. -/
structure EntryFinished (t : Track) (b b' : Blocks) : Prop where
  field : b'.field = b.field
  describer : b'.describer = b.describer
  peers : b'.peers = b.peers
  load : b'.timetable.load = b.timetable.load
  platform : b'.platforms.get t = { b.platforms.get t with amendment := none }

theorem finishEntry_finished (e : Env) (b : Blocks) (t : Track) (trip : Nat) : EntryFinished t b (finishEntry e b t trip) := by
  have finished (c : Blocks) (hf : c.field = b.field) (hd : c.describer = b.describer) (hp : c.peers = b.peers)
      (hl : c.timetable.load = b.timetable.load)
      (hpl : c.platforms = b.platforms.set t { b.platforms.get t with amendment := none }) : EntryFinished t b c :=
    ⟨hf, hd, hp, hl, by simp [hpl]⟩
  unfold finishEntry
  dsimp only
  split
  · exact finished _ rfl rfl rfl rfl rfl
  · split
    · exact finished _ rfl rfl rfl rfl rfl
    · exact finished _ rfl rfl rfl rfl rfl
    · split <;> exact finished _ rfl rfl rfl rfl rfl

/-! ### What follows at a platform that has been left -/

/-- A platform left stays so, with its last departure and without a light; the queues, the timetable and the peer table stand. -/
structure StaysLeft (t : Track) (b b' : Blocks) : Prop where
  starters : StartersKept b b'
  vacant : (b.platforms.get t).standing = .vacant → (b'.platforms.get t).standing = .vacant
  lastDeparture : (b'.platforms.get t).lastDeparture = (b.platforms.get t).lastDeparture
  amendment : (b'.platforms.get t).amendment = (b.platforms.get t).amendment
  describer : b'.describer = b.describer
  timetable : b'.timetable = b.timetable
  table : b'.peers.table = b.peers.table

theorem StaysLeft.refl (t : Track) (b : Blocks) : StaysLeft t b b := ⟨.refl b, id, rfl, rfl, rfl, rfl, rfl⟩

theorem StaysLeft.trans {t : Track} {a b c : Blocks} (h : StaysLeft t a b) (k : StaysLeft t b c) : StaysLeft t a c where
  starters := h.starters.trans k.starters
  vacant := k.vacant ∘ h.vacant
  lastDeparture := k.lastDeparture.trans h.lastDeparture
  amendment := k.amendment.trans h.amendment
  describer := k.describer.trans h.describer
  timetable := k.timetable.trans h.timetable
  table := k.table.trans h.table

theorem StaysLeft.ite {t : Track} {b x : Blocks} (p : Prop) [Decidable p] (h : StaysLeft t b x) : StaysLeft t b (if p then x else b) := by
  split
  · exact h
  · exact .refl t b

theorem Spares.staysLeft {b b' : Blocks} (h : Spares b b') (hs : StartersKept b b') (t : Track) : StaysLeft t b b' where
  starters := hs
  vacant := h.vacant t
  lastDeparture := by rw [h.platform t]
  amendment := by rw [h.platform t]
  describer := h.describer
  timetable := h.timetable
  table := congrArg PeerView.table h.peers

theorem raiseIncident_staysLeft (e : Env) (b : Blocks) (x : Raise) (lateness : Option Nat) (t : Track) :
    StaysLeft t b (raiseIncident e b x lateness).1 :=
  (raiseIncident_keeps e b x lateness).spares.staysLeft (raiseIncident_startersKept ..) t

theorem queueReport_staysLeft (e : Env) (b : Blocks) (r : ReportBody) (t : Track) : StaysLeft t b (queueReport e b r) :=
  (queueReport_keeps e b r).spares.staysLeft (queueReport_acts ..).starters t

theorem queueFrame_staysLeft (e : Env) (b : Blocks) (f : Frame) (t : Track) : StaysLeft t b (queueFrame e b f) := by
  obtain ⟨l, p, eq⟩ := queueFrame_eq e b f
  rw [eq]
  exact ⟨.of_eq rfl fun _ => rfl, id, rfl, rfl, rfl, rfl, rfl⟩

theorem offerStart_staysLeft (e : Env) (b : Blocks) (sec : TractionSection) (d : Nat) (t : Track) : StaysLeft t b (offerStart e b sec d) := by
  have told (p : PeerView) (hp : p.table = b.peers.table) : StaysLeft t b (toldStarts e (b.setPeers p)) :=
    .trans (b := b.setPeers p) ⟨.of_eq rfl fun _ => rfl, id, rfl, rfl, rfl, rfl, hp⟩
      (((toldStarts_told e _).sheds e).keeps.spares.staysLeft (toldStarts_startersKept e _) t)
  unfold offerStart
  dsimp only
  split
  · exact .refl t b
  · exact told _ rfl

/-- The DELAY id of a platform written. -/
theorem setDelay_staysLeft (b : Blocks) (t : Track) (id : Option IncidentId) :
    StaysLeft t b (b.setPlatform t { b.platforms.get t with delayId := id }) := by
  refine ⟨.of_eq rfl fun u => ?_, ?_, ?_, ?_, rfl, rfl, rfl⟩
  · by_cases hu : u = t
    · subst hu
      simp
    · simp [hu]
  all_goals simp

theorem judgeLateness_staysLeft (e : Env) (b : Blocks) (t : Track) (trip : Nat) (lateness : Int) :
    StaysLeft t b (judgeLateness e b t trip lateness) := by
  have closed (b : Blocks) (id : Option IncidentId) : StaysLeft t b (closeOwned e b id .delay) :=
    (closeOwned_sheds e b id .delay).keeps.spares.staysLeft (closeOwned_startersKept ..) t
  unfold judgeLateness
  dsimp only
  refine .trans (setDelay_staysLeft b t (((b.platforms.get t).delayId).filter fun i => (b.incidents.findOwned i .delay).isSome)) ?_
  split
  · split
    · exact .refl t _
    · exact .trans (raiseIncident_staysLeft ..) (setDelay_staysLeft ..)
  · split
    · split
      · exact .trans (closed ..) (setDelay_staysLeft ..)
      · exact .refl t _
    · exact .refl t _

/-! ### The steps of a departure (R108) -/

/-- The platform when the train has left (R108 step 1). -/
def leftPlatform (b : Blocks) (t : Track) (d : Dwell) (stamp : Nat) : Blocks :=
  (b.setPlatform t { b.platforms.get t with standing := .vacant, lastDeparture := some { trip := d.trip, dact := stamp } }).setStarter
    t false

/-- The train's entry in its final state (R108 step 2). -/
def settledEntry (e : Env) (b : Blocks) (t : Track) (entry : Option Nat) : Blocks :=
  match entry with
  | some trip => finishEntry e b t trip
  | none => b

/-- The steps of a departure that follow its entry's end (R108 steps 3 to 7). -/
def afterEntry (e : Env) (b : Blocks) (t : Track) (d : Dwell) (dact : Nat) (cls : DepartureClass) (terminates : Bool)
    (lateness : Option Int) : Blocks :=
  let b := match e.sectionAhead t with
    | some sec => offerStart e b sec dact
    | none => b
  let b := queueFrame e b (departFrame e t d.trip dact terminates)
  let b := match lateness with
    | some l => judgeLateness e b t d.trip l
    | none => b
  let b := if cls = .unreleased then
      (raiseIncident e b (e.platformRaise .departedUnreleased t (e.aheadOrBehind t) d.trip) none).1
    else b
  let b := queueReport e b (.departed t d.trip dact cls lateness)
  if cls = .lateWithdraw then queueReport e b (.lateWithdraw t d.trip dact) else b

theorem departTrain_eq (e : Env) (b : Blocks) (t : Track) (p : Phase) (d : Dwell) (dact : Nat) :
    departTrain e b t p d dact = afterEntry e (settledEntry e (leftPlatform b t d dact) t d.entry) t d dact (classify p d)
      ((d.entry.map (entryTerminates (b.timetable.sequences.get t))).getD false)
      (if d.entry.isSome then d.scheduled.map fun s : Nat => (dact : Int) - (s : Int) else none) := rfl

theorem afterEntry_staysLeft (e : Env) (b : Blocks) (t : Track) (d : Dwell) (dact : Nat) (cls : DepartureClass) (terminates : Bool)
    (lateness : Option Int) : StaysLeft t b (afterEntry e b t d dact cls terminates lateness) := by
  have started (o : Option TractionSection) : StaysLeft t b (match o with | some sec => offerStart e b sec dact | none => b) := by
    cases o with
    | some sec => exact offerStart_staysLeft ..
    | none => exact .refl t b
  have judged (b : Blocks) (o : Option Int) : StaysLeft t b (match o with | some l => judgeLateness e b t d.trip l | none => b) := by
    cases o with
    | some l => exact judgeLateness_staysLeft ..
    | none => exact .refl t b
  unfold afterEntry
  dsimp only
  refine .trans ?_ (.ite _ (queueReport_staysLeft ..))
  refine .trans ?_ (queueReport_staysLeft ..)
  refine .trans ?_ (.ite _ (raiseIncident_staysLeft ..))
  refine .trans ?_ (judged _ _)
  exact .trans (started _) (queueFrame_staysLeft ..)

theorem leftPlatform_platform (b : Blocks) (t : Track) (d : Dwell) (stamp : Nat) : (leftPlatform b t d stamp).platforms.get t =
    { b.platforms.get t with standing := .vacant, lastDeparture := some { trip := d.trip, dact := stamp } } := by
  simp [leftPlatform, Blocks.setStarter]

theorem leftPlatform_starter (b : Blocks) (t : Track) (d : Dwell) (stamp : Nat) :
    (leftPlatform b t d stamp).field.starters.get t = false := by simp [leftPlatform, Blocks.setStarter]

/-- The platform once its train's entry has come to its end. -/
theorem settledEntry_left (e : Env) (b : Blocks) (t : Track) (entry : Option Nat) :
    (settledEntry e b t entry).field = b.field ∧ (settledEntry e b t entry).describer = b.describer
      ∧ (settledEntry e b t entry).peers = b.peers ∧ (settledEntry e b t entry).timetable.load = b.timetable.load
      ∧ (settledEntry e b t entry).platforms.get t =
        { b.platforms.get t with amendment := if entry.isSome then none else (b.platforms.get t).amendment }
      ∧ (entry = none → (settledEntry e b t entry).timetable = b.timetable) := by
  cases entry with
  | none => exact ⟨rfl, rfl, rfl, rfl, rfl, fun _ => rfl⟩
  | some trip =>
    have done := finishEntry_finished e b t trip
    exact ⟨done.field, done.describer, done.peers, done.load, done.platform, fun h => by simp at h⟩

/-! ### Lateness (R110, R111) -/

theorem aheadOrBehind_eq {e : Env} {t : Track} {sec : TractionSection}
    (h : e.sectionAhead t = some sec ∨ e.sectionAhead t = none ∧ e.sectionBehind t = some sec) : e.aheadOrBehind t = sec := by
  rcases h with h | ⟨h, h'⟩
  · simp [Env.aheadOrBehind, h]
  · simp [Env.aheadOrBehind, h, h']

theorem IncidentTable.findOwned_of {i : IncidentTable} {id : IncidentId} {kind : IncidentKind} {r : Incident} (h : i.find id = some r)
    (hl : r.isLocal = true) (hk : r.kind = kind) : i.findOwned id kind = some r := by simp [IncidentTable.findOwned, h, hl, hk]

theorem IncidentTable.findOwned_eq_none {i : IncidentTable} {id : IncidentId} {kind : IncidentKind}
    (h : ∀ r, i.find id = some r → r.isLocal = false ∨ r.kind ≠ kind) : i.findOwned id kind = none := by
  unfold IncidentTable.findOwned
  rw [Option.filter_eq_none_iff]
  intro r hr
  rcases h r hr with hl | hk
  · simp [hl]
  · simp [hk]

theorem setPlatform_self (b : Blocks) (t : Track) : b.setPlatform t (b.platforms.get t) = b := by cases t <;> rfl

section
variable {e : Env} {x w : Blocks} {t : Track} {trip : Nat} {late : Int}

/-- With a local DELAY held, the lateness can only close it. -/
theorem judgeLateness_held {id : IncidentId} {r : Incident} (hd : (x.platforms.get t).delayId = some id)
    (hf : x.incidents.find id = some r) (hl : r.isLocal = true) (hk : r.kind = .delay) :
    ((e.platformConfig t).ldelay / 2 < late → judgeLateness e x t trip late = x)
      ∧ (late ≤ (e.platformConfig t).ldelay / 2 → w = closeRecord e x r .auto →
        judgeLateness e x t trip late = w.setPlatform t { w.platforms.get t with delayId := none }) := by
  have owned := IncidentTable.findOwned_of hf hl hk
  have keeps : ((x.platforms.get t).delayId).filter (fun i => (x.incidents.findOwned i .delay).isSome) = some id := by simp [hd, owned]
  have stands : x.setPlatform t { x.platforms.get t with delayId := some id } = x := by
    rw [← hd]
    exact setPlatform_self x t
  have closes : closeOwned e x (some id) .delay = closeRecord e x r .auto := by simp [closeOwned, owned]
  unfold judgeLateness
  simp only [keeps, stands, closes]
  refine ⟨fun h => ?_, fun h hw => ?_⟩
  · split
    · rfl
    · rw [if_neg (by omega)]
  · rw [if_neg (by omega), if_pos (by omega), hw]

/-- Without one, a lateness above the limit raises DELAY, and any other leaves the platform without an id. -/
theorem judgeLateness_unheld {sec : TractionSection} {raised : Blocks × Option IncidentId}
    (hs : e.sectionAhead t = some sec ∨ e.sectionAhead t = none ∧ e.sectionBehind t = some sec)
    (hn : ∀ id r, (x.platforms.get t).delayId = some id → x.incidents.find id = some r → r.isLocal = false ∨ r.kind ≠ .delay)
    (hw : w = x.setPlatform t { x.platforms.get t with delayId := none }) :
    (late ≤ (e.platformConfig t).ldelay → judgeLateness e x t trip late = w)
      ∧ ((e.platformConfig t).ldelay < late → raised = raiseIncident e w
          { kind := .delay, severity := 1, span := .one sec, platform := some ⟨e.nodeNumber, t⟩, trip := some trip } (some late.toNat) →
        judgeLateness e x t trip late = raised.1.setPlatform t { raised.1.platforms.get t with delayId := raised.2 }) := by
  have drops : ((x.platforms.get t).delayId).filter (fun i => (x.incidents.findOwned i .delay).isSome) = none := by
    rw [Option.filter_eq_none_iff]
    intro id hid
    simp [IncidentTable.findOwned_eq_none fun r hr => hn id r hid hr]
  unfold judgeLateness
  simp only [drops, ← hw, aheadOrBehind_eq hs]
  refine ⟨fun h => ?_, fun h hr => ?_⟩
  · rw [if_neg (by omega)]
    split <;> rfl
  · rw [if_pos h, hr]
    rfl

end

/-! ### The whole departure -/

theorem entryTerminates_iff (l : List Entry) (entry : Option Nat) :
    (entry.map (entryTerminates l)).getD false = true ↔ ∃ y ∈ l, entry = some y.trip ∧ y.terminates = true := by
  cases entry with
  | none => simp
  | some trip => simp [entryTerminates, @eq_comm _ trip]

/-- The DEPART frame of a departure, its TERMINATES flag said outright (R109). -/
theorem departFrame_eq {e : Env} {t : Track} {entry : Option Nat} {l : List Entry} {ends : Bool}
    (h : ends = true ↔ e.sectionAhead t = none ∨ ∃ y ∈ l, entry = some y.trip ∧ y.terminates = true) (trip dact : Nat) :
    departFrame e t trip dact ((entry.map (entryTerminates l)).getD false) =
      .depart { track := t, trip := trip, dact := dact, entered := e.sectionAhead t, terminates := ends } := by
  have same : ((entry.map (entryTerminates l)).getD false || (e.sectionAhead t).isNone) = ends := by
    rw [Bool.eq_iff_iff, Bool.or_eq_true, entryTerminates_iff, Option.isNone_iff_eq_none, h, or_comm]
  rw [departFrame, same]

/-- Settles O23: the steps of a departure one after the other, and what the entry's end and the lateness come to. -/
theorem departuresVacateThePlatform : Obligations.DeparturesVacateThePlatform := by
  refine ⟨fun p d => by cases p <;> rfl, fun e b q t p d stamp hw hc hs => ?_⟩
  have departs : occupancyFall e b t = departTrain e (sentOccupancy b t) t p d stamp := by
    rw [occupancyFall_of_waiting hw hc, depart_of_occupied (b := sentOccupancy b t) hs]
  rw [exec_departure, departs]
  refine ⟨⟨_, rfl, ?leaves⟩, ?steps, ?entry, ?lateness⟩
  case leaves =>
    have inputs := departTrain_inputs e (sentOccupancy b t) t p d stamp
    rw [departTrain_eq] at inputs ⊢
    obtain ⟨field, describer, peers, load, platform, timetable⟩ := settledEntry_left e (leftPlatform (sentOccupancy b t) t d stamp) t d.entry
    have left := afterEntry_staysLeft e (settledEntry e (leftPlatform (sentOccupancy b t) t d stamp) t d.entry) t d stamp (classify p d)
      ((d.entry.map (entryTerminates ((sentOccupancy b t).timetable.sequences.get t))).getD false)
      (if d.entry.isSome then d.scheduled.map fun s : Nat => (stamp : Int) - (s : Int) else none)
    generalize afterEntry e (settledEntry e (leftPlatform (sentOccupancy b t) t d stamp) t d.entry) t d stamp _ _ _ = b' at left inputs ⊢
    rw [leftPlatform_platform] at platform
    have vacant : (b'.platforms.get t).standing = .vacant := left.vacant (by rw [platform])
    refine ⟨vacant, ?_, ?_, ?_, inputs.waiting, inputs.filters, left.describer.trans describer, ?_, ?_, fun hn => ?_⟩
    · rw [left.lastDeparture, platform]
    · rw [left.amendment, platform]
      rfl
    · refine (left.starters.kept t fun lit => ?_).inactive (by simp [vacant, Standing.state])
      rw [field, leftPlatform_starter] at lit
      cases lit
    · rw [left.timetable, load]
      rfl
    · rw [left.table, peers]
      rfl
    · rw [left.timetable, timetable hn]
      rfl
  case steps =>
    rintro x y z u v cls late sec ends rfl hsec hends hx hy hz hlate hu hv
    have lateness : (if d.entry.isSome then d.scheduled.map fun s : Nat => (stamp : Int) - (s : Int) else none) = late := by
      rw [hlate]
      cases d.entry <;> rfl
    have settled : settledEntry e (leftPlatform (sentOccupancy b t) t d stamp) t d.entry = y := by
      rw [hy, hx]
      cases d.entry <;> rfl
    rw [departTrain_eq, lateness, settled]
    unfold afterEntry
    rw [departFrame_eq (l := (sentOccupancy b t).timetable.sequences.get t) hends, aheadOrBehind_eq hsec]
    subst hv hu hz
    rfl
  case entry =>
    intro x w before after y hl hb hw
    refine ⟨fun ha => ?_, fun ha => ?_, fun dep ha => ⟨fun keeps => ?_, fun breaks => ?_⟩⟩ <;>
      rw [finishEntry_append hl hb hw, ha]
    · exact if_pos ((changeRefusal_append ..).2 keeps)
    · refine if_neg fun keeps => ?_
      obtain ⟨previous, next, arrival⟩ := (changeRefusal_append ..).1 keeps
      rcases breaks with ⟨z, hz, less⟩ | ⟨z, hz, less⟩ | ⟨a, ha, less⟩
      · exact absurd (previous z hz) (Nat.not_le.2 less)
      · exact absurd (next z hz) (Nat.not_le.2 less)
      · exact absurd (arrival a ha) (Nat.not_le.2 less)
  case lateness =>
    intro x w trip late sec raised hsec
    exact ⟨fun id r hd hf hl hk => judgeLateness_held hd hf hl hk, fun hn hw => judgeLateness_unheld hsec hn hw⟩

end Sys2Proof.Machine

/-! SUPPORT. The coil lines through a change of state, an open command and the addition of a lockout id, and the ISOLATE request
(R24, R118, R125, R131, R133). -/

namespace Sys2Proof.Machine

/-! ### What leaves the coil lines (R24) -/

theorem queuePowerFrame_coils (e : Env) (b : Blocks) (br : Breaker) (reason : Option RefusalReason) :
    (queuePowerFrame e b br reason).field.coils = b.field.coils := by
  obtain ⟨l, p, eq⟩ := queuePowerFrame_eq e b br reason
  rw [eq]
  rfl

theorem modifyBreaker_coils (b : Blocks) (br : Breaker) (f : BreakerRecord → BreakerRecord) :
    (modifyBreaker b br f).field.coils = b.field.coils := by
  unfold modifyBreaker
  split
  · rw [Blocks.setBreaker_field]
  · rfl

theorem withdrawWhere_coils (e : Env) (b : Blocks) (p : Chain → Bool) : (withdrawWhere e b p).field.coils = b.field.coils :=
  congrArg FieldState.coils (withdrawWhere_announced e b p).field

theorem tellSection_coils (e : Env) (b : Blocks) (sec : TractionSection) (before after : SectionState) :
    (tellSection e b sec before after).field.coils = b.field.coils := by
  have suspended (x : Blocks) (t : Track) (p : Prop) [Decidable p] :
      (if p then offerSuspend e x t sec else x).field.coils = x.field.coils := by
    split
    · exact congrArg FieldState.coils (offerSuspend_announced e x t sec).field
    · rfl
  have told (o : Option Track) : (match o with
      | some t => if after = SectionState.dead ∧ e.inService then offerSuspend e (toldPower e b t) t sec else toldPower e b t
      | none => b).field.coils = b.field.coils := by
    cases o with
    | none => rfl
    | some t => exact (suspended _ t _).trans (toldPower_told e b t).coils
  unfold tellSection
  dsimp only
  split
  · exact (withdrawWhere_coils ..).trans (told _)
  · exact told _

theorem sectionUpdate_coils (e : Env) (b : Blocks) (br : Breaker) : (sectionUpdate e b br).field.coils = b.field.coils := by
  have written (r : BreakerRecord) : (b.setBreaker br r).field.coils = b.field.coils := by rw [Blocks.setBreaker_field]
  unfold sectionUpdate
  split
  · split
    · rfl
    · dsimp only
      split
      · split
        · exact (toldPower_told ..).coils.trans (written _)
        · exact written _
      · split
        · rfl
        · exact (tellSection_coils ..).trans (written _)
  · rfl

theorem confirmItems_coils (e : Env) (b : Blocks) (p : TractionSection → Bool) : (confirmItems e b p).field.coils = b.field.coils := by
  refine foldl_related (R := fun b b' : Blocks => b'.field.coils = b.field.coils) (fun _ => rfl) (fun h k => k.trans h) (fun b x => ?_) _ b
  unfold confirmItem
  split <;> rfl

theorem setCondition_coils (e : Env) (b : Blocks) (br : Breaker) (c : Condition) (cause : Option ChangeCause) :
    (setCondition e b br c cause).field.coils = b.field.coils := by
  have told (x : Blocks) : (sectionUpdate e (queueReport e (queuePowerFrame e x br none) (.breakerChange br c.state cause)) br).field.coils
      = x.field.coils := (sectionUpdate_coils ..).trans (queuePowerFrame_coils e x br none)
  unfold setCondition
  dsimp only
  split
  · exact (confirmItems_coils ..).trans ((told _).trans (modifyBreaker_coils ..))
  · exact (told _).trans (modifyBreaker_coils ..)

theorem endWait_coils (e : Env) (b : Blocks) (br : Breaker) (reason : RefusalReason) :
    (endWait e b br reason).field.coils = b.field.coils := by
  unfold endWait
  split
  · exact (queuePowerFrame_coils e (clearWait b br) br _).trans (modifyBreaker_coils ..)
  · rfl

/-! ### The end of a restore wait (R138) -/

section
variable {e : Env} {b : Blocks} {br : Breaker} {r : BreakerRecord}

theorem endWait_of_none (hr : b.power.breakers.get br = some r) (hw : r.wait = none) (reason : RefusalReason) :
    endWait e b br reason = b := by simp [endWait, Blocks.waitOf, hr, hw]

theorem endWait_of_some {w : RestoreWait} (hr : b.power.breakers.get br = some r) (hw : r.wait = some w) (reason : RefusalReason) :
    endWait e b br reason = refuseRestore e (clearWait b br) br w.requester reason := by simp [endWait, Blocks.waitOf, hr, hw]

theorem endWait_get (hr : b.power.breakers.get br = some r) (reason : RefusalReason) :
    (endWait e b br reason).power.breakers.get br = some { r with wait := none } := by
  cases hw : r.wait with
  | none =>
    rw [endWait_of_none hr hw, hr, ← hw]
  | some w =>
    rw [endWait_of_some hr hw, refuseRestore, queueReport_power, queuePowerFrame_power, clearWait, modifyBreaker_eq b br r _ hr]
    exact setBreaker_get b br r _ hr

end

/-! ### An open command (R118) -/

/-- The movement that an open command begins at a breaker, if any. -/
def Env.openMove (e : Env) (r : BreakerRecord) : Option Condition :=
  match r.condition with
  | some .closed => some (.opening (e.newCommand false))
  | some (.closing _) => some (.opening (e.newCommand true))
  | some .failed => if r.inputClosed = some true then some (.opening (e.newCommand false)) else none
  | _ => none

/-- The state in which an open command leaves a breaker. -/
def Env.openResult (e : Env) (r : BreakerRecord) : Option Condition :=
  if e.openMove r ≠ none then e.openMove r else if r.condition = some .failed then some .opened else r.condition

/-- The blocks when an open command has moved its breaker; a restore wait is still to end. -/
def openMoved (e : Env) (b : Blocks) (br : Breaker) (r : BreakerRecord) : Blocks :=
  match e.openMove r with
  | some c => setCondition e (openCoil b br) br c none
  | none => if r.condition = some .failed then setCondition e b br .opened none else b

/-- No open command leaves a breaker CLOSED or CLOSING. -/
theorem openResult_not_closing (e : Env) (r : BreakerRecord) :
    e.openResult r ≠ some .closed ∧ ∀ c, e.openResult r ≠ some (.closing c) := by
  unfold Env.openResult Env.openMove
  cases hc : r.condition with
  | none => simp
  | some c =>
    cases c with
    | closed | closing | opening | opened => simp
    | failed => by_cases hi : r.inputClosed = some true <;> simp [hi]

section
variable {e : Env} {b : Blocks} {br : Breaker} {r : BreakerRecord}

theorem openCommand_eq (hr : b.power.breakers.get br = some r) : openCommand e b br = endWait e (openMoved e b br r) br .abandoned := by
  simp only [openCommand, hr, openMoved, Env.openMove]
  cases hc : r.condition with
  | none => simp
  | some c =>
    cases c with
    | failed => cases r.inputClosed with
      | none => simp
      | some level => cases level <;> simp
    | closed => rfl
    | closing k => rfl
    | opening k => rfl
    | opened => rfl

theorem openMoved_get (hr : b.power.breakers.get br = some r) : ∃ s, (openMoved e b br r).power.breakers.get br =
    some { r with condition := e.openResult r, sectionState := s } := by
  unfold openMoved Env.openResult
  cases hm : e.openMove r with
  | some c => exact ⟨_, setCondition_get (b := openCoil b br) hr e c none⟩
  | none =>
    dsimp only
    split
    · exact ⟨_, setCondition_get hr e .opened none⟩
    · exact ⟨r.sectionState, hr⟩

theorem openMoved_coils : (openMoved e b br r).field.coils.get br =
    if e.openMove r ≠ none then { openLine := true, closeLine := false, pendingClose := false } else b.field.coils.get br := by
  unfold openMoved
  cases hm : e.openMove r with
  | some c =>
    simp only [setCondition_coils]
    simp [openCoil, CoilLines.openPulse]
  | none =>
    dsimp only
    split <;> simp [setCondition_coils]

theorem openCommand_get (hr : b.power.breakers.get br = some r) : ∃ s, (openCommand e b br).power.breakers.get br =
    some { r with condition := e.openResult r, wait := none, sectionState := s } := by
  obtain ⟨s, moved⟩ := openMoved_get (e := e) hr
  exact ⟨s, openCommand_eq (e := e) hr ▸ endWait_get moved .abandoned⟩

theorem openCommand_condition (hr : b.power.breakers.get br = some r) : (openCommand e b br).condition br = e.openResult r := by
  obtain ⟨s, h⟩ := openCommand_get (e := e) hr
  simp [Blocks.condition, h]

theorem openCommand_coils (hr : b.power.breakers.get br = some r) : (openCommand e b br).field.coils.get br =
    if e.openMove r ≠ none then { openLine := true, closeLine := false, pendingClose := false } else b.field.coils.get br := by
  rw [openCommand_eq hr, endWait_coils, openMoved_coils]

/-! ### An id that joins a lockout set (R125) -/

theorem lockoutAdd_of_mem {id : IncidentId} (hr : b.power.breakers.get br = some r) (h : id ∈ r.lockout) (latch : Bool) :
    lockoutAdd e b br id latch = b := by simp [lockoutAdd, hr, h]

theorem addLockout_condition (r : BreakerRecord) (id : IncidentId) (latch : Bool) : (r.addLockout id latch).condition = r.condition := by
  unfold BreakerRecord.addLockout
  split_ifs <;> rfl

theorem addLockout_inputClosed (r : BreakerRecord) (id : IncidentId) (latch : Bool) :
    (r.addLockout id latch).inputClosed = r.inputClosed := by
  unfold BreakerRecord.addLockout
  split_ifs <;> rfl

/-- What an open command does depends on the state and the input alone, which no lockout changes. -/
theorem openMove_addLockout (e : Env) (r : BreakerRecord) (id : IncidentId) (latch : Bool) :
    e.openMove (r.addLockout id latch) = e.openMove r := by
  unfold Env.openMove
  rw [addLockout_condition, addLockout_inputClosed]

theorem openResult_addLockout (e : Env) (r : BreakerRecord) (id : IncidentId) (latch : Bool) :
    e.openResult (r.addLockout id latch) = e.openResult r := by
  unfold Env.openResult
  rw [openMove_addLockout, addLockout_condition]

theorem reportLockout_coils (e : Env) (b : Blocks) (br : Breaker) (before : BreakerRecord) :
    (reportLockout e b br before).field.coils = b.field.coils := by
  unfold reportLockout
  split
  · split <;> rfl
  · rfl

section
variable {id : IncidentId} {latch : Bool}

theorem lockoutAdd_of_not_mem (hr : b.power.breakers.get br = some r) (h : id ∉ r.lockout) :
    lockoutAdd e b br id latch = examineBreaker e (reportLockout e (b.setBreaker br (r.addLockout id latch)) br r) br := by
  simp [lockoutAdd, hr, h]

theorem lockoutAdd_get (hr : b.power.breakers.get br = some r) (h : id ∉ r.lockout) :
    ∃ s, (lockoutAdd e b br id latch).power.breakers.get br =
      some { r.addLockout id latch with condition := e.openResult r, wait := none, sectionState := s } := by
  rw [lockoutAdd_of_not_mem hr h, examineBreaker]
  have written : (reportLockout e (b.setBreaker br (r.addLockout id latch)) br r).power.breakers.get br = some (r.addLockout id latch) := by
    rw [reportLockout_power]
    exact setBreaker_get b br r _ hr
  obtain ⟨s, opened⟩ := openCommand_get (e := e) written
  rw [openResult_addLockout] at opened
  exact ⟨s, endWait_get (b := endCloseCoil _ br) opened .abandoned⟩

/-- The open command drives the coil as it would without the id; then the close pulse ends. -/
theorem lockoutAdd_coils (hr : b.power.breakers.get br = some r) (h : id ∉ r.lockout) :
    (lockoutAdd e b br id latch).field.coils.get br =
      { (openCommand e b br).field.coils.get br with closeLine := false, pendingClose := false } := by
  have written : (reportLockout e (b.setBreaker br (r.addLockout id latch)) br r).power.breakers.get br = some (r.addLockout id latch) := by
    rw [reportLockout_power]
    exact setBreaker_get b br r _ hr
  have same : (openCommand e (reportLockout e (b.setBreaker br (r.addLockout id latch)) br r) br).field.coils.get br =
      (openCommand e b br).field.coils.get br := by
    rw [openCommand_coils written, openCommand_coils hr, openMove_addLockout, reportLockout_coils, Blocks.setBreaker_field]
  rw [lockoutAdd_of_not_mem hr h, examineBreaker, endWait_coils, ← same]
  simp [endCloseCoil, CoilLines.endClose]

end

end

/-! ### The station-port ISOLATE (R131) -/

theorem Track.ofCode_of_code {t : Track} {n : Nat} (h : t.code = n) : Track.ofCode n = some t := by
  subst h
  cases t <;> rfl

theorem field_first (c1 c2 c3 c4 : Byte) : field [c1, c2, c3, c4] 0 1 = c1.toNat ∧ field [c1, c2, c3, c4] 1 1 = c2.toNat
    ∧ field [c1, c2, c3, c4] 2 1 = c3.toNat ∧ field [c1, c2, c3, c4] 3 1 = c4.toNat := by simp [field, fieldChars, num]

theorem Incident.items_owned {r : Incident} {o : Owned} (h : r.holding = .owned o) : r.items = o.isolation := by simp [Incident.items, h]

theorem Incident.isLocal_owned {r : Incident} {o : Owned} (h : r.holding = .owned o) : r.isLocal = true := by
  simp [Incident.isLocal, h, Holding.isLocal]

/-- The one record of an id decides what a change of it writes. -/
theorem modifyRecord_congr {b : Blocks} {id : IncidentId} {r : Incident} {f g : Incident → Incident}
    (h : (b.incidents.records.map (·.id)).Nodup) (hr : b.incidents.find id = some r) (same : f r = g r) :
    b.modifyRecord id f = b.modifyRecord id g := by
  refine congrArg b.setRecords (List.map_congr_left fun y hy => ?_)
  split
  case isTrue hid =>
    have found := find_of_nodup h hy
    rw [hid, hr] at found
    obtain rfl := Option.some.inj found
    exact same
  case isFalse => rfl

theorem placeItem_of_mem {l : List IsolationItem} {sec : TractionSection} (h : ∃ i ∈ l, i.sec = sec) :
    placeItem l sec = l.map fun i => if i.sec = sec then { i with sends := 0, repeats := 0, state := .pending } else i :=
  if_pos (by simpa using h)

theorem placeItem_of_not_mem {l : List IsolationItem} {sec : TractionSection} (h : ∀ i ∈ l, i.sec ≠ sec) :
    placeItem l sec = l ++ [{ sec := sec, sends := 0, repeats := 0, state := .pending }] :=
  if_neg (by simpa using h)

theorem restarts_of_not_mem {l : List IsolationItem} {sec : TractionSection} (h : ∀ i ∈ l, i.sec ≠ sec) : restarts l sec = false := by
  simpa [restarts] using fun i hi hs => absurd hs (h i hi)

section
variable {e : Env} {b x x' y : Blocks} {q : List Instr} {id : IncidentId} {sec : TractionSection} {r : Incident} {o : Owned}

/-- An isolation that restarts the section's item (R131). -/
theorem beginIsolation_restart (hc : e.configured = true) (hu : (b.incidents.records.map (·.id)).Nodup) (hf : b.incidents.find id = some r)
    (ho : r.holding = .owned o) (hm : ∃ i ∈ o.isolation, i.sec = sec)
    (hx : x = b.modifyRecord id fun r => r.setItems
      (r.items.map fun i => if i.sec = sec then { i with sends := 0, repeats := 0, state := .pending } else i))
    (hx' : x' = if o.isolation.any fun i => decide (i.sec = sec ∧ i.state ≠ .pending) then
      queueReport e x (.itemChange id sec .pending) else x)
    (hy : y = match e.ownBreaker sec with
      | some br => lockoutAdd e x' br id false
      | none => x') : beginIsolation e b id sec = sendIsolate e y id sec := by
  have items := Incident.items_owned ho
  have placed : (b.modifyRecord id fun r => r.setItems (placeItem r.items sec)) = x := by
    rw [hx]
    exact modifyRecord_congr hu hf (by rw [items, placeItem_of_mem hm])
  have changed : restarts o.isolation sec = o.isolation.any fun i => decide (i.sec = sec ∧ i.state ≠ .pending) := by
    simp [restarts, Bool.decide_and]
  simp only [beginIsolation, hf, placed, items, changed, ← hx', hc, if_true]
  exact congrArg (fun z => sendIsolate e z id sec) hy.symm

/-- An isolation that adds an item for the section (R131). -/
theorem beginIsolation_new (hc : e.configured = true) (hu : (b.incidents.records.map (·.id)).Nodup) (hf : b.incidents.find id = some r)
    (ho : r.holding = .owned o) (hm : ∀ i ∈ o.isolation, i.sec ≠ sec)
    (hx : x = b.modifyRecord id fun r => r.setItems (r.items ++ [{ sec := sec, sends := 0, repeats := 0, state := .pending }]))
    (hy : y = match e.ownBreaker sec with
      | some br => lockoutAdd e x br id false
      | none => x) : beginIsolation e b id sec = sendIsolate e y id sec := by
  have items := Incident.items_owned ho
  have placed : (b.modifyRecord id fun r => r.setItems (placeItem r.items sec)) = x := by
    rw [hx]
    exact modifyRecord_congr hu hf (by rw [items, placeItem_of_not_mem hm])
  simp only [beginIsolation, hf, placed, items, restarts_of_not_mem hm, hc, if_true]
  exact congrArg (fun z => sendIsolate e z id sec) hy.symm

theorem isolateRequest_range (h : e.lineCount < sec.gap + 2) : isolateRequest e b (some sec) id = (b, .range) := by
  have outside : (some sec).filter e.sectionInLine = none := by
    simpa [Env.sectionInLine] using h
  simp only [isolateRequest, outside]

theorem filter_inLine (hin : sec.gap + 2 ≤ e.lineCount) : (some sec).filter e.sectionInLine = some sec := by
  simpa [Env.sectionInLine] using hin

theorem filter_owned (hf : b.incidents.find id = some r) (ho : r.holding = .owned o) :
    (b.incidents.find id).filter Incident.isLocal = some r := by
  simpa [hf] using Incident.isLocal_owned ho

theorem isolateRequest_unknown (hin : sec.gap + 2 ≤ e.lineCount)
    (h : b.incidents.find id = none ∨ ∃ r, b.incidents.find id = some r ∧ r.isLocal = false) :
    isolateRequest e b (some sec) id = (b, .unknownId) := by
  have unknown : (b.incidents.find id).filter Incident.isLocal = none := by
    rcases h with h | ⟨r, h, hl⟩
    · simp [h]
    · simp [h, hl]
  simp only [isolateRequest, filter_inLine hin, unknown]

theorem isolateRequest_full (hin : sec.gap + 2 ≤ e.lineCount) (hf : b.incidents.find id = some r) (ho : r.holding = .owned o)
    (full : 2 ≤ o.isolation.length) (hm : ∀ i ∈ o.isolation, i.sec ≠ sec) : isolateRequest e b (some sec) id = (b, .full) := by
  have refused : 2 ≤ r.items.length ∧ ¬r.items.any fun i => decide (i.sec = sec) := by
    rw [Incident.items_owned ho]
    exact ⟨full, by simpa using hm⟩
  simp only [isolateRequest, filter_inLine hin, filter_owned hf ho, if_pos refused]

theorem isolateRequest_ok (hin : sec.gap + 2 ≤ e.lineCount) (hf : b.incidents.find id = some r) (ho : r.holding = .owned o)
    (room : o.isolation.length < 2 ∨ ∃ i ∈ o.isolation, i.sec = sec) :
    isolateRequest e b (some sec) id = (beginIsolation e b id sec, .ok) := by
  have granted : ¬(2 ≤ r.items.length ∧ ¬r.items.any fun i => decide (i.sec = sec)) := by
    rw [Incident.items_owned ho]
    rintro ⟨full, absent⟩
    rcases room with room | present
    · omega
    · exact absent (by simpa using present)
  simp only [isolateRequest, filter_inLine hin, filter_owned hf ho, if_neg granted]

end

/-- A station-port ISOLATE that is taken answers what its request answers. -/
theorem exec_isolate_answered {e : Env} {b x : Blocks} {q : List Instr} {tag c1 c2 c3 c4 : Byte} {sec : TractionSection} {id : IncidentId}
    {status : Status} (ht : takes b .power 1 tag [c1, c2, c3, c4]) (hc : e.nodeState ≠ .configuring) (ht1 : sec.track.code = c1.toNat)
    (hg : sec.gap = c2.toNat) (hid : id = ⟨c3.toNat, c4.toNat⟩) (h : isolateRequest e (received b) (some sec) id = (x, status)) :
    exec (.isolate tag [c1, c2, c3, c4]) ⟨⟨e, b⟩, q⟩ = .next (answered e x q .power tag [char status.code]) := by
  obtain ⟨f1, f2, f3, f4⟩ := field_first c1 c2 c3 c4
  have section_ : fieldSection [c1, c2, c3, c4] 0 = some sec := by
    simp [fieldSection, f1, f2, Track.ofCode_of_code ht1, ← hg]
  have permitted : Allowed.configured.permits e.nodeState = true := by
    generalize e.nodeState = s at hc
    cases s with
    | configuring => exact absurd rfl hc
    | ready => rfl
    | service => rfl
  refine (congrArg Host.Outcome.next (request_plain e b q .power 1 tag [c1, c2, c3, c4] _ .configured _ ht rfl permitted)).trans ?_
  rw [section_, fieldId, f3, f4, ← hid, h]

/-- Settles O33: the frame, the addition, the open command and the request, each by its equation. -/
theorem isolateFramesAndRequests : Obligations.IsolateFramesAndRequests := by
  intro e b q
  refine ⟨?frames, ?additions, ?commands, ?requests⟩
  case frames =>
    rintro source payload sec id _ hs ha rfl
    have heard : exec (.isolateFrame source payload) ⟨⟨e, b⟩, q⟩ = .next ⟨⟨e, takeIsolate e (heardFrom e b source) sec id⟩, q⟩ := by
      rw [exec_isolateFrame]
      exact congrArg (fun x => Host.Outcome.next (⟨⟨e, x⟩, q⟩ : State)) (receiveFrame_foreign e b source payload _ ha hs)
    rw [heard]
    refine ⟨fun hn => by simp [takeIsolate, hn], fun br hbr => ⟨fun hk => ?_, fun hk => ?_⟩⟩ <;> simp [takeIsolate, hbr, hk]
  case additions =>
    intro br r id hr
    refine ⟨fun hm => lockoutAdd_of_mem hr hm false, fun hm => ?_⟩
    obtain ⟨s, added⟩ := lockoutAdd_get (e := e) (latch := false) hr hm
    refine ⟨_, added, fun short => ?_, fun full => ?_, rfl, (openCommand_condition hr).symm, lockoutAdd_coils hr hm⟩
    · simp [BreakerRecord.addLockout, Config.lockoutMax, short]
    · simp [BreakerRecord.addLockout, Config.lockoutMax, Nat.not_lt.2 full]
  case commands =>
    intro br r cmd moves x hr hcmd hmoves hx
    have move : moves = e.openMove r := by
      rw [hmoves, Env.openMove, hcmd, hcmd]
      rfl
    have moved : x = openMoved e b br r := by
      rw [hx, move]
      rfl
    obtain ⟨s, record⟩ := openMoved_get (e := e) hr
    rw [← moved] at record
    rw [move]
    refine ⟨fun hw => ?_, fun w hw => ?_, openCommand_condition hr, openCommand_coils hr⟩
    · rw [openCommand_eq hr, ← moved]
      exact endWait_of_none record hw .abandoned
    · rw [openCommand_eq hr, ← moved]
      exact endWait_of_some record hw .abandoned
  case requests =>
    intro tag c1 c2 c3 c4 sec id ht hc proper ht1 hg hid
    have configured : e.configured = true := by simp [Env.configured, hc]
    refine ⟨fun h => ?_, fun hin h => ?_, fun r o hin hf ho => ⟨fun full hm => ?_, fun hm x x' y hx hx' hy => ?_, fun short hm x y hx hy => ?_⟩⟩
    · exact exec_isolate_answered ht hc ht1 hg hid (isolateRequest_range h)
    · exact exec_isolate_answered ht hc ht1 hg hid (isolateRequest_unknown hin h)
    · exact exec_isolate_answered ht hc ht1 hg hid (isolateRequest_full hin hf ho full hm)
    · have begun := beginIsolation_restart (b := received b) configured proper.2 hf ho hm hx hx' hy
      exact exec_isolate_answered ht hc ht1 hg hid (begun ▸ isolateRequest_ok (b := received b) hin hf ho (.inr hm))
    · have begun := beginIsolation_new (b := received b) configured proper.2 hf ho hm hx hy
      exact exec_isolate_answered ht hc ht1 hg hid (begun ▸ isolateRequest_ok (b := received b) hin hf ho (.inl short))

end Sys2Proof.Machine

/-! SUPPORT. An emergency stop: the record it enters, the lockouts, the isolations under it, and its platform (R102, R125, R131, R139,
R149). -/

namespace Sys2Proof.Machine

/-! ### What a raise with room leaves (R149, R164) -/

/-- The new record is found under its id. -/
theorem raiseIncident_find {e : Env} {b b' : Blocks} {x : Raise} (h : makeRoom e b x.severity true = some b')
    (short : b'.incidents.records.length < 255) (lateness : Option Nat) :
    (raiseIncident e b x lateness).1.incidents.find (b'.newRecord e x).id = some (b'.newRecord e x).refreshed := by
  have absent : b'.incidents.records.find? (fun r => decide (r.id = (b'.newRecord e x).id)) = none :=
    List.find?_eq_none.2 fun r hr => by simpa using newRecord_fresh (e := e) short x r hr
  rw [IncidentTable.find, (raiseIncident_of_room h lateness).2, find_map_refreshedAt, List.find?_append, absent]
  simp [refreshedAt]

theorem tellEntry_alarm {e : Env} {b : Blocks} {r : Incident} (h : 3 ≤ r.severity) (lateness : Option Nat) :
    (tellEntry e b r lateness).incidents.alarm = true ∧ (tellEntry e b r lateness).field.alarmLine = true := by
  have announced := offerForIncident_announced e (soundAlarm (toldIncident e b) r.severity) r lateness
  rw [tellEntry, announced.incidents, announced.field, soundAlarm, if_pos h]
  exact ⟨rfl, rfl⟩

theorem raiseIncident_alarm {e : Env} {b b' : Blocks} {x : Raise} (h : makeRoom e b x.severity true = some b') (hs : 3 ≤ x.severity)
    (lateness : Option Nat) : (raiseIncident e b x lateness).1.incidents.alarm = true
      ∧ (raiseIncident e b x lateness).1.field.alarmLine = true := by
  simp only [raiseIncident, h]
  exact tellEntry_alarm (by exact hs) lateness

/-! ### The lockouts of a track (R125, R139) -/

theorem lockoutAdd_atBreaker (e : Env) (b : Blocks) (br : Breaker) (id : IncidentId) (latch : Bool) :
    AtBreaker br b (lockoutAdd e b br id latch) := by
  cases hr : b.power.breakers.get br with
  | none =>
    simp only [lockoutAdd, hr]
    exact .refl br b
  | some r =>
    by_cases hm : id ∈ r.lockout
    · rw [lockoutAdd_of_mem hr hm]
      exact .refl br b
    · rw [lockoutAdd_of_not_mem hr hm, examineBreaker]
      refine .trans ?_ (endWait_atBreaker ..)
      refine .trans (b := openCommand e _ br) ?_ (.of_power rfl)
      exact .trans (.trans (setBreaker_atBreaker ..) (.of_power (reportLockout_power ..))) (openCommand_atBreaker ..)

theorem mem_addLockout_latch (r : BreakerRecord) (id : IncidentId) : id ∈ (r.addLockout id true).lockout := by
  unfold BreakerRecord.addLockout
  split <;> simp

/-- A breaker once the id of an emergency stop has joined its set. -/
structure LockedBy (e : Env) (id : IncidentId) (x y : BreakerRecord) : Prop where
  member : id ∈ y.lockout
  opened : id ∉ x.lockout → y.condition = e.openResult x

theorem lockoutAdd_latch_lockedBy {e : Env} {b : Blocks} {br : Breaker} {x : BreakerRecord} (hr : b.power.breakers.get br = some x)
    (id : IncidentId) : ∃ y, (lockoutAdd e b br id true).power.breakers.get br = some y ∧ LockedBy e id x y := by
  by_cases hm : id ∈ x.lockout
  · rw [lockoutAdd_of_mem hr hm]
    exact ⟨x, hr, hm, fun h => absurd hm h⟩
  · obtain ⟨s, added⟩ := lockoutAdd_get (e := e) (latch := true) hr hm
    exact ⟨_, added, mem_addLockout_latch x id, fun _ => rfl⟩

/-- Both breakers of a track take the id, the low-end one first. -/
def lockTrack (e : Env) (b : Blocks) (t : Track) (id : IncidentId) : Blocks :=
  [t.lowBreaker, t.highBreaker].foldl (fun b br => lockoutAdd e b br id true) b

theorem lockTrack_acts (e : Env) (b : Blocks) (t : Track) (id : IncidentId) : Acts b (lockTrack e b t id) :=
  Acts.foldl (fun b br => lockoutAdd_acts e b br id true) _ b

theorem lockTrack_latches (e : Env) (b : Blocks) (t : Track) (id : IncidentId) : (lockTrack e b t id).power.latches = b.power.latches :=
  (lockoutAdd_latches ..).trans (lockoutAdd_latches ..)

theorem breaker_of_track {t : Track} {br : Breaker} (h : br.track = t) : br = t.lowBreaker ∨ br = t.highBreaker := by
  subst h
  cases br <;> simp [Breaker.track, Track.lowBreaker, Track.highBreaker]

theorem lowBreaker_ne_highBreaker (t : Track) : t.lowBreaker ≠ t.highBreaker := by cases t <;> decide

theorem lockTrack_lockedBy {e : Env} {b : Blocks} {t : Track} {br : Breaker} {x : BreakerRecord} (id : IncidentId) (ht : br.track = t)
    (hr : b.power.breakers.get br = some x) : ∃ y, (lockTrack e b t id).power.breakers.get br = some y ∧ LockedBy e id x y := by
  have low := lockoutAdd_atBreaker e b t.lowBreaker id true
  have high := lockoutAdd_atBreaker e (lockoutAdd e b t.lowBreaker id true) t.highBreaker id true
  rcases breaker_of_track ht with rfl | rfl
  · obtain ⟨y, hy, locked⟩ := lockoutAdd_latch_lockedBy (e := e) hr id
    exact ⟨y, (high.others _ (lowBreaker_ne_highBreaker t)).trans hy, locked⟩
  · exact lockoutAdd_latch_lockedBy ((low.others _ (lowBreaker_ne_highBreaker t).symm).trans hr) id

/-- The id stands in the set of every breaker of a track. -/
def Blocks.trackLocked (b : Blocks) (t : Track) (id : IncidentId) : Prop :=
  ∀ br x, br.track = t → b.power.breakers.get br = some x → id ∈ x.lockout

theorem lockTrack_trackLocked (e : Env) (b : Blocks) (t : Track) (id : IncidentId) : (lockTrack e b t id).trackLocked t id := by
  intro br y ht hy
  cases hr : b.power.breakers.get br with
  | none =>
    have still : ((lockTrack e b t id).power.breakers.get br).isSome = (b.power.breakers.get br).isSome :=
      (Keeps.foldl (fun b br => lockoutAdd_keeps e b br id true) [t.lowBreaker, t.highBreaker] b).present br
    simp [hr, hy] at still
  | some x =>
    obtain ⟨z, hz, locked⟩ := lockTrack_lockedBy (e := e) id ht hr
    obtain rfl := Option.some.inj (hy.symm.trans hz)
    exact locked.member

/-! ### Isolations under an incident that has locked the track (R131) -/

theorem ownBreaker_track {e : Env} {sec : TractionSection} {br : Breaker} (h : e.ownBreaker sec = some br) : br.track = sec.track := by
  obtain ⟨at_, -⟩ := Option.filter_eq_some_iff.1 h
  unfold TractionSection.breakerAt at at_
  split_ifs at at_ <;> obtain rfl := Option.some.inj at_ <;> cases sec.track <;> rfl

/-- The addition at this node's own end, if it is one. -/
def lockOwn (e : Env) (b : Blocks) (id : IncidentId) (sec : TractionSection) : Blocks :=
  match e.ownBreaker sec with
  | some br => lockoutAdd e b br id false
  | none => b

theorem lockOwn_acts (e : Env) (b : Blocks) (id : IncidentId) (sec : TractionSection) : Acts b (lockOwn e b id sec) := by
  unfold lockOwn
  split
  · exact lockoutAdd_acts ..
  · exact .refl b

theorem lockOwn_of_locked (e : Env) {b : Blocks} {id : IncidentId} {sec : TractionSection} (h : b.trackLocked sec.track id) :
    lockOwn e b id sec = b := by
  unfold lockOwn
  split
  case h_1 br hbr =>
    cases hr : b.power.breakers.get br with
    | none => simp [lockoutAdd, hr]
    | some x => exact lockoutAdd_of_mem hr (h br x (ownBreaker_track hbr) hr) false
  case h_2 => rfl

/-- What follows the placing of an isolation's item: the report of a restart, the addition, the first send. -/
def isolationPlaced (e : Env) (b : Blocks) (id : IncidentId) (sec : TractionSection) (again : Bool) : Blocks :=
  let b := lockOwn e (if again then queueReport e b (.itemChange id sec .pending) else b) id sec
  if e.configured then sendIsolate e b id sec else b

theorem beginIsolation_eq {e : Env} {b : Blocks} {id : IncidentId} {r : Incident} (h : b.incidents.find id = some r) (sec : TractionSection) :
    beginIsolation e b id sec =
      isolationPlaced e (b.modifyRecord id fun r => r.setItems (placeItem r.items sec)) id sec (restarts r.items sec) := by
  simp only [beginIsolation, h]
  rfl

theorem sendIsolate_acts (e : Env) (b : Blocks) (id : IncidentId) (sec : TractionSection) : Acts b (sendIsolate e b id sec) :=
  .trans (queueFrame_acts ..) (setItem_acts _ id sec (by exact fun _ => rfl))

theorem isolationPlaced_acts (e : Env) (b : Blocks) (id : IncidentId) (sec : TractionSection) (again : Bool) :
    Acts b (isolationPlaced e b id sec again) :=
  .trans (.trans (.ite _ (queueReport_acts ..)) (lockOwn_acts ..)) (.ite _ (sendIsolate_acts ..))

theorem isolationPlaced_power {e : Env} {b : Blocks} {id : IncidentId} {sec : TractionSection} (h : b.trackLocked sec.track id)
    (again : Bool) : (isolationPlaced e b id sec again).power = b.power := by
  have sent (x : Blocks) : (if e.configured = true then sendIsolate e x id sec else x).power = x.power := by
    split
    · exact queueFrame_power ..
    · rfl
  rw [isolationPlaced, sent]
  cases again with
  | false => exact congrArg Blocks.power (lockOwn_of_locked e h)
  | true =>
    have still := lockOwn_of_locked e (b := queueReport e b (.itemChange id sec .pending)) h
    exact (congrArg Blocks.power still :)

/-- Isolations begun one after the other under an incident whose record stood as `r` before: the lines are true, the alarm and the
Power Controller stand, and the record has gained their sections. -/
structure Isolates (id : IncidentId) (r : Incident) (l : List TractionSection) (b b' : Blocks) : Prop where
  starters : StartersKept b b'
  alarm : b'.incidents.alarm = b.incidents.alarm
  alarmLine : b'.field.alarmLine = b.field.alarmLine
  power : b'.power = b.power
  record : ∃ r', b'.incidents.find id = some r' ∧ r.StandsOn r' ∧ r'.items.map (·.sec) = r.items.map (·.sec) ++ l

section
variable {e : Env} {b : Blocks} {id : IncidentId} {r : Incident}

theorem beginIsolation_isolates {sec : TractionSection} (hf : b.incidents.find id = some r) (hl : r.isLocal = true)
    (fresh : sec ∉ r.items.map (·.sec)) (locked : b.trackLocked sec.track id) :
    Isolates id r [sec] b (beginIsolation e b id sec) := by
  rw [beginIsolation_eq hf]
  have placed := modifyRecord_find_same (f := fun r => r.setItems (placeItem r.items sec)) hf fun r => (r.setItems_standsOn _).id_eq
  have acts := isolationPlaced_acts e (b.modifyRecord id fun r => r.setItems (placeItem r.items sec)) id sec (restarts r.items sec)
  obtain ⟨r', found, stands, sections⟩ := acts.records id _ placed
  have absent : ∀ i ∈ r.items, i.sec ≠ sec := fun i hi same => fresh (List.mem_map.2 ⟨i, hi, same⟩)
  have written : StartersKept b (b.modifyRecord id fun r => r.setItems (placeItem r.items sec)) := .of_eq rfl fun _ => rfl
  refine ⟨written.trans acts.starters, acts.alarm, acts.alarmLine, isolationPlaced_power (by exact locked) _,
    r', found, (r.setItems_standsOn _).trans stands, ?_⟩
  rw [sections, Incident.items_setItems hl, placeItem_of_not_mem absent, List.map_append]
  rfl

theorem beginIsolations_isolates {t : Track} {l : List TractionSection} (hf : b.incidents.find id = some r) (hl : r.isLocal = true)
    (fresh : (r.items.map (·.sec) ++ l).Nodup) (ht : ∀ sec ∈ l, sec.track = t) (locked : b.trackLocked t id) :
    Isolates id r l b (l.foldl (fun b sec => beginIsolation e b id sec) b) := by
  induction l generalizing b r with
  | nil => exact ⟨.refl b, rfl, rfl, rfl, r, hf, .inl rfl, (List.append_nil _).symm⟩
  | cons sec l ih =>
    have new : sec ∉ r.items.map (·.sec) := fun hm => (List.nodup_append.1 fresh).2.2 sec hm sec List.mem_cons_self rfl
    have here : sec.track = t := ht sec List.mem_cons_self
    have first := beginIsolation_isolates (e := e) hf hl new (here ▸ locked)
    obtain ⟨r', found, stands, sections⟩ := first.record
    have rest := ih (b := beginIsolation e b id sec) found (stands.isLocal ▸ hl) (by rw [sections]; simpa using fresh)
      (fun s hs => ht s (List.mem_cons_of_mem sec hs)) (fun br x hbr hx => locked br x hbr (first.power ▸ hx))
    obtain ⟨r'', found', stands', sections'⟩ := rest.record
    refine ⟨first.starters.trans rest.starters, rest.alarm.trans first.alarm, rest.alarmLine.trans first.alarmLine,
      rest.power.trans first.power, r'', found', stands.trans stands', ?_⟩
    rw [sections', sections, List.append_assoc]
    rfl

end

theorem adjacent_track {e : Env} {t : Track} {sec : TractionSection} (h : sec ∈ e.adjacent t) : sec.track = t := by
  unfold Env.adjacent at h
  rcases List.mem_append.1 h with h | h <;> split_ifs at h <;> simp_all

theorem adjacent_nodup (e : Env) (t : Track) : (e.adjacent t).Nodup := by
  unfold Env.adjacent
  split_ifs <;> simp
  omega

/-! ### The platform whose latch is set (R101, R102) -/

/-- At a set latch no platform is RELEASED, and one in HELD shows ESTOP. -/
structure Stopped (b : Blocks) (t : Track) : Prop where
  notReleased : (b.platforms.get t).standing.state ≠ .released
  held : ∀ d, (b.platforms.get t).standing = .occupied .held d → d.reasons.estop = true

theorem Stopped.of_held {b : Blocks} {t : Track} {d : Dwell} (h : (b.platforms.get t).standing = .occupied .held d)
    (he : d.reasons.estop = true) : Stopped b t := by
  refine ⟨by simp [h, Standing.state], fun d' h' => ?_⟩
  obtain ⟨-, rfl⟩ := Standing.occupied.inj (h.symm.trans h')
  exact he

theorem Stopped.of_other {b : Blocks} {t : Track} (hr : (b.platforms.get t).standing.state ≠ .released)
    (hh : ∀ d, (b.platforms.get t).standing ≠ .occupied .held d) : Stopped b t := ⟨hr, fun d h => absurd h (hh d)⟩

theorem Stopped.of_platforms {b b' : Blocks} {t : Track} (h : Stopped b t) (same : b'.platforms = b.platforms) : Stopped b' t :=
  ⟨same ▸ h.notReleased, same ▸ h.held⟩

theorem writeDwell_standing (b : Blocks) (t : Track) (p : Phase) (d : Dwell) :
    ((writeDwell b t p d).platforms.get t).standing = .occupied p d := by simp [writeDwell]

theorem watchHeld_stopped (e : Env) {b : Blocks} {t : Track} {d : Dwell} (h : (b.platforms.get t).standing = .occupied .held d)
    (he : d.reasons.estop = true) : Stopped (watchHeld e b t) t := by
  simp only [watchHeld, h]
  split
  · refine .of_held (d := { d with heldLong := true }) ?_ he
    rw [(offerHeld_announced ..).platforms, writeDwell_standing]
  · exact .of_held h he

theorem enterHeld_stopped (e : Env) (b : Blocks) (t : Track) {d : Dwell} (he : d.reasons.estop = true) : Stopped (enterHeld e b t d) t :=
  watchHeld_stopped e (d := d) (writeDwell_standing b t .held d) he

theorem settleHeld_stopped (e : Env) (b : Blocks) (t : Track) (old : Dwell) {new : Dwell} (he : new.reasons.estop = true) :
    Stopped (settleHeld e b t old new) t := by
  have notEmpty : new.reasons.isEmpty = false := by simp [Reasons.isEmpty, he]
  simp only [settleHeld, notEmpty, Bool.false_eq_true, if_false]
  split
  · exact .of_held (writeDwell_standing ..) he
  · exact .of_held (d := new) (writeDwell_standing b t .held new) he

theorem toldLatch_stopped (e : Env) {b : Blocks} {t : Track} (h : (b.power.latches.get t).isSet = true) : Stopped (toldLatch e b t) t := by
  unfold toldLatch
  split
  · exact settleHeld_stopped e b t _ h
  · simp only [reasonEstop, h, if_true]
    exact enterHeld_stopped e b t rfl
  case h_3 d hd => exact .of_other (by simp [hd, Standing.state]) (by simp [hd])
  case h_4 hv => exact .of_other (by simp [hv, Standing.state]) (by simp [hv])

/-! ### The whole stop (R139) -/

/-- An emergency stop whose record has entered the table: `y` stands for the blocks when the table has made its room. -/
structure StoppedBy (e : Env) (t : Track) (y b' : Blocks) (id : IncidentId) (r : Incident) : Prop where
  latch : b'.power.latches.get t = { isSet := true, id := some id, ignored := 0 }
  found : b'.incidents.find id = some r
  stands : (y.newRecord e (estopRaise e t)).StandsOn r
  sections : r.items.map (·.sec) = e.adjacent t
  breakers : ∀ br x, br.track = t → y.power.breakers.get br = some x → ∃ z, b'.power.breakers.get br = some z ∧ LockedBy e id x z
  alarm : b'.incidents.alarm = true
  alarmLine : b'.field.alarmLine = true
  platform : Stopped b' t

/-- The press with its latch set. -/
def latchSet (b : Blocks) (t : Track) (id : Option IncidentId) : Blocks := b.setLatch t { isSet := true, id := id, ignored := 0 }

/-- What an emergency stop does once its record has entered the table. -/
def stopTrack (e : Env) (b : Blocks) (t : Track) (id : IncidentId) : Blocks :=
  let b := (e.adjacent t).foldl (fun b sec => beginIsolation e b id sec) (lockTrack e (latchSet b t (some id)) t id)
  queueReport e (queueReport e (toldLatch e b t) (.plungerPressed t 0)) (.latchSet t (some id))

section
variable {e : Env} {b y : Blocks} {t : Track}

theorem emergencyStop_of_room (h : makeRoom e (latchSet b t none) 4 true = some y) : emergencyStop e b t =
    stopTrack e (raiseIncident e (latchSet b t none) (estopRaise e t) none).1 t (y.newRecord e (estopRaise e t)).id := by
  have entered := (raiseIncident_of_room (x := estopRaise e t) h none).1
  unfold emergencyStop
  simp only [← latchSet.eq_1, entered]
  rfl

theorem setLatch_startersKept (b : Blocks) (t : Track) (l : Latch) : StartersKept b (b.setLatch t l) := .of_eq rfl fun _ => rfl

theorem emergencyStop_stoppedBy (h : makeRoom e (latchSet b t none) 4 true = some y) (short : y.incidents.records.length < 32) :
    (∃ r, StoppedBy e t y (emergencyStop e b t) (y.newRecord e (estopRaise e t)).id r) ∧ StartersKept b (emergencyStop e b t) := by
  have found := raiseIncident_find (x := estopRaise e t) h (by omega) none
  obtain ⟨alarm, alarmLine⟩ := raiseIncident_alarm (x := estopRaise e t) h (Nat.le_succ 3) none
  have power := raiseIncident_power_of_room (x := estopRaise e t) h none
  have starters := raiseIncident_startersKept e (latchSet b t none) (estopRaise e t) none
  rw [emergencyStop_of_room h]
  generalize (raiseIncident e (latchSet b t none) (estopRaise e t) none).1 = u at found alarm alarmLine power starters
  generalize hid : (y.newRecord e (estopRaise e t)).id = id at found
  have acts := lockTrack_acts e (latchSet u t (some id)) t id
  have locked := lockTrack_trackLocked e (latchSet u t (some id)) t id
  obtain ⟨r, record, stands, items⟩ := acts.records id _ found
  have none_ : r.items.map (·.sec) = [] := items
  have isLocal : r.isLocal = true := stands.isLocal
  have isolates := beginIsolations_isolates (e := e) record isLocal (by rw [none_]; exact adjacent_nodup e t)
    (fun sec hs => adjacent_track hs) locked
  obtain ⟨r', record', stands', sections⟩ := isolates.record
  have told := toldLatch_told e ((e.adjacent t).foldl (fun b sec => beginIsolation e b id sec) (lockTrack e (latchSet u t (some id)) t id)) t
  have latches : ((e.adjacent t).foldl (fun b sec => beginIsolation e b id sec)
      (lockTrack e (latchSet u t (some id)) t id)).power.latches.get t = { isSet := true, id := some id, ignored := 0 } := by
    rw [isolates.power, lockTrack_latches]
    simp [latchSet, Blocks.setLatch]
  refine ⟨⟨r', ?_, ?_, ?_, ?_, fun br x ht hx => ?_, ?_, ?_, ?_⟩, ?_⟩
  · exact (congrArg (fun p : Power => p.latches.get t) told.power).trans latches
  · exact (congrArg (fun i : IncidentTable => i.find id) told.incidents).trans record'
  · exact (Incident.refreshed_standsOn _).trans (stands.trans stands')
  · rw [sections, none_, List.nil_append]
  · obtain ⟨z, hz, by_⟩ := lockTrack_lockedBy (e := e) (b := latchSet u t (some id)) id ht (by rw [← power] at hx; exact hx)
    refine ⟨z, ?_, by_⟩
    exact (congrArg (fun p : Power => p.breakers.get br) (told.power.trans isolates.power)).trans hz
  · exact (congrArg IncidentTable.alarm told.incidents).trans (isolates.alarm.trans (acts.alarm.trans alarm))
  · exact told.alarmLine.trans (isolates.alarmLine.trans (acts.alarmLine.trans alarmLine))
  · exact (toldLatch_stopped e (by rw [latches])).of_platforms rfl
  · refine .trans (setLatch_startersKept b t _) (starters.trans ?_)
    refine .trans (setLatch_startersKept u t _) (acts.starters.trans (isolates.starters.trans ?_))
    exact .trans (toldLatch_startersKept ..) (.of_eq rfl fun _ => rfl)

end

/-- A new emergency stop's own fields, which no later change of its record touches. -/
theorem StoppedBy.fields {e : Env} {t : Track} {y b' : Blocks} {id : IncidentId} {r : Incident} (h : StoppedBy e t y b' id r) :
    r.kind = .emergencyStop ∧ r.severity = 4 ∧ r.isLocal = true ∧ r.owner = e.nodeNumber ∧ r.platform = some ⟨e.nodeNumber, t⟩
      ∧ r.trip = none ∧ r.raised = e.time.service ∧ r.span = (estopRaise e t).span := by
  rcases h.stands with rfl | ⟨o, o', -, rfl⟩ <;> exact ⟨rfl, rfl, rfl, rfl, rfl, rfl, rfl, rfl⟩

theorem estopRaise_span (e : Env) (t : Track) : (estopRaise e t).span =
    { tracks := .one t, first := if e.nodeNumber = 0 then 0 else e.nodeNumber - 1
      last := if e.nodeNumber + 2 ≤ e.lineCount then e.nodeNumber else e.nodeNumber - 1 } := by
  by_cases h : e.nodeNumber = 0
  · simp [estopRaise, h]
  · simp [estopRaise, h, Nat.one_le_iff_ne_zero.2 h]

theorem openResult_of_failed_open {e : Env} {x : BreakerRecord} (hf : x.condition = some .failed) (hi : x.inputClosed = some false) :
    e.openResult x = some .opened := by simp [Env.openResult, Env.openMove, hf, hi]

/-- Settles O13: the stop with whatever room the table has made, and with a short table the blocks themselves. -/
theorem emergencyStopLocksTheTrack : Obligations.EmergencyStopLocksTheTrack := by
  rintro e b q t stamp hw clear _ rfl
  have pressed : exec (.plungerPress t) ⟨⟨e, b⟩, q⟩ = .next ⟨⟨e, emergencyStop e (sentPlunger b t) t⟩, q⟩ := by
    have clear' : ¬((sentPlunger b t).power.latches.get t).isSet = true := Bool.eq_false_iff.1 clear
    rw [exec_plungerPress, plungerRise_of_waiting hw, plungerPress]
    exact congrArg (fun x => Host.Outcome.next (⟨⟨e, x⟩, q⟩ : State)) (if_neg clear')
  refine ⟨fun short lit => ?_, fun y room short => ?_⟩
  · have room := makeRoom_of_short (e := e) (b := latchSet (sentPlunger b t) t none) short 4 true
    obtain ⟨⟨r, stop⟩, starters⟩ := emergencyStop_stoppedBy room short
    have keeps := emergencyStop_keeps e (sentPlunger b t) t
    obtain ⟨kind, severity, isLocal, owner, platform, trip, raised, span⟩ := stop.fields
    refine ⟨_, _, r, pressed, rfl, stop.latch, stop.found, kind, severity, isLocal, owner, platform, trip, raised, stop.sections,
      span.trans (estopRaise_span e t), fun br x ht hx => ?_, stop.alarm, stop.alarmLine, ?_, stop.platform.held, keeps.filters,
      keeps.delivered, keeps.peers, keeps.timetable, keeps.describer⟩
    · obtain ⟨y, hy, locked⟩ := stop.breakers br x ht hx
      refine ⟨y, hy, locked.member, fun new => ?_⟩
      rw [locked.opened new]
      obtain ⟨notClosed, notClosing⟩ := openResult_not_closing e x
      exact ⟨notClosed, notClosing, openResult_of_failed_open⟩
    · exact (starters.kept t lit).inactive stop.platform.notReleased
  · obtain ⟨⟨r, stop⟩, -⟩ := emergencyStop_stoppedBy room short
    obtain ⟨kind, severity, isLocal, owner, platform, -, -, span⟩ := stop.fields
    refine ⟨_, _, r, pressed, rfl, stop.latch, stop.found, kind, severity, isLocal, owner, platform,
      span.trans (estopRaise_span e t), stop.sections, fun br x ht hx => ?_, stop.alarm, stop.alarmLine⟩
    obtain ⟨z, hz, locked⟩ := stop.breakers br x ht hx
    exact ⟨z, hz, locked.member⟩

end Sys2Proof.Machine

/-! SUPPORT. The sampling point: the rows that bring what a former point accepted, and each input's sample (R15 to R21). -/

namespace Sys2Proof.Machine

/-! ### Deliveries by rows (R16 to R19) -/

/-- A row that brings an accepted change of an input. -/
def BringsChange (r : Instr) : Prop :=
  (∃ t, r = .occupancyRise t ∨ r = .departure t ∨ r = .plungerPress t ∨ r = .plungerRelease t)
    ∨ (∃ br level, r = .breakerSettlement br level ∨ r = .breakerStatusChange br level) ∨ ∃ level, r = .localKeyChange level

/-- Rows that bring changes take one state of the blocks to another. -/
structure BroughtBy (e : Env) (b b' : Blocks) (rows : List Instr) : Prop where
  bring : ∀ r ∈ rows, BringsChange r
  run : ∀ k q, Host.Core.run Sys2Proof.core (rows.length + k) (⟨⟨e, b⟩, rows ++ q⟩ : State) =
    Host.Core.run Sys2Proof.core k (⟨⟨e, b'⟩, q⟩ : State)

/-- Some rows that bring changes do. -/
def Brought (e : Env) (b b' : Blocks) : Prop := ∃ rows, BroughtBy e b b' rows

theorem Brought.refl (e : Env) (b : Blocks) : Brought e b b := ⟨[], fun _ h => absurd h List.not_mem_nil, fun k q => by simp⟩

theorem Brought.trans {e : Env} {a b c : Blocks} (h : Brought e a b) (k : Brought e b c) : Brought e a c := by
  obtain ⟨rows, first⟩ := h
  obtain ⟨rows', rest⟩ := k
  refine ⟨rows ++ rows', fun r hr => (List.mem_append.1 hr).elim (first.bring r) (rest.bring r), fun k q => ?_⟩
  rw [List.length_append, List.append_assoc, Nat.add_assoc, first.run, rest.run]

theorem Brought.foldl {e : Env} {α : Type} {f : Blocks → α → Blocks} (hf : ∀ b x, Brought e b (f b x)) (l : List α) (b : Blocks) :
    Brought e b (l.foldl f b) := foldl_related (Brought.refl e) Brought.trans hf l b

theorem run_row {e : Env} {b b' : Blocks} {r : Instr} (h : ∀ q, exec r ⟨⟨e, b⟩, q⟩ = .next ⟨⟨e, b'⟩, q⟩) (k : Nat) (q : List Instr) :
    Host.Core.run Sys2Proof.core (k + 1) (⟨⟨e, b⟩, r :: q⟩ : State) = Host.Core.run Sys2Proof.core k (⟨⟨e, b'⟩, q⟩ : State) := by
  have stepped : Sys2Proof.core.step (⟨⟨e, b⟩, r :: q⟩ : State) = .next (⟨⟨e, b'⟩, q⟩ : State) := h q
  simp only [Host.Core.run, stepped]

theorem Brought.row {e : Env} {b b' : Blocks} {r : Instr} (hr : BringsChange r)
    (h : ∀ q, exec r ⟨⟨e, b⟩, q⟩ = .next ⟨⟨e, b'⟩, q⟩) : Brought e b b' := by
  refine ⟨[r], fun x hx => List.mem_singleton.1 hx ▸ hr, fun k q => ?_⟩
  rw [List.length_singleton, Nat.add_comm]
  exact run_row h k q

theorem deliverOccupancy_brought (e : Env) (b : Blocks) (t : Track) : Brought e b (deliverOccupancy e b t) :=
  .trans (.row (.inl ⟨t, .inl rfl⟩) fun q => exec_occupancyRise t e b q) (.row (.inl ⟨t, .inr (.inl rfl)⟩) fun q => exec_departure t e _ q)

theorem deliverPlunger_brought (e : Env) (b : Blocks) (t : Track) : Brought e b (deliverPlunger e b t) :=
  .trans (.row (.inl ⟨t, .inr (.inr (.inl rfl))⟩) fun q => exec_plungerPress t e b q)
    (.row (.inl ⟨t, .inr (.inr (.inr rfl))⟩) fun q => exec_plungerRelease t e _ q)

theorem deliverStatus_brought (e : Env) (b : Blocks) (br : Breaker) : Brought e b (deliverStatus e b br) := by
  unfold deliverStatus
  split
  case h_1 a _ =>
    split
    · exact .row (.inr (.inl ⟨br, a.level, .inl rfl⟩)) fun q => exec_breakerSettlement br a.level e b q
    · exact .row (.inr (.inl ⟨br, a.level, .inr rfl⟩)) fun q => exec_breakerStatusChange br a.level e b q
  case h_2 => exact .refl e b

theorem deliverKey_brought (e : Env) (b : Blocks) : Brought e b (deliverKey e b) := by
  unfold deliverKey
  split
  case h_1 level _ => exact .row (.inr (.inr ⟨level, rfl⟩)) fun q => exec_localKeyChange level e b q
  case h_2 => exact .refl e b

theorem deliverAll_brought (e : Env) (b : Blocks) : Brought e b (deliverAll e b) :=
  (((Brought.foldl (deliverOccupancy_brought e) _ _).trans (Brought.foldl (deliverPlunger_brought e) _ _)).trans
    (Brought.foldl (deliverStatus_brought e) _ _)).trans (deliverKey_brought ..)

/-! ### The plungers' changes are all brought (R19) -/

/-- No plunger change waits that did not wait before. -/
structure PlungersBrought (b b' : Blocks) : Prop where
  plunger : ∀ t, b.field.waiting.plunger.get t = none → b'.field.waiting.plunger.get t = none

theorem PlungersBrought.refl (b : Blocks) : PlungersBrought b b := ⟨fun _ h => h⟩

theorem PlungersBrought.trans {a b c : Blocks} (h : PlungersBrought a b) (k : PlungersBrought b c) : PlungersBrought a c :=
  ⟨fun t ht => k.plunger t (h.plunger t ht)⟩

theorem InputsKept.plungersBrought {a b b' : Blocks} (h : InputsKept b b') (same : b.field.waiting.plunger = a.field.waiting.plunger) :
    PlungersBrought a b' := ⟨fun t ht => by rw [h.waiting, same]; exact ht⟩

theorem sentPlunger_none (b : Blocks) (t : Track) : (sentPlunger b t).field.waiting.plunger.get t = none := by simp [sentPlunger]

theorem sentPlunger_brought (b : Blocks) (t : Track) : PlungersBrought b (sentPlunger b t) := ⟨fun u hu => by simp [sentPlunger, hu]⟩

/-- The plunger change of a track is brought whichever way it goes. -/
theorem deliverPlunger_cases (e : Env) (b : Blocks) (t : Track) : PlungersBrought b (deliverPlunger e b t)
    ∧ (deliverPlunger e b t).field.waiting.plunger.get t = none := by
  have pressed := (plungerPress_keeps e (sentPlunger b t) t).inputs.plungersBrought rfl
  have released := (plungerRelease_keeps e (sentPlunger b t) t).inputs.plungersBrought rfl
  cases hw : b.field.waiting.plunger.get t with
  | none =>
    rw [deliverPlunger, plungerRise_of_none hw, plungerFall_of_none hw]
    exact ⟨.refl b, hw⟩
  | some a =>
    obtain ⟨level, stamp⟩ := a
    cases level with
    | true =>
      have none_ := pressed.plunger t (sentPlunger_none b t)
      rw [deliverPlunger, plungerRise_of_waiting hw, plungerFall_of_none none_]
      exact ⟨.trans (sentPlunger_brought b t) pressed, none_⟩
    | false =>
      have stays : plungerRise e b t = b := by simp [plungerRise, hw]
      rw [deliverPlunger, stays, plungerFall_of_waiting hw]
      exact ⟨.trans (sentPlunger_brought b t) released, released.plunger t (sentPlunger_none b t)⟩

theorem deliverStatus_plungers (e : Env) (b : Blocks) (br : Breaker) : PlungersBrought b (deliverStatus e b br) := by
  unfold deliverStatus breakerSettles breakerMoves
  split
  · split
    · split
      · split
        · exact (settleBreaker_keeps ..).inputs.plungersBrought rfl
        · exact .refl b
      · exact .refl b
    · split
      · split
        · exact (breakerChange_keeps ..).inputs.plungersBrought rfl
        · exact .refl b
      · exact .refl b
  · exact .refl b

theorem deliverKey_plungers (e : Env) (b : Blocks) : PlungersBrought b (deliverKey e b) := by
  have moves (level : Bool) : PlungersBrought b (keyMoves e b level) := by
    unfold keyMoves
    split
    · exact (keyLevel_keeps e ..).inputs.plungersBrought rfl
    · exact .refl b
  unfold deliverKey
  split
  · exact moves _
  · exact .refl b

theorem deliverAll_plunger (e : Env) (b : Blocks) (t : Track) : (deliverAll e b).field.waiting.plunger.get t = none := by
  have rest (b : Blocks) : PlungersBrought b (deliverKey e (allBreakers.foldl (deliverStatus e) b)) :=
    .trans (foldl_related PlungersBrought.refl PlungersBrought.trans (deliverStatus_plungers e) allBreakers b) (deliverKey_plungers ..)
  refine (rest _).plunger t ?_
  generalize allTracks.foldl (deliverOccupancy e) b = c
  have up := deliverPlunger_cases e c .up
  have down := deliverPlunger_cases e (deliverPlunger e c .up) .down
  cases t with
  | up => exact down.1.plunger .up up.2
  | down => exact down.2

/-! ### One sample of each input (R15 to R17, R20, R21) -/

/-- In a fold whose every step is about one element, an element's own step says what becomes of what belongs to it. -/
theorem foldl_own {α β : Type} {f : Blocks → α → Blocks} {value : Blocks → β} {g : β → β} {y : α}
    (other : ∀ b x, x ≠ y → value (f b x) = value b) (own : ∀ b, value (f b y) = g (value b)) {l : List α} (hl : l.Nodup) (hy : y ∈ l)
    (b : Blocks) : value (l.foldl f b) = g (value b) := by
  have others (l : List α) (hn : y ∉ l) (b : Blocks) : value (l.foldl f b) = value b := by
    induction l generalizing b with
    | nil => rfl
    | cons x l ih =>
      rw [List.foldl_cons, ih (fun h => hn (List.mem_cons_of_mem x h)), other b x fun h => hn (h ▸ List.mem_cons_self)]
  induction l generalizing b with
  | nil => cases hy
  | cons x l ih =>
    obtain ⟨fresh, rest⟩ := List.nodup_cons.1 hl
    rw [List.foldl_cons]
    by_cases h : x = y
    · subst h
      rw [others l fresh, own]
    · rw [ih rest ((List.mem_cons.1 hy).resolve_left fun same => h same.symm), other b x h]

/-- What is held of an input: its filter record, and its accepted change while it waits. -/
def occupancyInput (t : Track) (b : Blocks) : FilterRecord × Option Accepted :=
  (b.field.filters.occupancy.get t, b.field.waiting.occupancy.get t)
def plungerInput (t : Track) (b : Blocks) : FilterRecord × Option Accepted :=
  (b.field.filters.plunger.get t, b.field.waiting.plunger.get t)
def statusInput (br : Breaker) (b : Blocks) : Power × FilterRecord × Option Accepted :=
  (b.power, b.field.filters.status.get br, b.field.waiting.status.get br)
def keyInput (b : Blocks) : FilterRecord × Option Bool := (b.field.filters.key, b.field.waiting.key)

/-- What one sample makes of an occupancy or plunger input. -/
def sampledEdge (e : Env) (f : Nat) (level : Bool) (x : FilterRecord × Option Accepted) : FilterRecord × Option Accepted :=
  ((x.1.sample f level).1, e.stamped (x.1.delivers (x.1.sample f level).2))

/-- What one sample makes of a status input. -/
def sampledStatus (e : Env) (br : Breaker) (level : Bool) (x : Power × FilterRecord × Option Accepted) :
    Power × FilterRecord × Option Accepted :=
  match x.1.breakers.get br with
  | some _ => (x.1, (x.2.1.sample 5 level).1, e.stamped (x.2.1.sample 5 level).2)
  | none => x

/-- Blocks in which some filter records and waiting changes have been written, and nothing else. -/
def InputsWritten (b b' : Blocks) : Prop := ∃ f w, b' = b.setField { b.field with filters := f, waiting := w }

theorem InputsWritten.refl (b : Blocks) : InputsWritten b b := ⟨b.field.filters, b.field.waiting, rfl⟩

theorem InputsWritten.trans {a b c : Blocks} (h : InputsWritten a b) (k : InputsWritten b c) : InputsWritten a c := by
  obtain ⟨f, w, rfl⟩ := h
  obtain ⟨f', w', rfl⟩ := k
  exact ⟨f', w', rfl⟩

section
variable (e : Env) (l : InputLevels) (b : Blocks)

theorem sampleOccupancy_written (t : Track) : InputsWritten b (sampleOccupancy e l b t) := by
  unfold sampleOccupancy
  split
  · exact ⟨_, _, rfl⟩
  · exact .refl b

theorem sampleStatus_written (br : Breaker) : InputsWritten b (sampleStatus e l b br) := by
  unfold sampleStatus
  split
  · exact ⟨_, _, rfl⟩
  · exact .refl b

theorem sampleOccupancy_own (t : Track) : occupancyInput t (sampleOccupancy e l b t) =
    if e.configured then sampledEdge e e.occupancyFilter (InputLevels.occupancy l t) (occupancyInput t b) else occupancyInput t b := by
  unfold sampleOccupancy
  split
  · simp [occupancyInput, setOccupancy, sampledEdge]
  · rfl

theorem sampleOccupancy_other {t u : Track} (h : u ≠ t) : occupancyInput t (sampleOccupancy e l b u) = occupancyInput t b := by
  unfold sampleOccupancy
  split
  · simp [occupancyInput, setOccupancy, h.symm]
  · rfl

theorem samplePlunger_own (t : Track) : plungerInput t (samplePlunger e l b t) =
    sampledEdge e 3 (InputLevels.plunger l t) (plungerInput t b) := by
  simp [plungerInput, samplePlunger, setPlunger, sampledEdge, Config.plungerFilter]

theorem samplePlunger_other {t u : Track} (h : u ≠ t) : plungerInput t (samplePlunger e l b u) = plungerInput t b := by
  simp [plungerInput, samplePlunger, setPlunger, h.symm]

theorem sampleStatus_own (br : Breaker) : statusInput br (sampleStatus e l b br) =
    sampledStatus e br (InputLevels.status l br) (statusInput br b) := by
  unfold sampleStatus sampledStatus
  cases h : b.power.breakers.get br <;> simp [statusInput, setStatusFilter, h, Config.statusFilter]

theorem sampleStatus_other {br y : Breaker} (h : y ≠ br) : statusInput br (sampleStatus e l b y) = statusInput br b := by
  unfold sampleStatus
  split
  · simp [statusInput, setStatusFilter, h.symm]
  · rfl

/-- The filters of one kind sampled leave those of the others. -/
theorem sampleOccupancy_kinds (t : Track) : (∀ u, plungerInput u (sampleOccupancy e l b t) = plungerInput u b)
    ∧ (∀ br, statusInput br (sampleOccupancy e l b t) = statusInput br b) ∧ keyInput (sampleOccupancy e l b t) = keyInput b := by
  unfold sampleOccupancy
  split <;> exact ⟨fun _ => rfl, fun _ => rfl, rfl⟩

theorem samplePlunger_kinds (t : Track) : (∀ u, occupancyInput u (samplePlunger e l b t) = occupancyInput u b)
    ∧ (∀ br, statusInput br (samplePlunger e l b t) = statusInput br b) ∧ keyInput (samplePlunger e l b t) = keyInput b :=
  ⟨fun _ => rfl, fun _ => rfl, rfl⟩

theorem sampleStatus_kinds (br : Breaker) : (∀ u, occupancyInput u (sampleStatus e l b br) = occupancyInput u b)
    ∧ (∀ u, plungerInput u (sampleStatus e l b br) = plungerInput u b) ∧ keyInput (sampleStatus e l b br) = keyInput b := by
  unfold sampleStatus
  split <;> exact ⟨fun _ => rfl, fun _ => rfl, rfl⟩

end

/-- What every step of a fold leaves is left by the fold. -/
theorem foldl_kept {α β : Type} {f : Blocks → α → Blocks} {value : Blocks → β} (h : ∀ b x, value (f b x) = value b) (l : List α)
    (b : Blocks) : value (l.foldl f b) = value b :=
  foldl_related (R := fun b b' : Blocks => value b' = value b) (fun _ => rfl) (fun h k => k.trans h) h l b

/-- All inputs sampled together. -/
def sampleAll (e : Env) (l : InputLevels) (b : Blocks) : Blocks :=
  sampleKey l (allBreakers.foldl (sampleStatus e l) (allTracks.foldl (samplePlunger e l) (allTracks.foldl (sampleOccupancy e l) b)))

theorem samplingPoint_eq (e : Env) (b : Blocks) (l : InputLevels) : samplingPoint e b l = sampleAll e l (deliverAll e b) := rfl

section
variable (e : Env) (l : InputLevels) (b : Blocks)

theorem sampleAll_written : InputsWritten b (sampleAll e l b) := by
  have tracks := foldl_related InputsWritten.refl InputsWritten.trans (sampleOccupancy_written e l) allTracks b
  have plungers := foldl_related (f := samplePlunger e l) InputsWritten.refl InputsWritten.trans (fun _ _ => ⟨_, _, rfl⟩) allTracks
    (allTracks.foldl (sampleOccupancy e l) b)
  have statuses := foldl_related InputsWritten.refl InputsWritten.trans (sampleStatus_written e l) allBreakers
    (allTracks.foldl (samplePlunger e l) (allTracks.foldl (sampleOccupancy e l) b))
  exact ((tracks.trans plungers).trans statuses).trans ⟨_, _, rfl⟩

theorem sampleAll_occupancy (t : Track) : occupancyInput t (sampleAll e l b) =
    if e.configured then sampledEdge e e.occupancyFilter (InputLevels.occupancy l t) (occupancyInput t b) else occupancyInput t b := by
  have keyed (b : Blocks) : occupancyInput t (sampleKey l b) = occupancyInput t b := rfl
  rw [sampleAll, keyed, foldl_kept fun b br => (sampleStatus_kinds e l b br).1 t, foldl_kept fun b u => (samplePlunger_kinds e l b u).1 t]
  exact foldl_own (g := fun x => if e.configured then sampledEdge e e.occupancyFilter (InputLevels.occupancy l t) x else x)
    (fun b u hu => sampleOccupancy_other e l b hu) (fun b => sampleOccupancy_own e l b t) (by decide) (by cases t <;> decide) b

theorem sampleAll_plunger (t : Track) : plungerInput t (sampleAll e l b) =
    sampledEdge e 3 (InputLevels.plunger l t) (plungerInput t b) := by
  have keyed (b : Blocks) : plungerInput t (sampleKey l b) = plungerInput t b := rfl
  rw [sampleAll, keyed, foldl_kept fun b br => (sampleStatus_kinds e l b br).2.1 t,
    foldl_own (g := sampledEdge e 3 (InputLevels.plunger l t)) (fun b u hu => samplePlunger_other e l b hu)
      (fun b => samplePlunger_own e l b t) (by decide) (by cases t <;> decide),
    foldl_kept fun b u => (sampleOccupancy_kinds e l b u).1 t]

theorem sampleAll_status (br : Breaker) : statusInput br (sampleAll e l b) =
    sampledStatus e br (InputLevels.status l br) (statusInput br b) := by
  have keyed (b : Blocks) : statusInput br (sampleKey l b) = statusInput br b := rfl
  rw [sampleAll, keyed, foldl_own (g := sampledStatus e br (InputLevels.status l br)) (fun b y hy => sampleStatus_other e l b hy)
      (fun b => sampleStatus_own e l b br) (by decide) (mem_allBreakers br), foldl_kept fun b u => (samplePlunger_kinds e l b u).2.1 br,
    foldl_kept fun b u => (sampleOccupancy_kinds e l b u).2.1 br]

theorem sampleAll_key : keyInput (sampleAll e l b) = (keyInput b).1.sample 10 l.key := by
  have keyed (b : Blocks) : keyInput (sampleKey l b) = (keyInput b).1.sample 10 l.key := rfl
  rw [sampleAll, keyed, foldl_kept fun b br => (sampleStatus_kinds e l b br).2.2, foldl_kept fun b u => (samplePlunger_kinds e l b u).2.2,
    foldl_kept fun b u => (sampleOccupancy_kinds e l b u).2.2]

end

/-- A settlement INACTIVE of an occupancy or plunger input delivers nothing; what else is accepted waits with its stamp (R17, R18). -/
theorem stamped_delivers (e : Env) (r : FilterRecord) (o : Option Bool) : e.stamped (r.delivers o) =
    if o = some false ∧ r.level = none then none else o.map fun level => { level := level, stamp := e.time.service } := by
  cases o with
  | none => simp [Env.stamped, FilterRecord.delivers]
  | some level => cases level <;> cases hl : r.level <;> simp [Env.stamped, FilterRecord.delivers, hl, Env.now]

/-- Settles O7: the rows bring what waits, and each input takes its own sample. -/
theorem samplingPointUpdatesFilters : Obligations.SamplingPointUpdatesFilters := by
  intro e b q l
  refine ⟨deliverAll_of_none_waiting e b, ?rows, fun hc t => ?brought, ?sampled⟩
  case rows =>
    obtain ⟨rows, by_⟩ := deliverAll_brought e b
    exact ⟨rows, by_.bring, by_.run 0 q⟩
  case brought =>
    exact ⟨(deliverAll_delivering e b).2 (by simp [Env.configured, hc]) t, deliverAll_plunger e b t⟩
  case sampled =>
    rintro a rfl
    obtain ⟨f, w, eq⟩ := sampleAll_written e l (deliverAll e b)
    have occupancy := sampleAll_occupancy e l (deliverAll e b)
    have plunger := sampleAll_plunger e l (deliverAll e b)
    have status := sampleAll_status e l (deliverAll e b)
    have key := sampleAll_key e l (deliverAll e b)
    rw [eq] at occupancy plunger status key
    refine ⟨f, w, by rw [exec_samplingPoint, samplingPoint_eq, eq], fun t hc => ?_, ?_, ?_, fun br x present hx => ?_, fun br absent => ?_, key⟩
    · have := occupancy t
      rw [if_neg (by simp [Env.configured, hc])] at this
      exact Prod.mk.inj this
    · rintro t _ _ hc rfl rfl
      have := occupancy t
      rw [if_pos (by simp [Env.configured, hc])] at this
      exact ⟨(Prod.mk.inj this).1, (Prod.mk.inj this).2.trans (stamped_delivers ..)⟩
    · rintro t _ _ rfl rfl
      obtain ⟨record, waits⟩ := Prod.mk.inj (plunger t)
      exact ⟨record, waits.trans (stamped_delivers ..)⟩
    · obtain ⟨r, hr⟩ := Option.isSome_iff_exists.1 present
      subst hx
      have := status br
      simp only [statusInput, sampledStatus, hr] at this
      exact Prod.mk.inj (Prod.mk.inj this).2
    · have := status br
      simp only [statusInput, sampledStatus, absent] at this
      exact Prod.mk.inj (Prod.mk.inj this).2

end Sys2Proof.Machine

/-! SUPPORT. The outbound queue and the transmitter: what admission, a drop and a renewal do, each said once (R35 to R41). -/

namespace Sys2Proof.Machine

/-! ### The outbound queue (R39 to R41) -/

theorem Linebus.mute_iff (e : Env) (l : Linebus) : l.mute e = true ↔ e.nodeState = .configuring ∨ l.silent = true := by
  simp [Linebus.mute]

theorem Linebus.mute_eq_false {e : Env} {l : Linebus} (hc : e.nodeState ≠ .configuring) (hs : l.silent = false) : l.mute e = false := by
  simp [Linebus.mute, hc, hs]

/-- The blocks with one more frame dropped (R40). -/
def Blocks.countDrop (b : Blocks) : Blocks := b.setBus { b.bus with dropped := countUp 65535 b.bus.dropped }

theorem dropFrame_counted (e : Env) (b : Blocks) (cause : TxDropCause) (f : Frame) : dropFrame e b cause f =
    if f.cls = .status then b.countDrop else queueReport e b.countDrop (.txDrop cause f.cls f.payload) := by
  unfold dropFrame
  cases h : f.cls <;> rfl

@[simp] theorem dropFrame_bus (e : Env) (b : Blocks) (cause : TxDropCause) (f : Frame) :
    (dropFrame e b cause f).bus = b.countDrop.bus := by
  rw [dropFrame_counted]; split <;> rfl

theorem Linebus.insert_eq (l : Linebus) (f : Frame) : l.insert f =
    { l with
      waiting := l.waiting.takeWhile (fun g => g.cls.rank ≤ f.cls.rank) ++ f :: l.waiting.dropWhile (fun g => g.cls.rank ≤ f.cls.rank)
      tx := if l.tx = .idle then .waiting else l.tx } := by
  rw [Linebus.insert, insertFrame_eq, Transmitter.wake_eq]

theorem admitFrame_room {b : Blocks} (h : b.bus.occupied < 16) (e : Env) (f : Frame) : admitFrame e b f = b.setBus (b.bus.insert f) :=
  if_pos h

/-- The newest frame of the highest rank gives up its place (R39, R40). -/
theorem admitFrame_evicts {b : Blocks} (full : 16 ≤ b.bus.occupied) {rest : List Frame} {g f : Frame} (hw : b.bus.waiting = rest ++ [g])
    (hr : f.cls.rank < g.cls.rank) (e : Env) : admitFrame e b f =
      (dropFrame e (b.setBus { b.bus with waiting := rest }) .evicted g).setBus
        ({ b.bus with waiting := rest, dropped := countUp 65535 b.bus.dropped : Linebus }.insert f) := by
  have hfull : ¬ b.bus.occupied < Config.outboundMax := Nat.not_lt.2 full
  simp only [admitFrame, if_neg hfull, hw, List.getLast?_concat, if_pos hr, List.dropLast_concat, dropFrame_bus]
  rfl

theorem admitFrame_drops {b : Blocks} (full : 16 ≤ b.bus.occupied) {f : Frame}
    (hr : ∀ g, b.bus.waiting.getLast? = some g → g.cls.rank ≤ f.cls.rank) (e : Env) : admitFrame e b f = dropFrame e b .full f := by
  have hfull : ¬ b.bus.occupied < Config.outboundMax := Nat.not_lt.2 full
  unfold admitFrame
  rw [if_neg hfull]
  cases hg : b.bus.waiting.getLast? with
  | none => rfl
  | some g => exact if_neg (Nat.not_lt.2 (hr g hg))

theorem renewStatus_backoff {l : Linebus} {h : Hand} (ht : l.tx = .backoff h) (hs : h.frame.cls = .status) (c : StatusContents) :
    renewStatus l c = { l with tx := .backoff { h with frame := .status c } } := by
  simp [renewStatus, ht, Frame.isStatus, hs]

theorem renewStatus_waiting {l : Linebus} (ht : ∀ h, l.tx = .backoff h → h.frame.cls ≠ .status) (c : StatusContents) :
    renewStatus l c = { l with waiting := l.waiting.map fun g => if g.cls = .status then .status c else g } := by
  cases hx : l.tx with
  | backoff h => simp [renewStatus, hx, Frame.isStatus, ht h hx]
  | off => simp [renewStatus, hx, Frame.isStatus]
  | idle => simp [renewStatus, hx, Frame.isStatus]
  | waiting => simp [renewStatus, hx, Frame.isStatus]
  | sending h => simp [renewStatus, hx, Frame.isStatus]

theorem renewStatus_absent {l : Linebus} (hw : ∀ g ∈ l.waiting, g.cls ≠ .status) (ht : ∀ h, l.tx = .backoff h → h.frame.cls ≠ .status)
    (c : StatusContents) : renewStatus l c = l := by
  have same : (l.waiting.map fun g => if g.cls = .status then Frame.status c else g) = l.waiting :=
    (List.map_congr_left fun g hg => if_neg (hw g hg)).trans (List.map_id _)
  rw [renewStatus_waiting ht, same]

theorem queueFrame_mute {e : Env} {b : Blocks} (h : b.bus.mute e = true) (f : Frame) : queueFrame e b f = b := if_pos h

theorem queueFrame_live {e : Env} {b : Blocks} (h : b.bus.mute e = false) (f : Frame) : queueFrame e b f =
    if f.cls = .power then (admitFrame e b f).setBus (renewStatus (admitFrame e b f).bus (snapshot e (admitFrame e b f)))
    else admitFrame e b f := by
  simp [queueFrame, h]

/-- Settles O12: admission by the room in the queue and the newest frame that waits, and a renewal by where the STATUS frame stands. -/
theorem outboundQueueAdmission : Obligations.OutboundQueueAdmission := by
  intro e b f
  refine ⟨fun h => queueFrame_mute ((b.bus.mute_iff e).2 h) f, fun hc hs => queueFrame_live (Linebus.mute_eq_false hc hs) f,
    fun room => ?_, fun rest g d full hw hr hd => ?_, fun d full hr hd => ?_, fun l c w hw => ⟨fun h ht hs => ?_, fun ht => ?_, ?_⟩⟩
  · rw [admitFrame_room room, Linebus.insert_eq]
  · subst hd
    rw [admitFrame_evicts full hw hr, dropFrame_counted, Linebus.insert_eq]
    rfl
  · subst hd
    rw [admitFrame_drops full hr, dropFrame_counted]
    rfl
  · exact renewStatus_backoff ht hs c
  · rw [renewStatus_waiting ht, hw]
  · exact fun hg ht => renewStatus_absent hg ht c

end Sys2Proof.Machine

/-! SUPPORT. The queues of the two links as every operation that queues reports and frames keeps them (R35, R39, R41, R214, R215). -/

namespace Sys2Proof.Machine

/-! ### The station port (R214, R215) -/

theorem Port.Bounded.pushReport {p : Port} (h : p.Bounded) (r : Report) : (p.pushReport r).Bounded := by
  cases hx : p.tx with
  | none =>
    rw [Port.pushReport_idle p r hx]
    exact ⟨h.answers, h.reports, Nat.zero_le _, fun hn => nomatch hn⟩
  | some x =>
    have busy : p.tx.isSome := by simp [hx]
    rw [Port.pushReport_busy p r busy]
    split
    case isTrue room => exact ⟨h.answers, by simpa using room, h.discard, fun hn => by simp [hx] at hn⟩
    case isFalse full =>
      refine ⟨h.answers, ?_, countUp_le _ _ h.discard, fun hn => by simp [hx] at hn⟩
      have kept : p.reports.length ≤ Config.reportMax := h.reports
      simp only [List.length_append, List.length_tail, List.length_singleton]
      simp only [Config.reportMax] at *
      omega

theorem Port.pushReport_answers (p : Port) (r : Report) : (p.pushReport r).answers = p.answers := by
  unfold Port.pushReport
  split
  · rfl
  · split
    · rfl
    · rfl

theorem Port.Bounded.pushAnswer {p : Port} (h : p.Bounded) (room : p.answers.length < Config.answerMax) (f : AnswerFrame) :
    (p.pushAnswer f).Bounded := by
  cases hx : p.tx with
  | none =>
    rw [Port.pushAnswer_idle p f hx]
    exact ⟨h.answers, h.reports, h.discard, fun hn => nomatch hn⟩
  | some x =>
    rw [Port.pushAnswer_busy p f (by simp [hx])]
    exact ⟨by simpa using room, h.reports, h.discard, fun hn => by simp [hx] at hn⟩

/-- Only the framer and the counters are other than before. -/
theorem Port.Bounded.of_eq {p p' : Port} (h : p.Bounded) (tx : p'.tx = p.tx := by rfl) (answers : p'.answers = p.answers := by rfl)
    (reports : p'.reports = p.reports := by rfl) (discard : p'.discard = p.discard := by rfl) : p'.Bounded :=
  ⟨answers ▸ h.answers, reports ▸ h.reports, discard ▸ h.discard, by rw [tx, answers, reports]; exact h.idle⟩

/-! ### The outbound queue (R35, R39, R41) -/

theorem insertFrame_perm (f : Frame) (l : List Frame) : (insertFrame f l).Perm (f :: l) := by
  induction l with
  | nil => exact .refl _
  | cons g l ih =>
    unfold insertFrame
    split
    · exact .refl _
    · exact (ih.cons g).trans (.swap f g l)

/-- The queue stays in order of rank (R39). -/
theorem insertFrame_ranked (f : Frame) {l : List Frame} (h : l.Pairwise fun g k => g.cls.rank ≤ k.cls.rank) :
    (insertFrame f l).Pairwise fun g k => g.cls.rank ≤ k.cls.rank := by
  induction h with
  | nil => exact List.pairwise_singleton _ _
  | @cons g l first rest ih =>
    unfold insertFrame
    split
    case isTrue before =>
      refine .cons (fun k hk => ?_) (.cons first rest)
      rcases List.mem_cons.1 hk with rfl | hk
      · exact before.le
      · exact before.le.trans (first k hk)
    case isFalse behind =>
      refine .cons (fun k hk => ?_) ih
      rcases (mem_insertFrame f k l).1 hk with rfl | hk
      · exact Nat.not_lt.1 behind
      · exact first k hk

theorem Transmitter.wake_hand (x : Transmitter) : x.wake.hand? = x.hand? := by cases x <;> rfl

theorem Transmitter.wake_eq_off (x : Transmitter) : x.wake = .off ↔ x = .off := by cases x <;> simp [Transmitter.wake]

/-- A queue with a frame in it agrees with a transmitter that has been woken. -/
theorem Transmitter.agrees_wake {x : Transmitter} {w w' : List Frame} (h : x.agrees w) (on : x ≠ .off) (hw : w' ≠ []) :
    x.wake.agrees w' := by
  cases x with
  | off => exact absurd rfl on
  | idle => exact hw
  | waiting => exact hw
  | sending _ => exact h
  | backoff _ => exact h

/-- The STATUS frames in a list. -/
def statuses (l : List Frame) : Nat := (l.filter Frame.isStatus).length

@[simp] theorem statuses_append (l m : List Frame) : statuses (l ++ m) = statuses l + statuses m := by simp [statuses]

theorem statuses_perm {l m : List Frame} (h : l.Perm m) : statuses l = statuses m := (h.filter _).length_eq

theorem statuses_sublist {l m : List Frame} (h : l.Sublist m) : statuses l ≤ statuses m := (h.filter _).length_le

theorem statuses_cons (f : Frame) (l : List Frame) : statuses (f :: l) = (if f.isStatus then 1 else 0) + statuses l := by
  unfold statuses
  cases h : f.isStatus <;> simp [h, Nat.add_comm]

/-- The classes of the frames decide. -/
theorem statuses_congr {l m : List Frame} (h : l.map Frame.cls = m.map Frame.cls) : statuses l = statuses m := by
  have read (l : List Frame) : statuses l = (l.map Frame.cls).countP fun c => c = .status := by
    rw [List.countP_map, List.countP_eq_length_filter]
    rfl
  rw [read, read, h]

theorem Linebus.statuses_frames (l : Linebus) :
    statuses l.frames = statuses l.waiting + statuses (l.tx.hand?.toList.map (·.frame)) := statuses_append ..

theorem Linebus.statuses_of_not_held {l : Linebus} (h : l.holdsStatus = false) : statuses l.frames = 0 := by
  obtain ⟨hw, hh⟩ := Bool.or_eq_false_iff.1 h
  have none_waits : statuses l.waiting = 0 := by
    simpa [statuses, List.filter_eq_nil_iff] using hw
  have none_in_hand : statuses (l.tx.hand?.toList.map (·.frame)) = 0 := by
    cases hx : l.tx.hand? with
    | none => rfl
    | some x => simpa [hx, statuses] using hh
  rw [l.statuses_frames, none_waits, none_in_hand]

/-- Nothing that `Linebus.Proper` reads is other than before. -/
theorem Linebus.Proper.of_eq {e : Env} {l l' : Linebus} (h : l.Proper e) (tx : l'.tx = l.tx := by rfl)
    (waiting : l'.waiting = l.waiting := by rfl) (silent : l'.silent = l.silent := by rfl) : l'.Proper e where
  full := by unfold Linebus.occupied; rw [tx, waiting]; exact h.full
  ranked := waiting ▸ h.ranked
  off := by rw [tx, silent]; exact h.off
  agrees := by rw [tx, waiting]; exact h.agrees
  oneStatus := by unfold Linebus.frames; rw [tx, waiting]; exact h.oneStatus

theorem Linebus.Proper.off_iff_mute {e : Env} {l : Linebus} (h : l.Proper e) : l.tx = .off ↔ l.mute e = true :=
  h.off.trans (l.mute_iff e).symm

theorem Linebus.Proper.on {e : Env} {l : Linebus} (h : l.Proper e) (live : l.mute e = false) : l.tx ≠ .off := fun hx => by
  simp [h.off_iff_mute.1 hx] at live

/-- A frame takes its place in a queue that has lost frames at most and has room (R39); a STATUS frame where there is none (R41). -/
theorem Linebus.Proper.insert {e : Env} {l : Linebus} (h : l.Proper e) (live : l.mute e = false) {w : List Frame}
    (kept : w.Sublist l.waiting) (room : ({ l with waiting := w } : Linebus).occupied < Config.outboundMax) {f : Frame}
    (single : f.isStatus = true → l.holdsStatus = false) : (({ l with waiting := w } : Linebus).insert f).Proper e where
  full := by
    simp only [Linebus.occupied, Linebus.insert, insertFrame_length, Transmitter.wake_hand] at room ⊢
    omega
  ranked := insertFrame_ranked f (h.ranked.sublist kept)
  off := (l.tx.wake_eq_off).trans h.off
  agrees := Transmitter.agrees_wake h.agrees (h.on live) fun hn => by
    have := insertFrame_length f w
    change insertFrame f w = [] at hn
    simp [hn] at this
  oneStatus := by
    have one : statuses l.frames ≤ 1 := h.oneStatus
    have fewer := statuses_sublist kept
    change statuses (insertFrame f w ++ l.tx.wake.hand?.toList.map (·.frame)) ≤ 1
    rw [statuses_append, statuses_perm (insertFrame_perm f w), statuses_cons, l.tx.wake_hand]
    rw [l.statuses_frames] at one
    cases hf : f.isStatus with
    | false => simp only [Bool.false_eq_true, if_false]; omega
    | true =>
      have alone := Linebus.statuses_of_not_held (single hf)
      rw [l.statuses_frames] at alone
      simp only [if_true]; omega

/-- Frames that are replaced by frames of their class, in their places (R41). -/
theorem Linebus.Proper.of_classes {e : Env} {l l' : Linebus} (h : l.Proper e) (silent : l'.silent = l.silent)
    (waiting : l'.waiting.map Frame.cls = l.waiting.map Frame.cls)
    (tx : l'.tx = l.tx ∨ ∃ x f, l.tx = .backoff x ∧ f.cls = x.frame.cls ∧ l'.tx = .backoff { x with frame := f }) : l'.Proper e := by
  have same_length : l'.waiting.length = l.waiting.length := by simpa using congrArg List.length waiting
  have same_statuses := statuses_congr waiting
  have empty : l'.waiting = [] ↔ l.waiting = [] := by rw [← List.length_eq_zero_iff, same_length, List.length_eq_zero_iff]
  have ranked : l'.waiting.Pairwise fun f g => f.cls.rank ≤ g.cls.rank := by
    have classes : (l.waiting.map Frame.cls).Pairwise fun c d => c.rank ≤ d.rank := List.pairwise_map.2 h.ranked
    rwa [← waiting, List.pairwise_map] at classes
  have one : statuses l.frames ≤ 1 := h.oneStatus
  have full := h.full
  have agrees := h.agrees
  rw [l.statuses_frames] at one
  unfold Linebus.occupied at full
  rcases tx with tx | ⟨x, f, hx, hf, tx⟩
  · refine ⟨by rw [Linebus.occupied, tx, same_length]; exact full, ranked, by rw [tx, silent]; exact h.off, ?_, ?_⟩
    · rw [tx]
      cases hx : l.tx with
      | off => rw [hx] at agrees; exact empty.2 agrees
      | idle => rw [hx] at agrees; exact empty.2 agrees
      | waiting => rw [hx] at agrees; exact mt empty.1 agrees
      | sending x => rw [hx] at agrees; exact agrees
      | backoff x => rw [hx] at agrees; exact agrees
    · change statuses l'.frames ≤ 1
      rw [l'.statuses_frames, tx, same_statuses]
      exact one
  · rw [hx] at one full agrees
    refine ⟨by rw [Linebus.occupied, tx, same_length]; exact full, ranked, ?_, by rw [tx]; exact agrees, ?_⟩
    · rw [tx, silent, ← h.off, hx]; simp
    · have in_hand : statuses [f] = statuses [x.frame] := statuses_congr (by simp [hf])
      change statuses l'.frames ≤ 1
      rw [l'.statuses_frames, tx, same_statuses]
      simpa [Transmitter.hand?, in_hand] using one

theorem Linebus.Proper.renewStatus {e : Env} {l : Linebus} (h : l.Proper e) (c : StatusContents) : (renewStatus l c).Proper e := by
  by_cases hb : ∃ x, l.tx = .backoff x ∧ x.frame.cls = .status
  · obtain ⟨x, hx, hs⟩ := hb
    rw [renewStatus_backoff hx hs]
    exact h.of_classes rfl rfl (.inr ⟨x, .status c, hx, hs.symm, rfl⟩)
  · rw [renewStatus_waiting fun x hx hs => hb ⟨x, hx, hs⟩]
    refine h.of_classes rfl ?_ (.inl rfl)
    rw [List.map_map]
    refine List.map_congr_left fun f _ => ?_
    by_cases hf : f.cls = .status
    · rw [Function.comp_apply, if_pos hf, hf]; rfl
    · rw [Function.comp_apply, if_neg hf]

/-! ### Reports and frames that blocks queue -/

/-- What `Node.LinksProper` says of the blocks, and which answers wait: no block but the station port queues one (R214). -/
def Blocks.ProperLinks (e : Env) (a : List AnswerFrame) (b : Blocks) : Prop := b.port.Bounded ∧ b.port.answers = a ∧ b.bus.Proper e

section
variable {e x : Env} {a : List AnswerFrame} {b : Blocks}

theorem Blocks.ProperLinks.port (h : b.ProperLinks e a) : b.port.Bounded := h.1

theorem Blocks.ProperLinks.answers (h : b.ProperLinks e a) : b.port.answers = a := h.2.1

theorem Blocks.ProperLinks.bus (h : b.ProperLinks e a) : b.bus.Proper e := h.2.2

theorem Blocks.ProperLinks.setBus (h : b.ProperLinks e a) {l : Linebus} (hl : l.Proper e) : (b.setBus l).ProperLinks e a :=
  ⟨h.port, h.answers, hl⟩

theorem Blocks.ProperLinks.ite {x y : Blocks} {p : Prop} [Decidable p] (hx : x.ProperLinks e a) (hy : y.ProperLinks e a) :
    (if p then x else y).ProperLinks e a := by
  split
  · exact hx
  · exact hy

/-- The bus changes in what no bound speaks of. -/
theorem setBus_properLinks (h : b.ProperLinks e a) {l : Linebus} (tx : l.tx = b.bus.tx := by rfl)
    (waiting : l.waiting = b.bus.waiting := by rfl) (silent : l.silent = b.bus.silent := by rfl) : (b.setBus l).ProperLinks e a :=
  h.setBus (h.bus.of_eq tx waiting silent)

theorem queueReport_bounded {r : ReportBody} (h : b.port.Bounded) : (queueReport x b r).port.Bounded :=
  foldl_keeps (fun _ r hp => hp.pushReport r) _ _ h

theorem queueReport_answers {r : ReportBody} : (queueReport x b r).port.answers = b.port.answers :=
  foldl_keeps (P := fun p : Port => p.answers = b.port.answers) (fun p r hp => (p.pushReport_answers r).trans hp) _ _ rfl

theorem queueReport_properLinks {r : ReportBody} (h : b.ProperLinks e a) : (queueReport x b r).ProperLinks e a :=
  ⟨queueReport_bounded h.port, queueReport_answers.trans h.answers, h.bus⟩

/-- A drop touches the port by its report alone, whatever becomes of the bus. -/
theorem dropFrame_setBus_properLinks {cause : TxDropCause} {f : Frame} {w l : Linebus} (h : b.ProperLinks e a) (hl : l.Proper e) :
    ((dropFrame x (b.setBus w) cause f).setBus l).ProperLinks e a := by
  rw [dropFrame_counted]
  split
  · exact h.setBus hl
  · exact ⟨queueReport_bounded h.port, queueReport_answers.trans h.answers, hl⟩

theorem dropFrame_properLinks {cause : TxDropCause} {f : Frame} (h : b.ProperLinks e a) : (dropFrame x b cause f).ProperLinks e a := by
  rw [dropFrame_counted]
  exact .ite (setBus_properLinks h) (queueReport_properLinks (setBus_properLinks h))

theorem admitFrame_properLinks {f : Frame} (h : b.ProperLinks e a) (live : b.bus.mute e = false)
    (single : f.isStatus = true → b.bus.holdsStatus = false) : (admitFrame e b f).ProperLinks e a := by
  unfold admitFrame
  split
  case isTrue room => exact h.setBus (h.bus.insert live (.refl _) room single)
  case isFalse full =>
    split
    case h_1 g hg =>
      split
      · have room : ({ b.bus with waiting := b.bus.waiting.dropLast } : Linebus).occupied < Config.outboundMax := by
          have some_wait : 0 < b.bus.waiting.length := List.length_pos_of_mem (List.mem_of_getLast? hg)
          have bound := h.bus.full
          unfold Linebus.occupied at bound ⊢
          simp only [List.length_dropLast]
          omega
        refine dropFrame_setBus_properLinks h ?_
        rw [dropFrame_bus]
        exact (h.bus.insert live (List.dropLast_sublist _) room single).of_eq
      · exact dropFrame_properLinks h
    case h_2 => exact dropFrame_properLinks h

theorem renewStatus_properLinks {c : StatusContents} (h : b.ProperLinks e a) : (b.setBus (renewStatus b.bus c)).ProperLinks e a :=
  h.setBus (h.bus.renewStatus c)

theorem queueFrame_properLinks {f : Frame} (h : b.ProperLinks e a) (other : f.isStatus = false) : (queueFrame e b f).ProperLinks e a := by
  cases live : b.bus.mute e with
  | true => rw [queueFrame_mute live]; exact h
  | false =>
    have admitted : (admitFrame e b f).ProperLinks e a := admitFrame_properLinks h live fun hs => by simp [other] at hs
    rw [queueFrame_live live]
    exact .ite (renewStatus_properLinks admitted) admitted

theorem queueStatus_properLinks (h : b.ProperLinks e a) : (queueStatus e b).ProperLinks e a := by
  unfold queueStatus
  split
  · exact h
  case isFalse live =>
    split
    · exact renewStatus_properLinks h
    case isFalse none_held => exact admitFrame_properLinks h (by simpa using live) fun _ => by simpa using none_held

end

/-! ### Rules of the two links that blocks keep -/

/-- What holds of the station port and the linebus and stands while blocks queue reports, and frames of other classes than STATUS. -/
structure LinkRule (e : Env) where
  holds : Port → Linebus → Prop
  report : ∀ {x : Env} {b : Blocks} {r : ReportBody}, holds b.port b.bus → holds (queueReport x b r).port b.bus
  frame : ∀ {b : Blocks} {f : Frame}, holds b.port b.bus → f.isStatus = false → holds (queueFrame e b f).port (queueFrame e b f).bus

/-- The blocks meet a rule of the two links. -/
def Blocks.LinksOk (e : Env) (a : LinkRule e) (b : Blocks) : Prop := a.holds b.port b.bus

/-- The bounds of the two links are such a rule. -/
def LinkRule.proper (e : Env) (a : List AnswerFrame) : LinkRule e where
  holds p l := p.Bounded ∧ p.answers = a ∧ l.Proper e
  report h := queueReport_properLinks h
  frame h other := queueFrame_properLinks h other

theorem Node.LinksProper.blk {n : Node} (h : n.LinksProper) : n.blk.LinksOk n.env (.proper _ n.blk.port.answers) := ⟨h.port, rfl, h.bus⟩

section
variable {e x : Env} {a : LinkRule e} {b : Blocks}

theorem Blocks.LinksOk.ite {x y : Blocks} {p : Prop} [Decidable p] (hx : x.LinksOk e a) (hy : y.LinksOk e a) : (if p then x else y).LinksOk e a := by
  split
  · exact hx
  · exact hy

theorem Blocks.LinksOk.foldl {α : Type} {f : Blocks → α → Blocks} (h : b.LinksOk e a) (hf : ∀ b x, b.LinksOk e a → (f b x).LinksOk e a)
    (l : List α) : (l.foldl f b).LinksOk e a := foldl_keeps hf l b h

theorem queueReport_links {r : ReportBody} (h : b.LinksOk e a) : (queueReport x b r).LinksOk e a := a.report h

theorem queueFrame_links {f : Frame} (h : b.LinksOk e a) (other : f.isStatus = false) : (queueFrame e b f).LinksOk e a := a.frame h other

theorem queuePowerFrame_links {br : Breaker} {reason : Option RefusalReason} (h : b.LinksOk e a) : (queuePowerFrame e b br reason).LinksOk e a := by
  unfold queuePowerFrame
  split
  · split
    · exact queueFrame_links h rfl
    · exact h
  · exact h

theorem queueIncidentFrame_links {id : IncidentId} {action : IncidentAction} {reason : Option CloseReason} (h : b.LinksOk e a) :
    (queueIncidentFrame e b id action reason).LinksOk e a := by
  unfold queueIncidentFrame
  split
  · exact queueFrame_links h rfl
  · exact h

theorem reportIncident_links {event : IncidentEvent} {id : IncidentId} (h : b.LinksOk e a) : (reportIncident x b event id).LinksOk e a := by
  unfold reportIncident
  split
  · exact queueReport_links h
  · exact h

end

section
variable {e x : Env} {a : List AnswerFrame} {b : Blocks}

theorem Blocks.LinksOk.port (h : b.LinksOk e (.proper _ a)) : b.port.Bounded := h.1

theorem Blocks.LinksOk.answers (h : b.LinksOk e (.proper _ a)) : b.port.answers = a := h.2.1

theorem Blocks.LinksOk.bus (h : b.LinksOk e (.proper _ a)) : b.bus.Proper e := h.2.2

theorem Blocks.LinksOk.node (h : b.LinksOk e (.proper _ a)) : (Node.mk e b).LinksProper := ⟨h.port, h.bus⟩

theorem Blocks.LinksOk.setBus (h : b.LinksOk e (.proper _ a)) {l : Linebus} (hl : l.Proper e) : (b.setBus l).LinksOk e (.proper _ a) :=
  ⟨h.port, h.answers, hl⟩

/-- The bus changes in what no bound speaks of. -/
theorem setBus_links (h : b.LinksOk e (.proper _ a)) {l : Linebus} (tx : l.tx = b.bus.tx := by rfl)
    (waiting : l.waiting = b.bus.waiting := by rfl) (silent : l.silent = b.bus.silent := by rfl) : (b.setBus l).LinksOk e (.proper _ a) :=
  h.setBus (h.bus.of_eq tx waiting silent)

theorem dropFrame_links {cause : TxDropCause} {f : Frame} (h : b.LinksOk e (.proper _ a)) : (dropFrame x b cause f).LinksOk e (.proper _ a) :=
  dropFrame_properLinks h

theorem queueStatus_links (h : b.LinksOk e (.proper _ a)) : (queueStatus e b).LinksOk e (.proper _ a) := queueStatus_properLinks h

end

end Sys2Proof.Machine

/-! SUPPORT. The Announcement Controller and the Platform Regulators reach the two links by reports alone. -/

namespace Sys2Proof.Machine

section
variable {e y : Env} {a : LinkRule e} {b : Blocks}

/-! ### Announcements (chapter 10) -/

theorem setAnnounce_links {c : Announcer} (h : b.LinksOk e a) : (b.setAnnounce c).LinksOk e a := h

theorem releaseMessage_links {id : Nat} (h : b.LinksOk e a) : (releaseMessage b id).LinksOk e a := h

theorem dropChain_links {z : Zone} {c : Chain} (h : b.LinksOk e a) : (dropChain b z c).LinksOk e a :=
  .foldl (setAnnounce_links h) (fun _ _ h => releaseMessage_links h) _

theorem discardChain_links {z : Zone} {c : Chain} {cause : DropCause} (h : b.LinksOk e a) : (discardChain y b z c cause).LinksOk e a :=
  queueReport_links (dropChain_links h)

theorem startMember_links {i : Nat} {z : Zone} {c : Chain} {m : Member} {began : Nat} (h : b.LinksOk e a) :
    (startMember y b i z c m began).LinksOk e a := queueReport_links h

theorem giveChannels_links (n : Nat) {b : Blocks} (h : b.LinksOk e a) : (giveChannels y n b).LinksOk e a := by
  induction n generalizing b with
  | zero => exact h
  | succ n ih =>
    unfold giveChannels
    split
    · split
      · exact ih (startMember_links h)
      · exact h
    · exact h

theorem stopChannel_links {i : Nat} {cause : StopCause} (h : b.LinksOk e a) : (stopChannel y b i cause).LinksOk e a := by
  unfold stopChannel
  split
  · exact queueReport_links h
  · exact h

theorem preemptCheck_links (h : b.LinksOk e a) : (preemptCheck y b).LinksOk e a := by
  refine .ite h ?_
  split
  · exact stopChannel_links h
  · exact h

theorem arbiter_links (h : b.LinksOk e a) : (arbiter y b).LinksOk e a :=
  .ite (giveChannels_links _ h) (preemptCheck_links (giveChannels_links _ h))

theorem arbiterIfLifted_links {before : Blocks} (h : b.LinksOk e a) : (arbiterIfLifted y before b).LinksOk e a :=
  .ite (arbiter_links h) h

theorem admitChain_links {o : Offer} (h : b.LinksOk e a) : (admitChain y b o).1.LinksOk e a := by
  unfold admitChain
  split
  · exact h
  · split
    · exact h
    · split
      · exact h
      · split
        · exact h
        · have displaced (out : List Chain) (s : Store) :
              (out.foldl (fun b c => discardChain y b o.zone c .displaced) (b.setStore s)).LinksOk e a :=
            .foldl (b := b.setStore s) h (fun _ _ h => discardChain_links h) out
          exact arbiter_links (displaced _ _)

theorem admitOrDrop_links {o : Offer} (h : b.LinksOk e a) : (admitOrDrop y b o).LinksOk e a := by
  have admitted : (admitChain y b o).1.LinksOk e a := admitChain_links h
  unfold admitOrDrop
  split
  all_goals
    rename_i heq
    rw [heq] at admitted
  · exact queueReport_links admitted
  · exact admitted
  · exact admitted

theorem returnChain_links {z : Zone} {c : Chain} (h : b.LinksOk e a) : (returnChain y b z c).LinksOk e a := .ite (discardChain_links h) h

theorem endPlay_links {z : Zone} {c : Chain} (h : b.LinksOk e a) : (endPlay y b z c).LinksOk e a := .ite (dropChain_links h) (returnChain_links h)

theorem countFailure_links {z : Zone} (h : b.LinksOk e a) : (countFailure y b z).LinksOk e a := .ite (queueReport_links h) h

theorem failMember_links {z : Zone} {c : Chain} {id : Nat} (h : b.LinksOk e a) : (failMember y b z c id).LinksOk e a :=
  countFailure_links (.ite (discardChain_links h) (returnChain_links h))

theorem completePlay_links {i : Nat} {z : Zone} {id began : Nat} (h : b.LinksOk e a) : (completePlay y b i z id began).LinksOk e a := by
  have cleared : (clearRun b z).LinksOk e a := h
  unfold completePlay
  dsimp only
  split
  · split
    · exact startMember_links cleared
    · exact arbiter_links (endPlay_links cleared)
  · exact arbiter_links cleared

theorem failPlay_links {i : Nat} {z : Zone} {id : Nat} (h : b.LinksOk e a) : (failPlay y b i z id).LinksOk e a := by
  unfold failPlay
  split
  · exact arbiter_links (failMember_links h)
  · exact arbiter_links (countFailure_links h)

theorem deadlinePlay_links {i : Nat} {z : Zone} {id : Nat} (h : b.LinksOk e a) : (deadlinePlay y b i z id).LinksOk e a := by
  refine arbiter_links (stopChannel_links ?_)
  split
  · exact failMember_links h
  · exact countFailure_links h

theorem completeStop_links {i : Nat} {z : Zone} {id : Nat} {cause : StopCause} {done : Bool} (h : b.LinksOk e a) :
    (completeStop y b i z id cause done).LinksOk e a := by
  refine arbiter_links ?_
  cases cause with
  | preempt =>
    have cleared : (if done then clearRun b z else b).LinksOk e a := .ite h h
    change Blocks.LinksOk e a (match (if done then clearRun b z else b).announce.chainOf z id with | some c => _ | none => _)
    split
    · exact .ite (endPlay_links cleared) (returnChain_links cleared)
    · exact cleared
  | withdraw => exact h
  | deadline => exact h

theorem withdrawOne_links {z : Zone} {c : Chain} (h : b.LinksOk e a) : (withdrawOne y b z c).LinksOk e a := by
  have discarded : (discardChain y b z c .withdrawn).LinksOk e a := discardChain_links h
  unfold withdrawOne
  dsimp only
  split
  · exact stopChannel_links discarded
  · exact discarded
  · exact discarded

theorem withdrawWhere_links {p : Chain → Bool} (h : b.LinksOk e a) : (withdrawWhere y b p).LinksOk e a :=
  arbiterIfLifted_links (.foldl h (fun _ _ h => .foldl h (fun _ _ h => withdrawOne_links h) _) _)

theorem offerAuto_links {kind : AutoKind} {z : Zone} {added : List Nat} {expiry : Option Nat} {link : Option Link} (h : b.LinksOk e a) :
    (offerAuto y b kind z added expiry link).LinksOk e a := admitOrDrop_links h

theorem offerApproach_links {t : Track} {u : Nat} {ph : Option Nat} (h : b.LinksOk e a) : (offerApproach y b t u ph).LinksOk e a :=
  offerAuto_links h

theorem offerDelay_links {r : Incident} {l : Option Nat} (h : b.LinksOk e a) : (offerDelay y b r l).LinksOk e a :=
  .foldl h (fun _ _ h => offerAuto_links h) _

theorem offerEvacuate_links {r : Incident} (h : b.LinksOk e a) : (offerEvacuate y b r).LinksOk e a := by
  unfold offerEvacuate
  split
  · exact .foldl h (fun _ _ h => offerAuto_links h) _
  · exact h

theorem offerStalled_links {r : Incident} (h : b.LinksOk e a) : (offerStalled y b r).LinksOk e a := by
  unfold offerStalled
  split
  · exact offerAuto_links h
  · exact h

theorem offerSuspend_links {t : Track} {sec : TractionSection} (h : b.LinksOk e a) : (offerSuspend y b t sec).LinksOk e a :=
  .foldl h (fun _ _ h => offerAuto_links h) _

theorem offerForIncident_links {r : Incident} {l : Option Nat} (h : b.LinksOk e a) : (offerForIncident y b r l).LinksOk e a := by
  unfold offerForIncident
  split
  · exact offerDelay_links h
  · exact .ite (offerEvacuate_links h) h
  · exact .ite (offerStalled_links h) h
  all_goals exact h

theorem takeAnnounce_links {c : AnnounceContents} (h : b.LinksOk e a) : (takeAnnounce y b c).LinksOk e a :=
  .ite (.foldl h (fun _ _ h => admitOrDrop_links h) _) h

theorem notBeforeStep_links {m : Nat} (h : b.LinksOk e a) : (notBeforeStep y b m).LinksOk e a := by
  unfold notBeforeStep
  split
  · exact .ite (arbiter_links h) h
  · exact h

theorem expiryStep_links {m : Nat} (h : b.LinksOk e a) : (expiryStep y b m).LinksOk e a := by
  unfold expiryStep
  split
  · exact .ite (arbiterIfLifted_links (discardChain_links h)) h
  · exact h

theorem deadlineStep_links {i : Nat} (h : b.LinksOk e a) : (deadlineStep y b i).LinksOk e a := by
  unfold deadlineStep
  split
  · exact .ite (deadlinePlay_links h) h
  · exact h

theorem stopStep_links {i : Nat} (h : b.LinksOk e a) : (stopStep y b i).LinksOk e a := by
  unfold stopStep
  split
  · exact .ite (completeStop_links h) h
  · exact h

theorem resetStop_links {x : Nat × Channel} (h : b.LinksOk e a) : (resetStop y b x).LinksOk e a := by
  unfold resetStop
  split
  · exact queueReport_links h
  · exact h
  · exact h

theorem resetAnnouncer_links (h : b.LinksOk e a) : (resetAnnouncer y b).LinksOk e a := by
  have stopped : (b.announce.numbered.foldl (resetStop y) b).LinksOk e a := .foldl h (fun _ _ h => resetStop_links h) _
  unfold resetAnnouncer
  refine .foldl (setAnnounce_links ?_) (fun _ _ h => queueReport_links h) _
  exact .foldl (setAnnounce_links stopped) (fun _ _ h => .foldl h (fun _ _ h => dropChain_links h) _) _

/-! ### The requests of the ANNOUNCE channel -/

theorem admitZones_links {x : AnnounceRequest} {o : AnnounceOrder} (h : b.LinksOk e a) : (admitZones y b x o).1.LinksOk e a :=
  foldl_keeps (P := fun acc : Blocks × List Admission => acc.1.LinksOk e a) (fun _ _ h => admitChain_links h) o.zones.zones (b, []) h

theorem withdrawRequest_links {m : Nat} (h : b.LinksOk e a) : (withdrawRequest y b m).1.LinksOk e a := by
  unfold withdrawRequest
  split
  · exact arbiterIfLifted_links (withdrawOne_links h)
  · exact h

theorem audioDoneRequest_links {i m : Nat} (h : b.LinksOk e a) : (audioDoneRequest y b i m).1.LinksOk e a := by
  unfold audioDoneRequest
  split
  · exact h
  · split
    · exact completePlay_links h
    · exact h
  · split
    · exact completeStop_links h
    · exact h
  · exact h

theorem audioFailedRequest_links {i m : Nat} (h : b.LinksOk e a) : (audioFailedRequest y b i m).1.LinksOk e a := by
  unfold audioFailedRequest
  split
  · exact h
  · split
    · exact failPlay_links h
    · exact h
  · split
    · exact completeStop_links h
    · exact h
  · exact h

theorem audioStoppedRequest_links {i m : Nat} (h : b.LinksOk e a) : (audioStoppedRequest y b i m).1.LinksOk e a := by
  unfold audioStoppedRequest
  split
  · exact h
  · split
    · exact completeStop_links h
    · exact h
  · exact h
  · exact h

theorem audioResetRequest_links {zone : Nat} (h : b.LinksOk e a) : (audioResetRequest y b zone).1.LinksOk e a := by
  unfold audioResetRequest
  split
  · exact h
  · dsimp only
    split
    · exact arbiter_links (queueReport_links h)
    · exact h

/-! ### Platforms (chapter 6) -/

theorem setPlatform_links {t : Track} {p : Platform} (h : b.LinksOk e a) : (b.setPlatform t p).LinksOk e a := h

theorem writeDwell_links {t : Track} {p : Phase} {d : Dwell} (h : b.LinksOk e a) : (writeDwell b t p d).LinksOk e a := h

theorem watchHeld_links {t : Track} (h : b.LinksOk e a) : (watchHeld y b t).LinksOk e a := by
  unfold watchHeld
  split
  · exact .ite (offerAuto_links h) h
  · exact h

theorem enterHeld_links {t : Track} {d : Dwell} (h : b.LinksOk e a) : (enterHeld y b t d).LinksOk e a := watchHeld_links (queueReport_links h)

theorem enterReleased_links {t : Track} {d : Dwell} (h : b.LinksOk e a) : (enterReleased y b t d).LinksOk e a := queueReport_links h

theorem releaseCheck_links {t : Track} {d : Dwell} (h : b.LinksOk e a) : (releaseCheck y b t d).LinksOk e a :=
  .ite (enterReleased_links h) (enterHeld_links h)

theorem targetStep_links {t : Track} (h : b.LinksOk e a) : (targetStep y b t).LinksOk e a := by
  unfold targetStep
  split
  · exact .ite (releaseCheck_links h) h
  · exact h

theorem settleHeld_links {t : Track} {old new : Dwell} (h : b.LinksOk e a) : (settleHeld y b t old new).LinksOk e a :=
  .ite (enterReleased_links h) (.ite h (queueReport_links h))

theorem toldPower_links {t : Track} (h : b.LinksOk e a) : (toldPower y b t).LinksOk e a := by
  unfold toldPower
  split
  · exact settleHeld_links h
  · exact .ite (enterHeld_links h) h
  · exact h
  · exact h

theorem toldIncidentAt_links {t : Track} (h : b.LinksOk e a) : (toldIncidentAt y b t).LinksOk e a := by
  unfold toldIncidentAt
  split
  · exact settleHeld_links h
  · exact .ite (enterHeld_links h) h
  · exact h
  · exact h

theorem toldIncident_links (h : b.LinksOk e a) : (toldIncident y b).LinksOk e a := toldIncidentAt_links (toldIncidentAt_links h)

theorem toldLatch_links {t : Track} (h : b.LinksOk e a) : (toldLatch y b t).LinksOk e a := by
  unfold toldLatch
  split
  · exact settleHeld_links h
  · exact .ite (enterHeld_links h) h
  · exact h
  · exact h

theorem toldStartsAt_links {t : Track} (h : b.LinksOk e a) : (toldStartsAt y b t).LinksOk e a := by
  unfold toldStartsAt
  split
  · exact .ite (settleHeld_links h) h
  · exact h
  · exact h
  · exact h

theorem toldStarts_links (h : b.LinksOk e a) : (toldStarts y b).LinksOk e a := toldStartsAt_links (toldStartsAt_links h)

theorem staggerStep_links {t : Track} (h : b.LinksOk e a) : (staggerStep y b t).LinksOk e a := by
  unfold staggerStep
  split
  · exact .ite (settleHeld_links h) h
  · exact h

theorem graceStep_links {t : Track} (h : b.LinksOk e a) : (graceStep b t).LinksOk e a := by
  unfold graceStep
  split
  · exact .ite h h
  · exact h

theorem holdPlatform_links {t : Track} (h : b.LinksOk e a) : (holdPlatform y b t).1.LinksOk e a := by
  unfold holdPlatform
  split
  · exact h
  · exact enterHeld_links h
  · split
    · exact h
    · exact queueReport_links h

theorem unholdPlatform_links {t : Track} (h : b.LinksOk e a) : (unholdPlatform y b t).1.LinksOk e a := by
  unfold unholdPlatform
  split
  · exact h
  · split
    · exact h
    · split
      · exact settleHeld_links h
      · exact queueReport_links h
      · exact queueReport_links h

theorem releasePlatform_links {t : Track} (h : b.LinksOk e a) : (releasePlatform y b t).1.LinksOk e a := by
  unfold releasePlatform
  split
  · exact h
  · exact h
  · split
    · exact releaseCheck_links h
    · exact settleHeld_links h
    · exact h

theorem toldAddition_links {t : Track} {wasEmpty : Bool} (h : b.LinksOk e a) : (toldAddition y b t wasEmpty).LinksOk e a := by
  unfold toldAddition
  split
  · exact .ite (.ite (releaseCheck_links (queueReport_links h)) (queueReport_links h)) h
  · exact h

end

end Sys2Proof.Machine

/-! SUPPORT. The Power Controller and the Incident Table reach the two links by reports and by frames of other classes than STATUS. -/

namespace Sys2Proof.Machine

section
variable {e : Env} {a : LinkRule e} {b : Blocks}

/-! ### Sections and isolation items (R127, R128, R132) -/

theorem setBreaker_links {br : Breaker} {r : BreakerRecord} (h : b.LinksOk e a) : (b.setBreaker br r).LinksOk e a := by
  unfold Blocks.setBreaker
  split
  · exact h
  · exact h

theorem modifyBreaker_links {br : Breaker} {f : BreakerRecord → BreakerRecord} (h : b.LinksOk e a) : (modifyBreaker b br f).LinksOk e a := by
  unfold modifyBreaker
  split
  · exact setBreaker_links h
  · exact h

theorem setCoils_links {br : Breaker} {c : CoilLines} (h : b.LinksOk e a) : (b.setCoils br c).LinksOk e a := h

theorem setLatch_links {t : Track} {l : Latch} (h : b.LinksOk e a) : (b.setLatch t l).LinksOk e a := h

theorem setRecords_links {l : List Incident} (h : b.LinksOk e a) : (b.setRecords l).LinksOk e a := h

theorem modifyRecord_links {id : IncidentId} {f : Incident → Incident} (h : b.LinksOk e a) : (b.modifyRecord id f).LinksOk e a := h

theorem tellSection_links {sec : TractionSection} {before after : SectionState} (h : b.LinksOk e a) :
    (tellSection e b sec before after).LinksOk e a := by
  have told (x : Option Track) : Blocks.LinksOk e a (match x with
      | some t => if after = .dead ∧ e.inService then offerSuspend e (toldPower e b t) t sec else toldPower e b t
      | none => b) := by
    split
    · exact .ite (offerSuspend_links (toldPower_links h)) (toldPower_links h)
    · exact h
  exact .ite (withdrawWhere_links (told _)) (told _)

theorem sectionUpdate_links {br : Breaker} (h : b.LinksOk e a) : (sectionUpdate e b br).LinksOk e a := by
  unfold sectionUpdate
  split
  · refine .ite h ?_
    dsimp only
    split
    · split
      · exact toldPower_links (setBreaker_links h)
      · exact setBreaker_links h
    · exact .ite h (tellSection_links (queueReport_links (setBreaker_links h)))
  · exact h

theorem setItem_links {id : IncidentId} {sec : TractionSection} {f : IsolationItem → IsolationItem} (h : b.LinksOk e a) :
    (setItem b id sec f).LinksOk e a := h

theorem confirmItem_links {id : IncidentId} {sec : TractionSection} (h : b.LinksOk e a) : (confirmItem e b id sec).LinksOk e a :=
  .ite (queueReport_links h) h

theorem confirmItems_links {p : TractionSection → Bool} (h : b.LinksOk e a) : (confirmItems e b p).LinksOk e a :=
  .foldl h (fun _ _ h => confirmItem_links h) _

/-! ### Changes of state, commands and waits (R118 to R122, R138) -/

theorem setCondition_links {br : Breaker} {c : Condition} {cause : Option ChangeCause} (h : b.LinksOk e a) :
    (setCondition e b br c cause).LinksOk e a := by
  have updated := sectionUpdate_links (br := br) (queueReport_links (x := e) (r := .breakerChange br c.state cause)
    (queuePowerFrame_links (br := br) (reason := none) (modifyBreaker_links (br := br) (f := fun r => { r with condition := some c }) h)))
  exact .ite (confirmItems_links updated) updated

theorem refuseRestore_links {br : Breaker} {requester : Nat} {reason : RefusalReason} (h : b.LinksOk e a) :
    (refuseRestore e b br requester reason).LinksOk e a := queueReport_links (queuePowerFrame_links h)

theorem clearWait_links {br : Breaker} (h : b.LinksOk e a) : (clearWait b br).LinksOk e a := modifyBreaker_links h

theorem endWait_links {br : Breaker} {reason : RefusalReason} (h : b.LinksOk e a) : (endWait e b br reason).LinksOk e a := by
  unfold endWait
  split
  · exact refuseRestore_links (clearWait_links h)
  · exact h

theorem endPulse_links {br : Breaker} (h : b.LinksOk e a) : (endPulse b br).LinksOk e a := by
  unfold endPulse
  split
  · exact h
  · exact h

theorem openCommand_links {br : Breaker} (h : b.LinksOk e a) : (openCommand e b br).LinksOk e a := by
  have pulsed : (openCoil b br).LinksOk e a := h
  refine endWait_links ?_
  split
  · split
    · exact setCondition_links pulsed
    · exact setCondition_links pulsed
    · exact h
    · exact h
    · exact .ite (setCondition_links pulsed) (setCondition_links h)
    · exact h
  · exact h

theorem openIfLocked_links {br : Breaker} (h : b.LinksOk e a) : (openIfLocked e b br).LinksOk e a := by
  unfold openIfLocked
  split
  · exact .ite (openCommand_links h) h
  · exact h

theorem closeCommand_links {br : Breaker} (h : b.LinksOk e a) : (closeCommand e b br).LinksOk e a :=
  setCondition_links (setCoils_links h)

theorem followInput_links {br : Breaker} (h : b.LinksOk e a) : (followInput e b br).LinksOk e a := by
  unfold followInput
  split
  · exact .ite (openIfLocked_links (setCondition_links h)) h
  · exact h

/-! ### Lockout sets (R125, R126) -/

theorem reportLockout_links {br : Breaker} {before : BreakerRecord} (h : b.LinksOk e a) : (reportLockout e b br before).LinksOk e a := by
  unfold reportLockout
  split
  · exact .ite h (queueReport_links h)
  · exact h

theorem examineBreaker_links {br : Breaker} (h : b.LinksOk e a) : (examineBreaker e b br).LinksOk e a :=
  endWait_links (setCoils_links (openCommand_links h))

theorem lockoutAdd_links {br : Breaker} {id : IncidentId} {latch : Bool} (h : b.LinksOk e a) : (lockoutAdd e b br id latch).LinksOk e a := by
  unfold lockoutAdd
  split
  · exact .ite h (examineBreaker_links (reportLockout_links (setBreaker_links h)))
  · exact h

theorem lockoutRemove_links {br : Breaker} {id : IncidentId} (h : b.LinksOk e a) : (lockoutRemove e b br id).LinksOk e a := by
  unfold lockoutRemove
  split
  · exact .ite (reportLockout_links (setBreaker_links h)) h
  · exact h

theorem forceLockout_links {br : Breaker} (h : b.LinksOk e a) : (forceLockout e b br).LinksOk e a := by
  unfold forceLockout
  split
  · exact reportLockout_links (setBreaker_links h)
  · exact h

theorem failIdLeft_links {br : Breaker} {id : IncidentId} (h : b.LinksOk e a) : (failIdLeft e b br id).LinksOk e a := by
  unfold failIdLeft
  split
  · exact .ite (followInput_links (setBreaker_links h)) h
  · exact h

theorem latchIdLeft_links {t : Track} {id : IncidentId} (h : b.LinksOk e a) : (latchIdLeft b t id).LinksOk e a := .ite (setLatch_links h) h

theorem tellLatchCleared_links {t : Track} {id : IncidentId} {before : Blocks} (h : b.LinksOk e a) :
    (tellLatchCleared e b t id before).LinksOk e a := .ite (queueReport_links (toldLatch_links h)) h

theorem powerIdLeft_links {id : IncidentId} (h : b.LinksOk e a) : (powerIdLeft e b id).LinksOk e a := by
  refine .foldl ?_ (fun _ _ h => failIdLeft_links h) _
  refine .foldl ?_ (fun _ _ h => tellLatchCleared_links h) _
  refine .foldl ?_ (fun _ _ h => lockoutRemove_links h) _
  exact .foldl h (fun _ _ h => latchIdLeft_links h) _

/-! ### The RESTORE protocol (R134 to R138) -/

theorem namedCleanup_links {br : Breaker} {id : Option IncidentId} (h : b.LinksOk e a) : (namedCleanup e b br id).LinksOk e a := by
  unfold namedCleanup
  split
  · exact .ite (lockoutRemove_links h) h
  · exact h

theorem meetLow_links {br : Breaker} {fromPort : Bool} {requester : Nat} (h : b.LinksOk e a) :
    (meetLow e b br fromPort requester).LinksOk e a := by
  unfold meetLow
  split
  · exact closeCommand_links h
  · exact refuseRestore_links h

theorem meetHigh_links {br : Breaker} {fromPort : Bool} {requester : Nat} {id : Option IncidentId} (h : b.LinksOk e a) :
    (meetHigh e b br fromPort requester id).LinksOk e a := by
  unfold meetHigh
  split
  · exact refuseRestore_links (clearWait_links h)
  · exact .ite (closeCommand_links (clearWait_links h)) (.ite (modifyBreaker_links h) (queuePowerFrame_links (modifyBreaker_links h)))

theorem meetRestore_links {br : Breaker} {fromPort : Bool} {requester : Nat} {id : Option IncidentId} (h : b.LinksOk e a) :
    (meetRestore e b br fromPort requester id).LinksOk e a := by
  have cleaned : (namedCleanup e b br id).LinksOk e a := namedCleanup_links h
  unfold meetRestore
  dsimp only
  split
  · exact queuePowerFrame_links cleaned
  · exact queuePowerFrame_links cleaned
  · exact .ite (meetHigh_links cleaned) (meetLow_links cleaned)

theorem tryWait_links {br : Breaker} (h : b.LinksOk e a) : (tryWait e b br).LinksOk e a := by
  unfold tryWait
  split
  · split
    · exact closeCommand_links (clearWait_links h)
    · exact refuseRestore_links (clearWait_links h)
  · exact h

theorem toldFarEnd_links {br : Breaker} (h : b.LinksOk e a) : (toldFarEnd e b br).LinksOk e a := by
  have confirmed := confirmItems_links (p := fun sec => decide (sec = e.fed br)) (sectionUpdate_links (br := br) h)
  exact .ite (tryWait_links confirmed) confirmed

theorem toldLost_links {p : Nat} (h : b.LinksOk e a) : (toldLost e b p).LinksOk e a := .foldl h (fun _ _ h => .ite (tryWait_links h) h) _

theorem settleBreaker_links {br : Breaker} {isClosed : Bool} (h : b.LinksOk e a) : (settleBreaker e b br isClosed).LinksOk e a :=
  openIfLocked_links (setCondition_links (modifyBreaker_links h))

theorem thirdStep_links {br : Breaker} (h : b.LinksOk e a) : (thirdStep e b br).LinksOk e a := by
  unfold thirdStep
  split
  · exact .ite (setCondition_links h) h
  · exact h

theorem waitStep_links {br : Breaker} (h : b.LinksOk e a) : (waitStep e b br).LinksOk e a := by
  unfold waitStep
  split
  · exact .ite (endWait_links h) h
  · exact h

/-! ### Entry to the table and departure from it (R148, R149, R154, R163) -/

theorem setAlarm_links {on : Bool} (h : b.LinksOk e a) : (setAlarm b on).LinksOk e a := h

theorem soundAlarm_links {severity : Nat} (h : b.LinksOk e a) : (soundAlarm b severity).LinksOk e a := .ite (setAlarm_links h) h

theorem tellEntry_links {r : Incident} {lateness : Option Nat} (h : b.LinksOk e a) : (tellEntry e b r lateness).LinksOk e a :=
  offerForIncident_links (soundAlarm_links (toldIncident_links h))

theorem tellChange_links {before after : Nat} (h : b.LinksOk e a) : (tellChange e b before after).LinksOk e a :=
  .ite (soundAlarm_links (toldIncident_links h)) (toldIncident_links h)

theorem tellDeparture_links {id : IncidentId} (h : b.LinksOk e a) : (tellDeparture e b id).LinksOk e a :=
  toldIncident_links (withdrawWhere_links (powerIdLeft_links h))

theorem enterRecord_links {r : Incident} (h : b.LinksOk e a) : (enterRecord b r).LinksOk e a := h

theorem leaveTable_links {id : IncidentId} (h : b.LinksOk e a) : (leaveTable b id).LinksOk e a := h

theorem removeCopy_links {id : IncidentId} (h : b.LinksOk e a) : (removeCopy e b id).LinksOk e a := tellDeparture_links (leaveTable_links h)

theorem closeRecord_links {r : Incident} {reason : CloseReason} (h : b.LinksOk e a) : (closeRecord e b r reason).LinksOk e a :=
  queueReport_links (tellDeparture_links (leaveTable_links (.ite h (queueFrame_links h rfl))))

theorem closeOwned_links {id : Option IncidentId} {kind : IncidentKind} (h : b.LinksOk e a) : (closeOwned e b id kind).LinksOk e a := by
  unfold closeOwned
  split
  · exact closeRecord_links h
  · exact h

theorem closeWhere_links {p : Incident → Bool} {reason : CloseReason} (h : b.LinksOk e a) : (closeWhere e b p reason).LinksOk e a := by
  refine .foldl h (fun b id h => ?_) _
  split
  · exact closeRecord_links h
  · exact h

theorem evictCopy_links {r : Incident} (h : b.LinksOk e a) : (evictCopy e b r).LinksOk e a := queueReport_links (removeCopy_links h)

theorem makeRoom_links {b' : Blocks} {severity : Nat} {isLocal : Bool} (room : makeRoom e b severity isLocal = some b') (h : b.LinksOk e a) :
    b'.LinksOk e a := by
  unfold makeRoom at room
  split at room
  · cases room; exact h
  · split at room
    · cases room; exact evictCopy_links h
    · split at room
      · split at room
        · cases room; exact closeRecord_links h
        · split at room
          · cases room; exact evictCopy_links h
          · split at room
            · cases room; exact closeRecord_links h
            · cases room
      · cases room

theorem raiseIncident_links {x : Raise} {lateness : Option Nat} (h : b.LinksOk e a) : (raiseIncident e b x lateness).1.LinksOk e a := by
  unfold raiseIncident
  split
  · exact .ite h (queueReport_links h)
  case h_2 y room =>
    have roomy : y.LinksOk e a := makeRoom_links room h
    exact tellEntry_links (reportIncident_links (queueIncidentFrame_links (enterRecord_links roomy)))

theorem acknowledgeIncident_links {id : IncidentId} (h : b.LinksOk e a) : (acknowledgeIncident e b id).1.LinksOk e a := by
  unfold acknowledgeIncident
  split
  · exact h
  · split
    · exact h
    · split
      · exact h
      · exact reportIncident_links (queueIncidentFrame_links (modifyRecord_links h))

theorem changeIncident_links {id : IncidentId} {severity : Nat} (h : b.LinksOk e a) : (changeIncident e b id severity).1.LinksOk e a := by
  unfold changeIncident
  split
  · exact h
  · split
    · exact h
    · split
      · exact h
      · split
        · exact h
        · exact tellChange_links (reportIncident_links (queueIncidentFrame_links (modifyRecord_links h)))

theorem escalate_links {id : IncidentId} (h : b.LinksOk e a) : (escalate e b id).LinksOk e a := by
  unfold escalate
  split
  · refine .ite (.ite ?_ ?_) h
    · exact queueIncidentFrame_links (modifyRecord_links h)
    · exact tellChange_links (reportIncident_links (queueIncidentFrame_links (modifyRecord_links h)))
  · exact h

theorem closeIncident_links {id : IncidentId} (h : b.LinksOk e a) : (closeIncident e b id).1.LinksOk e a := by
  unfold closeIncident
  split
  · exact h
  · split
    · exact h
    · split
      · exact h
      · exact closeRecord_links h

theorem checkAdoptedLost_links (h : b.LinksOk e a) : (checkAdoptedLost e b).LinksOk e a := closeWhere_links h

/-! ### Copies and claims, liveness and counts (R155 to R162) -/

theorem storeCopy_links {c : IncidentContents} (h : b.LinksOk e a) : (storeCopy e b c).LinksOk e a := by
  refine .ite h (.ite ?_ h)
  split
  · exact queueReport_links h
  case h_2 y room =>
    have roomy : y.LinksOk e a := makeRoom_links room h
    exact tellEntry_links (reportIncident_links (enterRecord_links roomy))

theorem updateCopy_links {r : Incident} {p : CopyPart} {c : IncidentContents} (h : b.LinksOk e a) : (updateCopy e b r p c).LinksOk e a := by
  have told {q : Prop} [Decidable q] (f : Incident → Incident) (x y : Nat) :
      (if q then b.modifyRecord r.id f else tellChange e (b.modifyRecord r.id f) x y).LinksOk e a :=
    .ite (modifyRecord_links h) (tellChange_links (modifyRecord_links h))
  exact .ite h (.ite (.ite (told _ _ _) (reportIncident_links (told _ _ _))) h)

theorem meetLocal_links {r : Incident} {c : IncidentContents} (h : b.LinksOk e a) : (meetLocal e b r c).LinksOk e a := by
  refine .ite (.ite (removeCopy_links h) (reportIncident_links ?_)) (.ite h (queueIncidentFrame_links h))
  exact .ite (modifyRecord_links h) (tellChange_links (modifyRecord_links h))

theorem takeIncident_links {c : IncidentContents} (h : b.LinksOk e a) : (takeIncident e b c).LinksOk e a := by
  unfold takeIncident
  split
  · exact .ite (powerIdLeft_links h) (storeCopy_links h)
  · split
    · exact meetLocal_links h
    · exact .ite (removeCopy_links h) (updateCopy_links h)

theorem orphanCopies_links {peer : Nat} (h : b.LinksOk e a) : (orphanCopies e b peer).LinksOk e a :=
  .foldl h (fun _ _ h => reportIncident_links (modifyRecord_links h)) _

theorem toldLiveness_links {peer : Nat} {after : Liveness} (h : b.LinksOk e a) : (toldLiveness e b peer after).LinksOk e a := by
  refine checkAdoptedLost_links ?_
  cases after with
  | lost => exact orphanCopies_links h
  | current => exact setRecords_links h
  | stale => exact h
  | unheard => exact h

theorem adoptIncident_links {id : IncidentId} (h : b.LinksOk e a) : (adoptIncident e b id).1.LinksOk e a := by
  unfold adoptIncident
  split
  · exact h
  · split
    · exact h
    · split
      · exact h
      · exact checkAdoptedLost_links (reportIncident_links (queueIncidentFrame_links (modifyRecord_links h)))

theorem refreshStep_links {id : IncidentId} (h : b.LinksOk e a) : (refreshStep e b id).LinksOk e a := by
  unfold refreshStep
  split
  · exact .ite (queueIncidentFrame_links h) h
  · exact h

theorem localAgeStep_links {id : IncidentId} (h : b.LinksOk e a) : (localAgeStep e b id).LinksOk e a := by
  unfold localAgeStep
  split
  · exact .ite (closeRecord_links h) h
  · exact h

theorem copyDropStep_links {id : IncidentId} (h : b.LinksOk e a) : (copyDropStep e b id).LinksOk e a := by
  unfold copyDropStep
  split
  · exact .ite (queueReport_links (removeCopy_links h)) h
  · exact h

/-! ### Isolations, movements, emergency stop and frames (R120 to R142) -/

theorem sendIsolate_links {id : IncidentId} {sec : TractionSection} (h : b.LinksOk e a) : (sendIsolate e b id sec).LinksOk e a :=
  setItem_links (queueFrame_links h rfl)

theorem beginIsolation_links {id : IncidentId} {sec : TractionSection} (h : b.LinksOk e a) : (beginIsolation e b id sec).LinksOk e a := by
  unfold beginIsolation
  split
  case h_1 r _ =>
    have placed : (if restarts r.items sec then queueReport e (b.modifyRecord id fun r => r.setItems (placeItem r.items sec))
        (.itemChange id sec .pending) else b.modifyRecord id fun r => r.setItems (placeItem r.items sec)).LinksOk e a :=
      .ite (queueReport_links (modifyRecord_links h)) (modifyRecord_links h)
    refine .ite (sendIsolate_links ?_) ?_
    all_goals
      split
      · exact lockoutAdd_links placed
      · exact placed
  · exact h

theorem failItem_links {id : IncidentId} {sec : TractionSection} (h : b.LinksOk e a) : (failItem e b id sec).LinksOk e a :=
  escalate_links (queueReport_links (setItem_links h))

theorem repeatStep_links {id : IncidentId} {sec : TractionSection} (h : b.LinksOk e a) : (repeatStep e b id sec).LinksOk e a := by
  unfold repeatStep
  split
  · refine .ite (.ite ?_ (.ite ?_ ?_)) h
    · exact confirmItem_links (setItem_links h)
    · exact sendIsolate_links (setItem_links h)
    · exact failItem_links (setItem_links h)
  · exact h

theorem protectionTrip_links {br : Breaker} (h : b.LinksOk e a) : (protectionTrip e b br).LinksOk e a := by
  have raised : (raiseIncident e (setCondition e b br .opened (some .trip)) (sectionRaise .sectionTrip (e.fed br)) none).1.LinksOk e a :=
    raiseIncident_links (setCondition_links h)
  unfold protectionTrip
  dsimp only
  split
  all_goals
    rename_i heq
    rw [heq] at raised
  · exact beginIsolation_links (lockoutAdd_links raised)
  · exact raised

theorem uncommandedClose_links {br : Breaker} (h : b.LinksOk e a) : (uncommandedClose e b br).LinksOk e a :=
  openIfLocked_links (raiseIncident_links (setCondition_links h))

theorem breakerChange_links {br : Breaker} {isClosed : Bool} (h : b.LinksOk e a) : (breakerChange e b br isClosed).LinksOk e a := by
  have entered : (modifyBreaker b br fun r => { r with inputClosed := some isClosed }).LinksOk e a := modifyBreaker_links h
  unfold breakerChange
  dsimp only
  split
  · exact .ite (setCondition_links entered) entered
  · exact .ite (setCondition_links entered) (.ite (modifyBreaker_links entered) entered)
  · exact .ite entered (protectionTrip_links entered)
  · exact .ite (uncommandedClose_links entered) entered
  · exact followInput_links entered
  · exact entered

theorem limitStep_links {br : Breaker} (h : b.LinksOk e a) : (limitStep e b br).LinksOk e a := by
  unfold limitStep
  split
  · refine .ite (endWait_links (setCondition_links (modifyBreaker_links ?_))) h
    exact raiseIncident_links (modifyBreaker_links h)
  · exact h

theorem emergencyStop_links {t : Track} (h : b.LinksOk e a) : (emergencyStop e b t).LinksOk e a := by
  have raised (l : Latch) : (((raiseIncident e (b.setLatch t { isSet := true, id := none, ignored := 0 }) (estopRaise e t) none).1).setLatch
      t l).LinksOk e a := setLatch_links (raiseIncident_links (setLatch_links h))
  refine queueReport_links (queueReport_links (toldLatch_links ?_))
  split
  · exact .foldl (.foldl (raised _) (fun _ _ h => lockoutAdd_links h) _) (fun _ _ h => beginIsolation_links h) _
  · exact raised _

theorem plungerPress_links {t : Track} (h : b.LinksOk e a) : (plungerPress e b t).LinksOk e a :=
  .ite (queueReport_links (setLatch_links h)) (emergencyStop_links h)

theorem keyLevel_links {isSet : Bool} (h : b.LinksOk e a) : (keyLevel e b isSet).LinksOk e a := .ite h (queueReport_links h)

theorem takeIsolate_links {sec : TractionSection} {id : IncidentId} (h : b.LinksOk e a) : (takeIsolate e b sec id).LinksOk e a := by
  unfold takeIsolate
  split
  · exact .ite (queuePowerFrame_links h) (queuePowerFrame_links (lockoutAdd_links h))
  · exact h

theorem takeRestore_links {sec : TractionSection} {requester : Nat} {id : Option IncidentId} (h : b.LinksOk e a) :
    (takeRestore e b sec requester id).LinksOk e a := by
  refine .ite ?_ h
  split
  · exact meetRestore_links h
  · exact h

theorem takePower_links {source : Nat} {c : PowerContents} (h : b.LinksOk e a) : (takePower e b source c).LinksOk e a := by
  have failed {q : Prop} [Decidable q] (l : List (IncidentId × TractionSection)) :
      (confirmItems e (if q then l.foldl (fun b x => failItem e b x.1 x.2) b else b) fun _ => true).LinksOk e a :=
    confirmItems_links (.ite (.foldl h (fun _ _ h => failItem_links h) _) h)
  unfold takePower
  dsimp only
  split
  · exact .ite (endWait_links (failed _)) (failed _)
  · exact failed _

theorem isolateRequest_links {sec : Option TractionSection} {id : IncidentId} (h : b.LinksOk e a) : (isolateRequest e b sec id).1.LinksOk e a := by
  unfold isolateRequest
  split
  · exact h
  · split
    · exact h
    · split
      · exact h
      · exact beginIsolation_links h

theorem restoreRequest_links {sec : Option TractionSection} {id : Option IncidentId} {force : Bool} (h : b.LinksOk e a) :
    (restoreRequest e b sec id force).1.LinksOk e a := by
  unfold restoreRequest
  split
  · exact h
  · split
    · exact h
    · split
      · split
        · exact h
        · exact queueFrame_links h rfl
      · split
        · exact h
        · exact queueFrame_links (meetRestore_links (.ite (forceLockout_links h) h)) rfl

end

end Sys2Proof.Machine

/-! SUPPORT. The Peer View, the trains, the field lines and the Linebus Controller keep the queues of the two links. -/

namespace Sys2Proof.Machine

section
variable {e : Env} {a : LinkRule e} {b : Blocks}

/-! ### The Peer View (chapter 4) -/

theorem setPeers_links {p : PeerView} (h : b.LinksOk e a) : (b.setPeers p).LinksOk e a := h

theorem modifyPeer_links {n : Nat} {f : PeerEntry → PeerEntry} (h : b.LinksOk e a) : (modifyPeer b n f).LinksOk e a := h

theorem offerStart_links {sec : TractionSection} {d : Nat} (h : b.LinksOk e a) : (offerStart e b sec d).LinksOk e a :=
  .ite h (toldStarts_links (setPeers_links h))

theorem lapseStep_links {node : Nat} (h : b.LinksOk e a) : (lapseStep e b node).LinksOk e a := by
  unfold lapseStep
  split
  · exact .ite (toldStarts_links (setPeers_links h)) h
  · exact h

theorem emptyStarts_links (h : b.LinksOk e a) : (emptyStarts e b).LinksOk e a := toldStarts_links (setPeers_links h)

theorem raiseLost_links {peer : Nat} (h : b.LinksOk e a) : (raiseLost e b peer).LinksOk e a :=
  .ite (setPeers_links (raiseIncident_links h)) h

theorem closeLost_links {peer : Nat} (h : b.LinksOk e a) : (closeLost e b peer).LinksOk e a := by
  refine .ite (setPeers_links ?_) h
  split
  · exact .ite (closeRecord_links h) h
  · exact h

theorem tellLiveness_links {peer : Nat} {before after : Liveness} (h : b.LinksOk e a) : (tellLiveness e b peer before after).LinksOk e a := by
  have told : (toldLiveness e (queueReport e b (.peerLiveness peer before after)) peer after).LinksOk e a :=
    toldLiveness_links (queueReport_links h)
  exact .ite (toldLost_links told) told

theorem hear_links {source : Nat} (h : b.LinksOk e a) : (hear e b source).LinksOk e a := by
  refine .ite (modifyPeer_links h) (.ite (closeLost_links ?_) ?_)
  all_goals exact tellLiveness_links (modifyPeer_links h)

theorem withFarEnds_links {f : Blocks → Blocks} (h : (f b).LinksOk e a) : (withFarEnds e b f).LinksOk e a :=
  .foldl h (fun _ _ h => toldFarEnd_links h) _

theorem staleStep_links {node : Nat} (h : b.LinksOk e a) : (staleStep e b node).LinksOk e a :=
  .ite (tellLiveness_links (modifyPeer_links h)) h

theorem lostStep_links {node : Nat} (h : b.LinksOk e a) : (lostStep e b node).LinksOk e a :=
  .ite (withFarEnds_links (raiseLost_links (tellLiveness_links (modifyPeer_links h)))) h

theorem hearFrom_links {source : Nat} (h : b.LinksOk e a) : (hearFrom e b source).LinksOk e a :=
  hear_links (lostStep_links (staleStep_links h))

theorem statusStart_links {source : Nat} {c : StatusContents} {t : Track} (h : b.LinksOk e a) : (statusStart e source c b t).LinksOk e a := by
  unfold statusStart
  split
  · exact offerStart_links h
  · exact h

theorem peerStatus_links {source : Nat} {c : StatusContents} (h : b.LinksOk e a) : (peerStatus e b source c).LinksOk e a :=
  withFarEnds_links (.foldl (modifyPeer_links h) (fun _ _ h => statusStart_links h) _)

theorem peerPower_links {source : Nat} {c : PowerContents} (h : b.LinksOk e a) : (peerPower e b source c).LinksOk e a :=
  withFarEnds_links (modifyPeer_links h)

theorem peerDepart_links {c : DepartContents} (h : b.LinksOk e a) : (peerDepart e b c).LinksOk e a := by
  unfold peerDepart
  split
  · exact offerStart_links h
  · exact h

theorem raiseStandingLost_links (h : b.LinksOk e a) : (raiseStandingLost e b).LinksOk e a :=
  .foldl h (fun _ _ h => .ite (raiseLost_links h) h) _

/-! ### The timetable and the approaching queues (chapter 5) -/

theorem setTimetable_links {x : Timetable} (h : b.LinksOk e a) : (b.setTimetable x).LinksOk e a := h

theorem setApproach_links {t : Track} {q : List Approach} (h : b.LinksOk e a) : (b.setApproach t q).LinksOk e a := h

theorem setSequence_links {t : Track} {l : List Entry} (h : b.LinksOk e a) : (b.setSequence t l).LinksOk e a := h

theorem storePart_links {start : PerTrack (List Entry)} {p : PartRequest} (h : b.LinksOk e a) : (storePart b start p).1.LinksOk e a := by
  unfold storePart
  split
  · exact h
  · exact h

theorem takePart_links {p : PartRequest} (h : b.LinksOk e a) : (takePart b p).1.LinksOk e a := by
  unfold takePart
  split
  · exact h
  · split
    · exact storePart_links h
    · split
      · split
        · exact storePart_links h
        · exact h
      all_goals exact h

theorem amendChange_links {platform trip departure : Nat} (h : b.LinksOk e a) : (amendChange b platform trip departure).1.LinksOk e a := by
  unfold amendChange
  split
  · exact h
  · dsimp only
    split
    · exact h
    · split
      · split
        · exact h
        · exact h
      · split
        · exact h
        · exact h
      all_goals exact h

theorem amendCancel_links {platform trip : Nat} (h : b.LinksOk e a) : (amendCancel b platform trip).1.LinksOk e a := by
  unfold amendCancel
  split
  · exact h
  · dsimp only
    split
    · exact h
    · split
      all_goals exact h

theorem amendInsert_links {x : EntryRequest} (h : b.LinksOk e a) : (amendInsert b x).1.LinksOk e a := by
  unfold amendInsert
  split
  · exact h
  · split
    · exact h
    · dsimp only
      split
      · exact h
      · split
        · exact h
        · split
          · exact h
          · exact h

theorem finishEntry_links {t : Track} {trip : Nat} (h : b.LinksOk e a) : (finishEntry e b t trip).LinksOk e a := by
  unfold finishEntry
  dsimp only
  split
  · exact h
  · split
    · exact h
    · exact h
    · split
      · exact h
      · exact queueReport_links (setSequence_links (setPlatform_links h))

theorem stallCheck_links {t : Track} (h : b.LinksOk e a) : (stallCheck e b t).LinksOk e a := by
  unfold stallCheck
  split
  · exact .ite (setApproach_links (raiseIncident_links h)) h
  · exact h

theorem addApproach_links {t : Track} {trip upstream : Nat} {source : ApproachSource} (h : b.LinksOk e a) :
    (addApproach e b t trip upstream source).LinksOk e a := by
  have offered {q : Prop} [Decidable q] (r : ReportBody) (l : List Approach) (was : Bool) (p : Blocks → Option Nat) :
      (if q then offerApproach e (toldAddition e (queueReport e (b.setApproach t l) r) t was) t upstream
        (p (toldAddition e (queueReport e (b.setApproach t l) r) t was))
      else toldAddition e (queueReport e (b.setApproach t l) r) t was).LinksOk e a :=
    .ite (offerApproach_links (toldAddition_links (queueReport_links (setApproach_links h))))
      (toldAddition_links (queueReport_links (setApproach_links h)))
  exact .ite (stallCheck_links (offered _ _ _ fun b => phraseOf (b.timetable.sequences.get t) trip))
    (offered _ _ _ fun b => phraseOf (b.timetable.sequences.get t) trip)

theorem describeError_links {t : Track} {trip : Nat} (h : b.LinksOk e a) : (describeError e b t trip).LinksOk e a :=
  .ite h (raiseIncident_links h)

theorem takeDepart_links {source : Nat} {c : DepartContents} (h : b.LinksOk e a) : (takeDepart e b source c).LinksOk e a :=
  .ite (.ite (queueReport_links (describeError_links h)) (addApproach_links h)) h

theorem injectTrain_links {platform trip : Nat} {upstream : Option Nat} (h : b.LinksOk e a) :
    (injectTrain e b platform trip upstream).1.LinksOk e a := by
  unfold injectTrain
  split
  · exact h
  · dsimp only
    split
    · exact h
    · split
      · exact h
      · split
        · exact h
        · exact addApproach_links h

theorem flushTrain_links {platform trip : Nat} (h : b.LinksOk e a) : (flushTrain e b platform trip).1.LinksOk e a := by
  unfold flushTrain
  split
  · exact h
  · split
    · exact h
    · dsimp only
      split
      · exact h
      · refine .ite (stallCheck_links ?_) ?_
        all_goals exact queueReport_links (closeOwned_links (setApproach_links h))

theorem takeHead_links {t : Track} {x : Approach} {rest : List Approach} (h : b.LinksOk e a) : (takeHead e b t x rest).LinksOk e a :=
  stallCheck_links (closeOwned_links (setApproach_links h))

/-! ### Arrival and departure (R90, R91, R107, R108) -/

theorem matchArrival_links {t : Track} (h : b.LinksOk e a) : (matchArrival e b t).1.LinksOk e a := by
  unfold matchArrival
  split
  · dsimp only
    split
    · exact setSequence_links (takeHead_links h)
    · exact takeHead_links h
  · have used : Blocks.LinksOk e a (match cursor (b.timetable.sequences.get t) with
        | some x => b.setSequence t (useTrip (b.timetable.sequences.get t) x.trip).1
        | none => b) := by
      split
      · exact setSequence_links h
      · exact h
    exact .ite used (describeError_links used)

theorem regulatedArrival_links {t : Track} {stamp : Nat} (h : b.LinksOk e a) : (regulatedArrival e b t stamp).LinksOk e a := by
  refine .ite (releaseCheck_links ?_) ?_
  all_goals exact queueReport_links (writeDwell_links (matchArrival_links h))

theorem manualArrival_links {t : Track} {stamp : Nat} (h : b.LinksOk e a) : (manualArrival e b t stamp).LinksOk e a := by
  refine queueReport_links (writeDwell_links ?_)
  split
  · exact takeHead_links h
  · exact h

theorem arrive_links {t : Track} {stamp : Nat} (h : b.LinksOk e a) : (arrive e b t stamp).LinksOk e a := by
  unfold arrive
  split
  · exact queueReport_links h
  · split
    · exact h
    · exact manualArrival_links h
    · exact regulatedArrival_links h

theorem judgeLateness_links {t : Track} {trip : Nat} {lateness : Int} (h : b.LinksOk e a) : (judgeLateness e b t trip lateness).LinksOk e a := by
  unfold judgeLateness
  dsimp only
  refine .ite ?_ (.ite ?_ h)
  · split
    · exact h
    · exact setPlatform_links (raiseIncident_links (setPlatform_links h))
  · split
    · exact setPlatform_links (closeOwned_links (setPlatform_links h))
    · exact h

theorem departTrain_links {t : Track} {phase : Phase} {d : Dwell} {dact : Nat} (h : b.LinksOk e a) :
    (departTrain e b t phase d dact).LinksOk e a := by
  have finished (x : Blocks) (hx : x.LinksOk e a) (o : Option Nat) :
      Blocks.LinksOk e a (match o with | some trip => finishEntry e x t trip | none => x) := by
    cases o with
    | some trip => exact finishEntry_links hx
    | none => exact hx
  have offered (x : Blocks) (hx : x.LinksOk e a) (o : Option TractionSection) :
      Blocks.LinksOk e a (match o with | some sec => offerStart e x sec dact | none => x) := by
    cases o with
    | some sec => exact offerStart_links hx
    | none => exact hx
  have judged (x : Blocks) (hx : x.LinksOk e a) (o : Option Int) :
      Blocks.LinksOk e a (match o with | some l => judgeLateness e x t d.trip l | none => x) := by
    cases o with
    | some l => exact judgeLateness_links hx
    | none => exact hx
  have left (x : Blocks) (hx : x.LinksOk e a) (q : Prop) [Decidable q] (r : ReportBody) (z : Raise) :
      (queueReport e (if q then (raiseIncident e x z none).1 else x) r).LinksOk e a :=
    queueReport_links (.ite (raiseIncident_links hx) hx)
  have vacated (p : Platform) : ((b.setPlatform t p).setStarter t false).LinksOk e a := h
  refine .ite (queueReport_links (left _ ?_ _ _ _)) (left _ ?_ _ _ _)
  all_goals exact judged _ (queueFrame_links (offered _ (finished _ (vacated _) _) _) rfl) _

theorem depart_links {t : Track} {stamp : Nat} (h : b.LinksOk e a) : (depart e b t stamp).LinksOk e a := by
  unfold depart
  split
  · exact queueReport_links h
  · exact departTrain_links h

/-! ### Delivery (R46) -/

theorem deliver_links {source : Nat} {f : Frame} (h : b.LinksOk e a) : (deliver e b source f).LinksOk e a := by
  have heard : (hearFrom e b source).LinksOk e a := hearFrom_links h
  cases f with
  | status c => exact peerStatus_links heard
  | power c => exact takePower_links (peerPower_links heard)
  | depart c => exact takeDepart_links (peerDepart_links heard)
  | isolate sec id => exact takeIsolate_links heard
  | restore sec requester id => exact takeRestore_links heard
  | incident c => exact takeIncident_links heard
  | announce c => exact takeAnnounce_links heard

end

end Sys2Proof.Machine

/-! SUPPORT. The Linebus Controller's own events and the field lines keep the queues of the two links. -/

namespace Sys2Proof.Machine

section
variable {e : Env} {a : List AnswerFrame} {b : Blocks}

/-! ### The receive assembly (R44 to R47) -/

theorem noteError_links (h : b.LinksOk e (.proper _ a)) : (noteError e b).LinksOk e (.proper _ a) :=
  .ite (queueReport_links (setBus_links h)) (setBus_links h)

theorem errorReportStep_links (h : b.LinksOk e (.proper _ a)) : (errorReportStep e b).LinksOk e (.proper _ a) :=
  .ite (queueReport_links (setBus_links h)) h

theorem setRx_links {x : Assembly} (h : b.LinksOk e (.proper _ a)) : (setRx b x).LinksOk e (.proper _ a) := setBus_links h

theorem setIdle_links {n : Nat} (h : b.LinksOk e (.proper _ a)) : (setIdle b n).LinksOk e (.proper _ a) := setBus_links h

theorem countCheckError_links (h : b.LinksOk e (.proper _ a)) : (countCheckError e b).LinksOk e (.proper _ a) := noteError_links (setBus_links h)

theorem countClassError_links (h : b.LinksOk e (.proper _ a)) : (countClassError e b).LinksOk e (.proper _ a) := noteError_links (setBus_links h)

theorem countContentError_links (h : b.LinksOk e (.proper _ a)) : (countContentError e b).LinksOk e (.proper _ a) := noteError_links (setBus_links h)

theorem countTruncated_links (h : b.LinksOk e (.proper _ a)) : (countTruncated e b).LinksOk e (.proper _ a) := noteError_links (setBus_links h)

theorem countLengthError_links (h : b.LinksOk e (.proper _ a)) : (countLengthError e b).LinksOk e (.proper _ a) := noteError_links (setBus_links h)

theorem noteIdle_links (h : b.LinksOk e (.proper _ a)) : (noteIdle e b).LinksOk e (.proper _ a) := by
  unfold noteIdle
  split
  · exact setRx_links h
  · exact h
  · exact countTruncated_links (setRx_links h)

theorem rxError_links (h : b.LinksOk e (.proper _ a)) : (rxError e b).LinksOk e (.proper _ a) := by
  unfold rxError
  split
  · exact h
  · exact setRx_links h
  · exact countTruncated_links (setRx_links h)

/-- A SILENT transmitter is OFF with an empty queue (R47). -/
theorem Linebus.proper_silent (e : Env) (l : Linebus) : ({ l with silent := true, tx := .off, waiting := [] } : Linebus).Proper e where
  full := Nat.zero_le _
  ranked := .nil
  off := by simp
  agrees := rfl
  oneStatus := Nat.zero_le _

theorem enterSilent_links (h : b.LinksOk e (.proper _ a)) : (enterSilent e b).LinksOk e (.proper _ a) :=
  .ite h (queueReport_links (h.setBus (Linebus.proper_silent e b.bus)))

theorem judgeContent_links {source : Byte} {cls : FrameClass} {payload : List Byte} (h : b.LinksOk e (.proper _ a)) :
    (judgeContent e b source cls payload).LinksOk e (.proper _ a) := by
  unfold judgeContent
  split
  · exact countContentError_links h
  · exact .ite (enterSilent_links (setBus_links h)) (deliver_links (setBus_links h))

theorem judgeFrame_links {source cls : Byte} {payload : List Byte} {check : Check} (h : b.LinksOk e (.proper _ a)) :
    (judgeFrame e b source cls payload check).LinksOk e (.proper _ a) := by
  refine .ite (countCheckError_links h) ?_
  split
  · exact countClassError_links h
  · exact judgeContent_links h

theorem receiveFrame_links {source : Byte} {cls : FrameClass} {payload : List Byte} (h : b.LinksOk e (.proper _ a)) :
    (receiveFrame e b source cls payload).LinksOk e (.proper _ a) :=
  .ite (.ite (countLengthError_links (setIdle_links (setRx_links h))) (judgeContent_links (setIdle_links (setRx_links h)))) h

theorem discardFrame_links {source cls : Byte} {payload : List Byte} {check : Check} (h : b.LinksOk e (.proper _ a)) :
    (discardFrame e b source cls payload check).LinksOk e (.proper _ a) := .ite (judgeFrame_links (setIdle_links (setRx_links h))) h

theorem lengthError_links {source cls len : Byte} (h : b.LinksOk e (.proper _ a)) : (lengthError e b source cls len).LinksOk e (.proper _ a) :=
  .ite (countLengthError_links (setIdle_links (setRx_links h))) h

theorem takeInFrame_links {taken : List Byte} (h : b.LinksOk e (.proper _ a)) : (takeInFrame e b taken).LinksOk e (.proper _ a) := by
  unfold takeInFrame
  split
  · exact .ite (countLengthError_links (setRx_links h)) (.ite (judgeFrame_links (setRx_links h)) (setRx_links h))
  · exact setRx_links h

theorem takeChar_links {c : Byte} (h : b.LinksOk e (.proper _ a)) : (takeChar e b c).LinksOk e (.proper _ a) := by
  have quiet : (setIdle b 0).LinksOk e (.proper _ a) := setIdle_links h
  unfold takeChar
  dsimp only
  split
  · exact quiet
  · exact .ite (setRx_links quiet) (setRx_links quiet)
  · exact takeInFrame_links quiet

theorem takeChars_links {heard : List Byte} (h : b.LinksOk e (.proper _ a)) : (takeChars e b heard).LinksOk e (.proper _ a) :=
  .foldl h (fun _ _ h => takeChar_links h) _

theorem characterError_links {heard : List Byte} (h : b.LinksOk e (.proper _ a)) : (characterError e b heard).LinksOk e (.proper _ a) :=
  rxError_links (setIdle_links (takeChars_links h))

theorem lineIdle_links {heard : List Byte} {idle : Nat} (h : b.LinksOk e (.proper _ a)) : (lineIdle e b heard idle).LinksOk e (.proper _ a) :=
  .ite (noteIdle_links (setIdle_links (takeChars_links h))) (setIdle_links (takeChars_links h))

theorem otherCharacter_links {c : Option Byte} (h : b.LinksOk e (.proper _ a)) : (otherCharacter b c).LinksOk e (.proper _ a) := by
  unfold otherCharacter
  split
  · exact .ite h (setIdle_links (setRx_links h))
  · exact h
  · exact h

/-! ### The transmitter (R35 to R38, R42) -/

/-- The transmitter and its queue stand as they did. -/
structure TxStands (b b' : Blocks) : Prop where
  tx : b'.bus.tx = b.bus.tx := by rfl
  waiting : b'.bus.waiting = b.bus.waiting := by rfl
  silent : b'.bus.silent = b.bus.silent := by rfl

theorem noteError_txStands (e : Env) (b : Blocks) : TxStands b (noteError e b) := by
  unfold noteError
  split
  · exact {}
  · exact {}

theorem noteIdle_txStands (e : Env) (b : Blocks) : TxStands b (noteIdle e b) := by
  unfold noteIdle
  split
  · exact {}
  · exact {}
  · obtain ⟨tx, waiting, silent⟩ := noteError_txStands e ((setRx b .seek).setBus
      { (setRx b .seek).bus with truncatedErrors := countUp Config.counterMax (setRx b .seek).bus.truncatedErrors })
    exact ⟨tx, waiting, silent⟩

theorem stayIdle_txStands (e : Env) (b : Blocks) (more : Nat) : TxStands b (stayIdle e b more) := by
  unfold stayIdle
  dsimp only
  split
  · obtain ⟨tx, waiting, silent⟩ := noteIdle_txStands e (setIdle b (b.bus.idleCount + more))
    exact ⟨tx, waiting, silent⟩
  · exact {}

theorem stayIdle_links {more : Nat} (h : b.LinksOk e (.proper _ a)) : (stayIdle e b more).LinksOk e (.proper _ a) :=
  .ite (noteIdle_links (setIdle_links h)) (setIdle_links h)

/-- The head of the queue becomes the frame in hand (R35). -/
theorem Linebus.Proper.take {e : Env} {l : Linebus} (h : l.Proper e) (ht : l.tx = .waiting) {f : Frame} {rest : List Frame}
    (hw : l.waiting = f :: rest) (n : Nat) :
    ({ l with tx := .sending { frame := f, attempts := 0, doomed := false }, waiting := rest, idleCount := n } : Linebus).Proper e where
  full := by simpa [Linebus.occupied, ht, hw, Transmitter.hand?] using h.full
  ranked := (List.pairwise_cons.1 (hw ▸ h.ranked)).2
  off := by simpa [ht] using h.off
  agrees := Nat.zero_lt_of_lt (by decide : 15 < Config.attemptLimit)
  oneStatus := by
    have one : statuses l.frames ≤ 1 := h.oneStatus
    have moved : (rest ++ [f]).Perm l.frames := by
      simp [Linebus.frames, ht, hw, Transmitter.hand?]
    exact (statuses_perm moved).trans_le one

theorem attemptBegin_links {idle : Nat} (h : b.LinksOk e (.proper _ a)) : (attemptBegin e b idle).LinksOk e (.proper _ a) := by
  unfold attemptBegin
  split
  case h_1 f rest ht hw =>
    have stands := stayIdle_txStands e b idle
    have idled : (stayIdle e b idle).LinksOk e (.proper _ a) := stayIdle_links h
    exact .ite (idled.setBus (idled.bus.take (stands.tx.trans ht) (stands.waiting.trans hw) 0)) idled
  case h_2 => exact h

/-- The frame in BACKOFF is sent again (R37). -/
theorem Linebus.Proper.retry {e : Env} {l : Linebus} (h : l.Proper e) {x : Hand} (ht : l.tx = .backoff x) (n : Nat) :
    ({ l with tx := .sending x, idleCount := n } : Linebus).Proper e where
  full := by simpa [Linebus.occupied, ht, Transmitter.hand?] using h.full
  ranked := h.ranked
  off := by simpa [ht] using h.off
  agrees := by
    have agrees := h.agrees
    rw [ht] at agrees
    exact agrees.1
  oneStatus := by simpa [Linebus.frames, ht, Transmitter.hand?] using h.oneStatus

theorem backoffRetry_links {idle : Nat} (h : b.LinksOk e (.proper _ a)) : (backoffRetry e b idle).LinksOk e (.proper _ a) := by
  unfold backoffRetry
  split
  case h_1 x ht =>
    have idled : (stayIdle e b idle).LinksOk e (.proper _ a) := stayIdle_links h
    exact .ite (idled.setBus (idled.bus.retry ((stayIdle_txStands e b idle).tx.trans ht) 0)) idled
  case h_2 => exact h

/-- The frame in hand leaves the queue (R35). -/
theorem Linebus.Proper.release {e : Env} {l : Linebus} (h : l.Proper e) (on : l.tx ≠ .off) : ({ l with tx := l.next } : Linebus).Proper e := by
  have freed : l.next.hand? = none ∧ l.next ≠ .off ∧ l.next.agrees l.waiting := by
    unfold Linebus.next
    cases hw : l.waiting <;> simp [Transmitter.hand?, Transmitter.agrees]
  obtain ⟨hand, stays_on, agrees⟩ := freed
  have full := h.full
  have one : statuses l.frames ≤ 1 := h.oneStatus
  rw [l.statuses_frames] at one
  refine ⟨?_, h.ranked, ?_, agrees, ?_⟩
  · simp only [Linebus.occupied, hand, Option.toList_none, List.length_nil] at full ⊢
    omega
  · exact ⟨fun hx => absurd hx stays_on, fun hm => absurd (h.off.2 hm) on⟩
  · change statuses (l.waiting ++ l.next.hand?.toList.map (·.frame)) ≤ 1
    rw [hand, Option.toList_none, List.map_nil, List.append_nil]
    omega

theorem releaseHand_links (h : b.LinksOk e (.proper _ a)) (on : b.bus.tx ≠ .off) : (releaseHand b).LinksOk e (.proper _ a) :=
  h.setBus (h.bus.release on)

/-- The frame in hand waits for another attempt (R36). -/
theorem Linebus.Proper.backoff {e : Env} {l : Linebus} (h : l.Proper e) {x : Hand} (ht : l.tx = .sending x) (kept : x.doomed = false)
    (more : x.attempts + 1 < Config.attemptLimit) :
    ({ l with tx := .backoff { x with attempts := x.attempts + 1 } } : Linebus).Proper e where
  full := by simpa [Linebus.occupied, ht, Transmitter.hand?] using h.full
  ranked := h.ranked
  off := by simpa [ht] using h.off
  agrees := ⟨more, kept⟩
  oneStatus := by simpa [Linebus.frames, ht, Transmitter.hand?] using h.oneStatus

theorem collideHand_links {x : Hand} (h : b.LinksOk e (.proper _ a)) (ht : b.bus.tx = .sending x) : (collideHand e b x).LinksOk e (.proper _ a) := by
  have released : (releaseHand b).LinksOk e (.proper _ a) := releaseHand_links h (by simp [ht])
  unfold collideHand
  split
  case isTrue => exact released
  case isFalse kept =>
    split
    case isTrue => exact dropFrame_links released
    case isFalse more => exact h.setBus (h.bus.backoff ht (by simpa using kept) (Nat.lt_of_not_le more))

theorem collide_links {cause : CollisionCause} {heard : List Byte} (h : b.LinksOk e (.proper _ a)) :
    (collide e b cause heard).LinksOk e (.proper _ a) := by
  unfold collide
  split
  case h_1 x ht =>
    have collided := takeChars_links (heard := heard) (collideHand_links (b := b.setBus
      { b.bus with collisions := countUp Config.counterMax b.bus.collisions, idleCount := 0 }) (setBus_links h) ht)
    exact .ite (rxError_links collided) collided
  case h_2 => exact h

theorem judgeOwn_links {f : Frame} (h : b.LinksOk e (.proper _ a)) : (judgeOwn e b f).LinksOk e (.proper _ a) := by
  unfold judgeOwn
  split
  · exact h
  · split
    · exact setBus_links h
    · exact countContentError_links (setRx_links h)

theorem frameSent_links (h : b.LinksOk e (.proper _ a)) : (frameSent e b).LinksOk e (.proper _ a) := by
  unfold frameSent
  split
  case h_1 x ht => exact judgeOwn_links (releaseHand_links (setBus_links h) (by simp [ht]))
  case h_2 => exact h

theorem statusStep_links (h : b.LinksOk e (.proper _ a)) : (statusStep e b).LinksOk e (.proper _ a) := .ite (queueStatus_links (setBus_links h)) h

/-! ### CONFIGURE and SERVICE RESET (R49) -/

/-- CONFIGURE ends the node state in which the transmitter is OFF whatever else holds (R49). -/
theorem enableBus_links {x : Env} (h : b.LinksOk x (.proper _ a)) (before : x.nodeState = .configuring) (after : e.nodeState ≠ .configuring) :
    (enableBus b).LinksOk e (.proper _ a) := by
  have off : b.bus.tx = .off := h.bus.off.2 (.inl before)
  have agrees := h.bus.agrees
  rw [off] at agrees
  cases silent : b.bus.silent with
  | true =>
    have same : enableBus b = b := if_pos silent
    rw [same]
    exact ⟨h.port, h.answers, h.bus.full, h.bus.ranked, by simp [off, silent], h.bus.agrees, h.bus.oneStatus⟩
  | false =>
    have idled : enableBus b = b.setBus { b.bus with tx := .idle } := by simp [enableBus, silent, off]
    rw [idled]
    refine ⟨h.port, h.answers, ?_, h.bus.ranked, by simp [silent, after], agrees, ?_⟩
    · simpa [Linebus.occupied, off, Transmitter.hand?] using h.bus.full
    · simpa [Linebus.frames, off, Transmitter.hand?] using h.bus.oneStatus

/-- What SERVICE RESET leaves of the transmitter: the frame in hand or none, and a state that agrees with the frames kept (R49). -/
theorem removeHand_agrees {tx : Transmitter} {w kept : List Frame} (h : tx.agrees w) (sub : kept.Sublist w) :
    (removeHand tx kept).agrees kept ∧ (removeHand tx kept = .off ↔ tx = .off)
      ∧ ((removeHand tx kept).hand?.toList.map (·.frame)).Sublist (tx.hand?.toList.map (·.frame)) := by
  obtain ⟨y, freed, agrees, on, hand⟩ : ∃ y, (if kept.isEmpty then Transmitter.idle else .waiting) = y
      ∧ y.agrees kept ∧ y ≠ .off ∧ y.hand? = none := by
    cases kept <;> simp [Transmitter.agrees, Transmitter.hand?]
  cases tx with
  | off => obtain rfl : w = [] := h; exact ⟨List.sublist_nil.1 sub, .rfl, .refl _⟩
  | idle => obtain rfl : w = [] := h; exact ⟨List.sublist_nil.1 sub, .rfl, .refl _⟩
  | waiting =>
    have next : removeHand .waiting kept = y := freed
    rw [next]
    exact ⟨agrees, by simpa using on, by simp [hand]⟩
  | sending x =>
    cases hr : x.frame.cls.removable with
    | true => rw [removeHand_sending hr]; exact ⟨h, by simp, .refl _⟩
    | false => rw [removeHand_sending_kept hr]; exact ⟨h, .rfl, .refl _⟩
  | backoff x =>
    cases hr : x.frame.cls.removable with
    | true =>
      have next : removeHand (.backoff x) kept = y := (if_pos hr).trans freed
      rw [next]
      exact ⟨agrees, by simpa using on, by simp [hand]⟩
    | false => rw [removeHand_backoff_kept hr]; exact ⟨h, .rfl, .refl _⟩

theorem removeFrames_links (h : b.LinksOk e (.proper _ a)) : (removeFrames b).LinksOk e (.proper _ a) := by
  have sub : (b.bus.waiting.filter fun f => !f.cls.removable).Sublist b.bus.waiting := List.filter_sublist
  obtain ⟨agrees, off, hand⟩ := removeHand_agrees h.bus.agrees sub
  refine h.setBus ⟨?_, h.bus.ranked.sublist sub, off.trans h.bus.off, agrees, ?_⟩
  · have fewer := hand.length_le
    have full := h.bus.full
    simp only [List.length_map] at fewer
    exact (Nat.add_le_add sub.length_le fewer).trans full
  · exact (statuses_sublist (sub.append hand)).trans h.bus.oneStatus

/-! ### The field lines (chapter 2) -/

theorem setWaiting_links {w : Deliveries} (h : b.LinksOk e (.proper _ a)) : (setWaiting b w).LinksOk e (.proper _ a) := h

theorem occupancyRise_links {t : Track} (h : b.LinksOk e (.proper _ a)) : (occupancyRise e b t).LinksOk e (.proper _ a) := by
  unfold occupancyRise
  split
  · exact .ite (arrive_links (setWaiting_links h)) h
  · exact h

theorem occupancyFall_links {t : Track} (h : b.LinksOk e (.proper _ a)) : (occupancyFall e b t).LinksOk e (.proper _ a) := by
  unfold occupancyFall
  split
  · exact .ite (depart_links (setWaiting_links h)) h
  · exact h

theorem plungerRise_links {t : Track} (h : b.LinksOk e (.proper _ a)) : (plungerRise e b t).LinksOk e (.proper _ a) := by
  unfold plungerRise
  split
  · exact .ite (plungerPress_links (setWaiting_links h)) h
  · exact h

theorem plungerFall_links {t : Track} (h : b.LinksOk e (.proper _ a)) : (plungerFall e b t).LinksOk e (.proper _ a) := by
  unfold plungerFall
  split
  · exact .ite (queueReport_links (setWaiting_links h)) h
  · exact h

theorem breakerSettles_links {br : Breaker} {isClosed : Bool} (h : b.LinksOk e (.proper _ a)) :
    (breakerSettles e b br isClosed).LinksOk e (.proper _ a) := by
  unfold breakerSettles
  split
  · exact .ite (settleBreaker_links (setWaiting_links h)) h
  · exact h

theorem breakerMoves_links {br : Breaker} {isClosed : Bool} (h : b.LinksOk e (.proper _ a)) :
    (breakerMoves e b br isClosed).LinksOk e (.proper _ a) := by
  unfold breakerMoves
  split
  · exact .ite (breakerChange_links (setWaiting_links h)) h
  · exact h

theorem keyMoves_links {isSet : Bool} (h : b.LinksOk e (.proper _ a)) : (keyMoves e b isSet).LinksOk e (.proper _ a) :=
  .ite (keyLevel_links (setWaiting_links h)) h

theorem deliverStatus_links {br : Breaker} (h : b.LinksOk e (.proper _ a)) : (deliverStatus e b br).LinksOk e (.proper _ a) := by
  unfold deliverStatus
  split
  · exact .ite (breakerSettles_links h) (breakerMoves_links h)
  · exact h

theorem deliverKey_links (h : b.LinksOk e (.proper _ a)) : (deliverKey e b).LinksOk e (.proper _ a) := by
  unfold deliverKey
  split
  · exact keyMoves_links h
  · exact h

theorem deliverAll_links (h : b.LinksOk e (.proper _ a)) : (deliverAll e b).LinksOk e (.proper _ a) := by
  refine deliverKey_links (.foldl ?_ (fun _ _ h => deliverStatus_links h) _)
  refine .foldl ?_ (fun _ _ h => plungerFall_links (plungerRise_links h)) _
  exact .foldl h (fun _ _ h => occupancyFall_links (occupancyRise_links h)) _

theorem setField_links {f : FieldState} (h : b.LinksOk e (.proper _ a)) : (b.setField f).LinksOk e (.proper _ a) := h

theorem sampleStatus_links {l : InputLevels} {br : Breaker} (h : b.LinksOk e (.proper _ a)) : (sampleStatus e l b br).LinksOk e (.proper _ a) := by
  unfold sampleStatus
  split
  · exact setField_links h
  · exact h

theorem samplingPoint_links {l : InputLevels} (h : b.LinksOk e (.proper _ a)) : (samplingPoint e b l).LinksOk e (.proper _ a) := by
  refine setField_links (.foldl ?_ (fun _ _ h => sampleStatus_links h) _)
  refine .foldl ?_ (fun _ _ h => setField_links h) _
  exact .foldl (deliverAll_links h) (fun _ _ h => .ite (setField_links h) h) _

end

end Sys2Proof.Machine

/-! SUPPORT. The advance, the node-state requests, the station port and every command keep the queues of the two links. -/

namespace Sys2Proof.Machine

section
variable {e : Env} {a : List AnswerFrame} {b : Blocks} {n : Node}

/-! ### An advance (R5, R8) -/

/-- Only the node state of an `Env` bears on the queues (R39). -/
theorem Blocks.LinksOk.of_env {x : Env} (h : b.LinksOk x (.proper _ a)) (hs : e.nodeState = .configuring ↔ x.nodeState = .configuring) :
    b.LinksOk e (.proper _ a) :=
  ⟨h.port, h.answers, h.bus.full, h.bus.ranked, by rw [hs]; exact h.bus.off, h.bus.agrees, h.bus.oneStatus⟩

theorem settle_links (h : b.LinksOk e (.proper _ a)) : (settle e b).LinksOk e (.proper _ a) := by
  unfold settle
  refine .foldl ?_ (fun _ _ h => stopStep_links h) _
  refine .foldl ?_ (fun _ _ h => deadlineStep_links h) _
  refine .foldl ?_ (fun _ _ h => expiryStep_links h) _
  refine .foldl ?_ (fun _ _ h => notBeforeStep_links h) _
  refine .foldl ?_ (fun _ _ h => copyDropStep_links h) _
  refine .foldl ?_ (fun _ _ h => localAgeStep_links h) _
  refine .foldl ?_ (fun _ _ h => refreshStep_links h) _
  refine .foldl ?_ (fun _ _ h => watchHeld_links h) _
  refine .foldl ?_ (fun _ _ h => graceStep_links h) _
  refine .foldl ?_ (fun _ _ h => staggerStep_links h) _
  refine .foldl ?_ (fun _ _ h => targetStep_links h) _
  refine .foldl ?_ (fun _ _ h => stallCheck_links h) _
  refine .foldl ?_ (fun _ _ h => lapseStep_links h) _
  refine .foldl ?_ (fun _ _ h => lostStep_links h) _
  refine .foldl ?_ (fun _ _ h => staleStep_links h) _
  refine errorReportStep_links (statusStep_links ?_)
  refine .foldl ?_ (fun _ _ h => waitStep_links h) _
  refine .foldl ?_ (fun _ _ h => repeatStep_links h) _
  refine .foldl ?_ (fun _ _ h => limitStep_links h) _
  exact .foldl (deliverAll_links h) (fun _ _ h => thirdStep_links h) _

theorem tick_links {configured : Bool} {before after : Nat} (h : b.LinksOk e (.proper _ a)) :
    (b.tick configured before after).LinksOk e (.proper _ a) :=
  ⟨h.port, h.answers, h.bus.of_eq⟩

theorem advance_linksProper (h : n.LinksProper) : (advance n).LinksProper := by
  have ticked {configured : Bool} {before after : Nat} := tick_links (configured := configured) (before := before) (after := after)
    (settle_links h.blk)
  refine Blocks.LinksOk.node (a := n.blk.port.answers) ?_
  exact .ite (queueReport_links (ticked.of_env .rfl)) (ticked.of_env .rfl)

/-- What changes of an `Env` leaves the node state, and what changes of the blocks are reports. -/
theorem Node.LinksProper.reports {x y : Env} {r : ReportBody} (h : n.LinksProper) (hs : x.nodeState = n.env.nodeState := by rfl) :
    (Node.mk x (queueReport y n.blk r)).LinksProper :=
  (queueReport_links (h.blk.of_env (by rw [hs]))).node

theorem Node.LinksProper.moved {x : Env} (h : n.LinksProper) (hs : x.nodeState = n.env.nodeState := by rfl) :
    (Node.mk x n.blk).LinksProper := (h.blk.of_env (by rw [hs])).node

theorem clockPulse_linksProper (since : Nat) (h : n.LinksProper) : (clockPulse n since).LinksProper := by
  unfold clockPulse
  split
  · exact advance_linksProper h
  · dsimp only
    split
    · split
      · exact h.reports
      · exact h.moved
    · split
      · exact h.reports
      · exact h.moved

theorem pulseTimeout_linksProper (h : n.LinksProper) : (pulseTimeout n).LinksProper := by
  unfold pulseTimeout
  split
  · dsimp only
    exact (advance_linksProper (advance_linksProper h.moved)).reports
  · exact h

theorem oscillatorAdvance_linksProper (h : n.LinksProper) : (oscillatorAdvance n).LinksProper := by
  unfold oscillatorAdvance
  split
  · exact advance_linksProper h
  · exact h

/-! ### The requests that move the node between its states (R11 to R14) -/

theorem discardBreaker_links {x : Env} {br : Breaker} (h : b.LinksOk e (.proper _ a)) : (discardBreaker x b br).LinksOk e (.proper _ a) := .ite h h

theorem trimLocal_links {id : IncidentId} (h : b.LinksOk e (.proper _ a)) : (trimLocal e b id).LinksOk e (.proper _ a) := by
  unfold trimLocal
  split
  · refine .ite (.ite (closeRecord_links h) ?_) h
    exact reportIncident_links (tellChange_links (modifyRecord_links h))
  · exact h

theorem deferredSend_links {x : IncidentId × TractionSection} (h : b.LinksOk e (.proper _ a)) : (deferredSend e b x).LinksOk e (.proper _ a) := by
  unfold deferredSend
  split
  · exact .ite (sendIsolate_links h) h
  · exact h

theorem offerStanding_links {r : Incident} (h : b.LinksOk e (.proper _ a)) : (offerStanding e b r).LinksOk e (.proper _ a) := by
  unfold offerStanding
  split
  · exact .ite (offerEvacuate_links h) h
  · exact offerDelay_links h
  · exact h

/-- CONFIGURE: up to the transmitter's leaving OFF the queues stand as CONFIGURING had them (R49). -/
theorem applyConfigure_links {x : Env} (h : b.LinksOk x (.proper _ a)) (before : x.nodeState = .configuring) (after : e.nodeState ≠ .configuring) :
    (applyConfigure e b).LinksOk e (.proper _ a) := by
  have discarded : ([Breaker.uh, Breaker.dh].foldl (discardBreaker e) b).LinksOk x (.proper _ a) := .foldl h (fun _ _ h => discardBreaker_links h) _
  unfold applyConfigure
  refine raiseStandingLost_links (.foldl ?_ (fun _ _ h => offerStanding_links h) _)
  refine setAnnounce_links (.foldl ?_ (fun _ _ h => queueIncidentFrame_links h) _)
  refine .foldl ?_ (fun _ _ h => deferredSend_links h) _
  refine .foldl ?_ (fun _ _ h => removeCopy_links h) _
  refine .foldl ?_ (fun _ _ h => trimLocal_links h) _
  exact enableBus_links (toldStarts_links (setPeers_links (setField_links discarded))) before after

theorem suspendAgain_links {t : Track} (h : b.LinksOk e (.proper _ a)) : (suspendAgain e b t).LinksOk e (.proper _ a) := by
  unfold suspendAgain
  split
  · exact .ite (offerSuspend_links h) h
  · exact h

theorem clearQueue_links {t : Track} (h : b.LinksOk e (.proper _ a)) : (clearQueue e b t).LinksOk e (.proper _ a) :=
  .foldl (setApproach_links h) (fun _ _ h => closeOwned_links h) _

theorem resetFailed_links {br : Breaker} (h : b.LinksOk e (.proper _ a)) : (resetFailed e b br).LinksOk e (.proper _ a) := by
  unfold resetFailed
  split
  · exact .ite (setCondition_links (modifyBreaker_links h)) h
  · exact h

theorem resetPlatform_links {t : Track} (h : b.LinksOk e (.proper _ a)) : (resetPlatform b t).LinksOk e (.proper _ a) := h

theorem applyReset_links (h : b.LinksOk e (.proper _ a)) : (applyReset e b).LinksOk e (.proper _ a) := by
  unfold applyReset
  refine raiseStandingLost_links (.foldl (closeWhere_links (setPeers_links ?_)) (fun _ _ h => openIfLocked_links h) _)
  refine .foldl (.foldl (removeFrames_links (setField_links ?_)) (fun _ _ h => clearWait_links h) _) (fun _ _ h => resetFailed_links h) _
  refine .foldl (resetAnnouncer_links ?_) (fun _ _ h => resetPlatform_links h) _
  exact .foldl (setTimetable_links h) (fun _ _ h => setApproach_links h) _

/-- A port whose answers are not full has room for one more (R214). -/
theorem Port.answers_lt {p : Port} (room : ¬ p.answersFull = true) : p.answers.length < Config.answerMax :=
  Nat.lt_of_not_le fun full => room (decide_eq_true full)

/-- An owner of requests keeps the queues in the node states that its row permits, and queues no answer itself (R214). -/
def OwnerKeepsLinks (p : Allowed) (owner : Node → Node × Reply) : Prop :=
  ∀ {n : Node}, n.LinksProper → p.permits n.env.nodeState = true →
    (owner n).1.LinksProper ∧ (owner n).1.blk.port.answers = n.blk.port.answers

theorem Blocks.LinksOk.owned (h : b.LinksOk e (.proper _ n.blk.port.answers)) :
    (Node.mk e b).LinksProper ∧ (Node.mk e b).blk.port.answers = n.blk.port.answers := ⟨h.node, h.answers⟩

theorem Node.LinksProper.refused (h : n.LinksProper) : n.LinksProper ∧ n.blk.port.answers = n.blk.port.answers := ⟨h, rfl⟩

theorem configure_links (r : RawConfig) : OwnerKeepsLinks .configuringOnly (configure · r) := by
  intro n h hp
  have before : n.env.nodeState = .configuring := by
    cases hs : n.env.nodeState <;> simp_all [Allowed.permits]
  dsimp only
  unfold configure
  split
  · exact h.refused
  · exact (applyConfigure_links (deliverAll_links h.blk) before (by simp)).owned

theorem dayStart_links (day start : Nat) : OwnerKeepsLinks .readyOnly (dayStart · day start) := by
  intro n h hp
  have before : n.env.nodeState = .ready := by
    cases hs : n.env.nodeState <;> simp_all [Allowed.permits]
  have served (t : TimeBase) : n.blk.LinksOk { n.env with nodeState := .service, time := t } (.proper _ n.blk.port.answers) :=
    h.blk.of_env (by simp [before])
  dsimp only
  unfold dayStart
  split
  · split
    · exact h.refused
    · refine Blocks.LinksOk.owned (.foldl (emptyStarts_links (.foldl ?_ (fun _ _ h => setPlatform_links h) _))
        (fun _ _ h => suspendAgain_links h) _)
      exact setAnnounce_links (.ite (queueReport_links (served _)) (served _))
  all_goals exact h.refused

theorem dayEnd_links : OwnerKeepsLinks .serviceOnly dayEnd := by
  intro n h hp
  have before : n.env.nodeState = .service := by
    cases hs : n.env.nodeState <;> simp_all [Allowed.permits]
  have delivered : (deliverAll n.env n.blk).LinksOk n.env (.proper _ n.blk.port.answers) := deliverAll_links h.blk
  unfold dayEnd
  dsimp only
  split
  · refine Blocks.LinksOk.owned (.foldl (closeWhere_links ?_) (fun _ _ h => setPlatform_links h) _)
    exact .foldl (setTimetable_links (delivered.of_env (by simp [before]))) (fun _ _ h => clearQueue_links h) _
  · exact delivered.owned

theorem serviceReset_links : OwnerKeepsLinks .configured serviceReset := by
  intro n h hp
  have before : n.env.nodeState ≠ .configuring := by
    rintro hs
    simp [hs, Allowed.permits] at hp
  have delivered : (deliverAll n.env n.blk).LinksOk n.env (.proper _ n.blk.port.answers) := deliverAll_links h.blk
  unfold serviceReset
  dsimp only
  split
  · exact delivered.owned
  · exact (applyReset_links (delivered.of_env (by simp [before]))).owned

/-! ### The station port (chapter 11) -/

theorem plainOwner_links {f : Env → Blocks → Blocks × Status} {p : Allowed}
    (hf : ∀ {e b a}, Blocks.LinksOk e (.proper _ a) b → (f e b).1.LinksOk e (.proper _ a)) :
    OwnerKeepsLinks p (plainOwner f) := fun h _ => (hf h.blk).owned

theorem fieldOwner_links {f : Env → Blocks → Blocks × Reply} {p : Allowed}
    (hf : ∀ {e b a}, Blocks.LinksOk e (.proper _ a) b → (f e b).1.LinksOk e (.proper _ a)) :
    OwnerKeepsLinks p (fieldOwner f) := fun h _ => (hf h.blk).owned

/-- A request is counted; with four answers waiting it is an overrun, and else its owner's answer joins the queue (R211, R214). -/
theorem request_linksProper {ch : PortChannel} {kind : Nat} {tag : Byte} {payload : List Byte} {shape : Bool} {p : Allowed}
    {owner : Node → Node × Reply} (hp : OwnerKeepsLinks p owner) (h : n.LinksProper) :
    (request n ch kind tag payload shape p owner).LinksProper := by
  have counted : ({ n with blk := n.blk.setPort n.blk.port.completed } : Node).LinksProper := ⟨h.port.of_eq, h.bus⟩
  unfold request
  split
  · dsimp only
    split
    case isTrue =>
      have overrun : (n.blk.setPort n.blk.port.completed.countOverrun).LinksOk n.env (.proper _ n.blk.port.answers) :=
        ⟨counted.port.of_eq, rfl, h.bus⟩
      exact (queueReport_links overrun).node
    case isFalse room =>
      have dispatched (m : Node) (hm : m.LinksProper) :
          (dispatch m shape p owner).1.LinksProper ∧ (dispatch m shape p owner).1.blk.port.answers = m.blk.port.answers := by
        unfold dispatch
        split
        · exact hm.refused
        · split
          · exact hm.refused
          case isFalse permitted => exact hp hm (by simpa using permitted)
      obtain ⟨kept, answers⟩ := dispatched _ counted
      refine ⟨kept.port.pushAnswer ?_ _, kept.bus⟩
      rw [answers]
      exact Port.answers_lt room
  · exact h

theorem onTrack_links {code : Nat} {f : Track → Blocks × Status} (h : b.LinksOk e (.proper _ a)) (hf : ∀ t, (f t).1.LinksOk e (.proper _ a)) :
    (onTrack b code f).1.LinksOk e (.proper _ a) := by
  unfold onTrack
  split
  · exact hf _
  · exact h

theorem ownRestore_links {sec : Option TractionSection} {id : Option IncidentId} {force : Nat} (h : b.LinksOk e (.proper _ a)) :
    (ownRestore e b sec id force).1.LinksOk e (.proper _ a) := by
  unfold ownRestore
  split
  · exact h
  · exact restoreRequest_links h

theorem raiseRequest_links {x : Option Raise} (h : b.LinksOk e (.proper _ a)) : (raiseRequest e b x).1.LinksOk e (.proper _ a) := by
  cases x with
  | none => exact h
  | some x =>
    have raised : (raiseIncident e b x none).1.LinksOk e (.proper _ a) := raiseIncident_links h
    unfold raiseRequest
    dsimp only
    split
    all_goals
      rename_i heq
      rw [heq] at raised
      exact raised

theorem announceRequest_links {x : AnnounceRequest} (h : b.LinksOk e (.proper _ a)) : (announceRequest e b x).1.LinksOk e (.proper _ a) := by
  unfold announceRequest
  split
  · exact h
  case h_2 o _ =>
    split
    · exact h
    · split
      · exact admitZones_links h
      case h_2 range _ =>
        have sent : (queueFrame e b (announceFrameOf x o range)).LinksOk e (.proper _ a) := queueFrame_links h rfl
        dsimp only
        split
        · exact admitZones_links sent
        · exact sent

theorem setFramer_linksProper {x : Assembly} {quiet : Nat} (h : n.LinksProper) : (Node.mk n.env (setFramer n.blk x quiet)).LinksProper :=
  ⟨h.port.of_eq, h.bus⟩

theorem truncated_linksProper {x : Assembly} {quiet : Nat} (h : n.LinksProper) :
    (Node.mk n.env (countPortTruncated (setFramer n.blk x quiet))).LinksProper := ⟨h.port.of_eq, h.bus⟩

theorem portGap_linksProper (heard : List Byte) (quiet : Nat) (h : n.LinksProper) : (Node.mk n.env (portGap n.blk heard quiet)).LinksProper := by
  unfold portGap
  dsimp only
  split
  · exact h
  · split
    · exact setFramer_linksProper h
    · split
      · exact setFramer_linksProper h
      · exact setFramer_linksProper h
      · exact truncated_linksProper h

theorem portError_linksProper (heard : List Byte) (h : n.LinksProper) : (Node.mk n.env (portError n.blk heard)).LinksProper := by
  unfold portError
  dsimp only
  split
  · exact h
  · split
    · exact setFramer_linksProper h
    · exact setFramer_linksProper h
    · exact truncated_linksProper h

theorem Port.countNak_bounded {p : Port} (h : p.Bounded) (code : NakCode) : (p.countNak code).Bounded := by
  cases code <;> exact h.of_eq

/-- A NAK joins the answers where one more has room (R210). -/
theorem Port.nak_bounded {p : Port} (h : p.Bounded) (code : NakCode) (channel kind tag : Byte) : (p.nak code channel kind tag).Bounded := by
  have counted := countNak_bounded h code
  unfold Port.nak
  dsimp only
  split
  case isTrue => exact counted.of_eq
  case isFalse room => exact counted.pushAnswer (Port.answers_lt room) _

theorem portLength_linksProper (len : Byte) (h : n.LinksProper) : (Node.mk n.env (portLength n.blk len)).LinksProper := by
  unfold portLength
  split
  · exact ⟨Port.nak_bounded (setFramer_linksProper h).port .., h.bus⟩
  · exact h

theorem portNak_linksProper (channel kind tag : Byte) (payload : List Byte) (check : Check) (h : n.LinksProper) :
    (Node.mk n.env (portNak n.blk channel kind tag payload check)).LinksProper := by
  unfold portNak
  split
  · split
    · exact ⟨Port.nak_bounded (setFramer_linksProper h).port .., h.bus⟩
    · exact h
  · exact h

/-- The transmitter goes on with the oldest answer, else with the oldest report, else to IDLE (R214). -/
theorem Port.takeNext_bounded {p : Port} (h : p.Bounded) : p.takeNext.Bounded := by
  have answers := h.answers
  have reports := h.reports
  unfold Port.takeNext
  split
  case h_1 f rest ha =>
    rw [ha] at answers
    exact ⟨Nat.le_of_succ_le answers, reports, h.discard, fun hn => nomatch hn⟩
  case h_2 ha =>
    split
    case h_1 r rest hr =>
      rw [hr] at reports
      exact ⟨answers, Nat.le_of_succ_le reports, Nat.zero_le _, fun hn => nomatch hn⟩
    case h_2 hr => exact ⟨answers, reports, h.discard, fun _ => ⟨ha, hr⟩⟩

theorem portEnd_linksProper (h : n.LinksProper) : (Node.mk n.env (portEnd n.blk)).LinksProper := by
  unfold portEnd
  split
  case h_1 out _ =>
    have counted : (n.blk.port.countSent out).Bounded := by cases out <;> exact h.port.of_eq
    exact ⟨Port.takeNext_bounded counted, h.bus⟩
  case h_2 => exact h

/-! ### Every command -/

theorem exec_linksProper (c : Instr) {q : List Instr} {t : State} (h : n.LinksProper) (ht : exec c ⟨n, q⟩ = .next t) :
    t.node.LinksProper := by
  have kept {b : Blocks} (hb : b.LinksOk n.env (.proper _ n.blk.port.answers)) : ({ n with blk := b } : Node).LinksProper := hb.node
  cases c with
  | powerOnReset straps => cases ht; exact atReset_linksProper _
  | clockPulse since => cases ht; exact clockPulse_linksProper since h
  | pulseTimeout => cases ht; exact pulseTimeout_linksProper h
  | oscillatorAdvance => cases ht; exact oscillatorAdvance_linksProper h
  | occupancyRise t => cases ht; exact kept (occupancyRise_links h.blk)
  | departure t => cases ht; exact kept (occupancyFall_links h.blk)
  | samplingPoint levels => cases ht; exact kept (samplingPoint_links h.blk)
  | linebusOtherCharacter char => cases ht; exact kept (otherCharacter_links h.blk)
  | plungerPress t => cases ht; exact kept (plungerRise_links h.blk)
  | plungerRelease t => cases ht; exact kept (plungerFall_links h.blk)
  | breakerSettlement br isClosed => cases ht; exact kept (breakerSettles_links h.blk)
  | breakerStatusChange br isClosed => cases ht; exact kept (breakerMoves_links h.blk)
  | localKeyChange isSet => cases ht; exact kept (keyMoves_links h.blk)
  | pulseEnd br => cases ht; exact kept (endPulse_links h.blk)
  | thirdAdvanceOpen br => cases ht; exact kept (thirdStep_links h.blk)
  | breakerTimeLimit br => cases ht; exact kept (limitStep_links h.blk)
  | isolateRepeat id sec => cases ht; exact kept (repeatStep_links h.blk)
  | restoreWaitTimeout br => cases ht; exact kept (waitStep_links h.blk)
  | attemptBegin idle => cases ht; exact kept (attemptBegin_links h.blk)
  | backoffRetry idle => cases ht; exact kept (backoffRetry_links h.blk)
  | collision cause heard => cases ht; exact kept (collide_links h.blk)
  | frameSent => cases ht; exact kept (frameSent_links h.blk)
  | statusPoint => cases ht; exact kept (statusStep_links h.blk)
  | lineIdle heard idle => cases ht; exact kept (lineIdle_links h.blk)
  | linebusCharacterError heard => cases ht; exact kept (characterError_links h.blk)
  | linebusLengthError source cls len => cases ht; exact kept (lengthError_links h.blk)
  | linebusFrameDiscarded source cls payload check => cases ht; exact kept (discardFrame_links h.blk)
  | frameErrorReport => cases ht; exact kept (errorReportStep_links h.blk)
  | statusFrame source payload => cases ht; exact kept (receiveFrame_links h.blk)
  | powerFrame source payload => cases ht; exact kept (receiveFrame_links h.blk)
  | isolateFrame source payload => cases ht; exact kept (receiveFrame_links h.blk)
  | restoreFrame source payload => cases ht; exact kept (receiveFrame_links h.blk)
  | incidentFrame source payload => cases ht; exact kept (receiveFrame_links h.blk)
  | departFrame source payload => cases ht; exact kept (receiveFrame_links h.blk)
  | announceFrame source payload => cases ht; exact kept (receiveFrame_links h.blk)
  | peerStale node => cases ht; exact kept (staleStep_links h.blk)
  | peerLost node => cases ht; exact kept (lostStep_links h.blk)
  | lapse node => cases ht; exact kept (lapseStep_links h.blk)
  | overdueInstant t => cases ht; exact kept (stallCheck_links h.blk)
  | dwellTargetReached t => cases ht; exact kept (targetStep_links h.blk)
  | staggerTimeReached t => cases ht; exact kept (staggerStep_links h.blk)
  | graceExpiry t => cases ht; exact kept (graceStep_links h.blk)
  | wmaxReached t => cases ht; exact kept (watchHeld_links h.blk)
  | refresh id => cases ht; exact kept (refreshStep_links h.blk)
  | localAgeClose id => cases ht; exact kept (localAgeStep_links h.blk)
  | copyDrop id => cases ht; exact kept (copyDropStep_links h.blk)
  | notBeforeReached message => cases ht; exact kept (notBeforeStep_links h.blk)
  | messageExpiry message => cases ht; exact kept (expiryStep_links h.blk)
  | playDeadline channel => cases ht; exact kept (deadlineStep_links h.blk)
  | stopTimeout channel => cases ht; exact kept (stopStep_links h.blk)
  | portFrameGap heard quietUs => cases ht; exact portGap_linksProper _ _ h
  | portCharacterError heard => cases ht; exact portError_linksProper _ h
  | portLengthError len => cases ht; exact portLength_linksProper _ h
  | nak channel kind tag payload check => cases ht; exact portNak_linksProper _ _ _ _ _ h
  | portFrameEnd => cases ht; exact portEnd_linksProper h
  | configure tag payload => cases ht; exact request_linksProper (configure_links _) h
  | dayStart tag payload => cases ht; exact request_linksProper (dayStart_links _ _) h
  | dayEnd tag payload => cases ht; exact request_linksProper dayEnd_links h
  | serviceReset tag payload => cases ht; exact request_linksProper serviceReset_links h
  | readStatus tag payload => cases ht; exact request_linksProper (fieldOwner_links fun h => h) h
  | alarmAck tag payload => cases ht; exact request_linksProper (plainOwner_links fun h => setAlarm_links h) h
  | timetablePart tag payload => cases ht; exact request_linksProper (fieldOwner_links fun h => takePart_links h) h
  | amendChange tag payload => cases ht; exact request_linksProper (plainOwner_links fun h => amendChange_links h) h
  | amendCancel tag payload => cases ht; exact request_linksProper (plainOwner_links fun h => amendCancel_links h) h
  | amendInsert tag payload => cases ht; exact request_linksProper (plainOwner_links fun h => amendInsert_links h) h
  | inject tag payload => cases ht; exact request_linksProper (plainOwner_links fun h => injectTrain_links h) h
  | flush tag payload => cases ht; exact request_linksProper (plainOwner_links fun h => flushTrain_links h) h
  | hold tag payload => cases ht; exact request_linksProper (plainOwner_links fun h => onTrack_links h fun _ => holdPlatform_links h) h
  | unhold tag payload => cases ht; exact request_linksProper (plainOwner_links fun h => onTrack_links h fun _ => unholdPlatform_links h) h
  | release tag payload => cases ht; exact request_linksProper (plainOwner_links fun h => onTrack_links h fun _ => releasePlatform_links h) h
  | readPlatform tag payload => cases ht; exact request_linksProper (fieldOwner_links fun h => h) h
  | isolate tag payload => cases ht; exact request_linksProper (plainOwner_links fun h => isolateRequest_links h) h
  | restore tag payload => cases ht; exact request_linksProper (plainOwner_links fun h => ownRestore_links h) h
  | readPower tag payload => cases ht; exact request_linksProper (fieldOwner_links fun h => h) h
  | raise tag payload => cases ht; exact request_linksProper (fieldOwner_links fun h => raiseRequest_links h) h
  | acknowledge tag payload => cases ht; exact request_linksProper (plainOwner_links fun h => acknowledgeIncident_links h) h
  | close tag payload => cases ht; exact request_linksProper (plainOwner_links fun h => closeIncident_links h) h
  | adopt tag payload => cases ht; exact request_linksProper (plainOwner_links fun h => adoptIncident_links h) h
  | change tag payload => cases ht; exact request_linksProper (plainOwner_links fun h => changeIncident_links h) h
  | readIncidents tag payload => cases ht; exact request_linksProper (fieldOwner_links fun h => h) h
  | announce tag payload => cases ht; exact request_linksProper (fieldOwner_links fun h => announceRequest_links h) h
  | withdraw tag payload => cases ht; exact request_linksProper (plainOwner_links fun h => withdrawRequest_links h) h
  | audioDone tag payload => cases ht; exact request_linksProper (plainOwner_links fun h => audioDoneRequest_links h) h
  | audioFailed tag payload => cases ht; exact request_linksProper (plainOwner_links fun h => audioFailedRequest_links h) h
  | audioStopped tag payload => cases ht; exact request_linksProper (plainOwner_links fun h => audioStoppedRequest_links h) h
  | audioReset tag payload => cases ht; exact request_linksProper (plainOwner_links fun h => audioResetRequest_links h) h

end

/-- Settles O57: whatever the command, every operation that it runs keeps the bounds of the port and of the outbound queue. -/
theorem stepKeepsLinksProper : Obligations.StepKeepsLinksProper := by
  rintro ⟨n, q⟩ t h ht
  cases q with
  | nil => cases ht; exact h
  | cons c rest => exact exec_linksProper c h ht

end Sys2Proof.Machine

/-! SUPPORT. The characters of linebus payloads, field by field: what is sent is read back, and what is read was sent so (R28, R34). -/

namespace Sys2Proof.Machine

/-! ### Numbers -/

@[simp] theorem char_of_toNat (c : Byte) : char c.toNat = c := by simp [char]

theorem toNat_char {v : Nat} (h : v < 256) : (char v).toNat = v := by simpa [char] using h

theorem char_eq_ones_iff {v : Nat} (h : v < 256) : char v = 255#8 ↔ v = 255 := by
  rw [← BitVec.toNat_inj, toNat_char h]
  rfl

theorem num_one (c : Byte) : num [c] = c.toNat := by simp [num]

theorem num_two (a b : Byte) : num [a, b] = a.toNat * 256 + b.toNat := by simp [num]

theorem num_three (a b c : Byte) : num [a, b, c] = (a.toNat * 256 + b.toNat) * 256 + c.toNat := by simp [num]

theorem char_eq_of_mod {v : Nat} {c : Byte} (h : v % 256 = c.toNat) : char v = c := BitVec.eq_of_toNat_eq (by simpa [char] using h)

theorem chars2_num (a b : Byte) : chars2 (num [a, b]) = [a, b] := by
  have ha := a.isLt
  have hb := b.isLt
  rw [num_two, chars2, char_eq_of_mod (c := a) (by omega), char_eq_of_mod (c := b) (by omega)]

theorem chars3_num (a b c : Byte) : chars3 (num [a, b, c]) = [a, b, c] := by
  have ha := a.isLt
  have hb := b.isLt
  have hc := c.isLt
  rw [num_three, chars3, char_eq_of_mod (c := a) (by omega), char_eq_of_mod (c := b) (by omega), char_eq_of_mod (c := c) (by omega)]

theorem num_chars2 {v : Nat} (h : v < 65536) : num [char (v / 256), char v] = v := by
  simp only [num_two, char, BitVec.toNat_ofNat]
  omega

theorem num_chars3 {v : Nat} (h : v < 16777216) : num [char (v / 65536), char (v / 256), char v] = v := by
  simp only [num_three, char, BitVec.toNat_ofNat]
  omega

/-! ### Optional fields -/

theorem opt1_readOpt (a : Byte) : opt1 (readOpt [a]) = [a] := by
  by_cases h : a = 255#8
  · subst h; rfl
  · simp [readOpt, h, opt1, chars1, num_one]

theorem opt2_readOpt (a b : Byte) : opt2 (readOpt [a, b]) = [a, b] := by
  by_cases h : a = 255#8 ∧ b = 255#8
  · obtain ⟨rfl, rfl⟩ := h; rfl
  · simp [readOpt, h, opt2, chars2_num]

theorem opt3_readOpt (a b c : Byte) : opt3 (readOpt [a, b, c]) = [a, b, c] := by
  by_cases h : a = 255#8 ∧ b = 255#8 ∧ c = 255#8
  · obtain ⟨rfl, rfl, rfl⟩ := h; rfl
  · simp [readOpt, h, opt3, chars3_num]

/-- An optional number below all ones, in one character, and as it reads. -/
theorem opt1_reads {o : Option Nat} (h : ∀ v ∈ o, v < 255) : ∃ a, opt1 o = [a] ∧ readOpt [a] = o := by
  cases o with
  | none => exact ⟨0xFF, rfl, rfl⟩
  | some v =>
    have bound := h v rfl
    refine ⟨char v, rfl, ?_⟩
    have absent : ¬ char v = 255#8 := by rw [char_eq_ones_iff (by omega)]; omega
    simp [readOpt, absent, num_one, toNat_char (show v < 256 by omega)]

/-- An optional number below all ones, in two characters, and as it reads. -/
theorem opt2_reads {o : Option Nat} (h : ∀ v ∈ o, v < 65280) : ∃ a b, opt2 o = [a, b] ∧ readOpt [a, b] = o := by
  cases o with
  | none => exact ⟨0xFF, 0xFF, rfl, rfl⟩
  | some v =>
    have bound := h v rfl
    refine ⟨_, _, rfl, ?_⟩
    have absent : ¬ char (v / 256) = 255#8 := by rw [char_eq_ones_iff (by omega)]; omega
    simp [readOpt, absent, num_chars2 (show v < 65536 by omega)]

/-- An optional number below all ones, in three characters, and as it reads. -/
theorem opt3_reads {o : Option Nat} (h : ∀ v ∈ o, v < 16711680) : ∃ a b c, opt3 o = [a, b, c] ∧ readOpt [a, b, c] = o := by
  cases o with
  | none => exact ⟨0xFF, 0xFF, 0xFF, rfl, rfl⟩
  | some v =>
    have bound := h v rfl
    refine ⟨_, _, _, rfl, ?_⟩
    have absent : ¬ char (v / 65536) = 255#8 := by rw [char_eq_ones_iff (by omega)]; omega
    simp [readOpt, absent, num_chars3 (show v < 16777216 by omega)]

@[simp] theorem keep_eq_some {α : Type} {p : Bool} {x y : α} : keep p x = some y ↔ p = true ∧ x = y := by
  cases p <;> simp [keep]

theorem parseOpt_eq_some {α : Type} {absent : Bool} {value : Option α} {o : Option α} :
    parseOpt absent value = some o ↔ (absent = true ∧ o = none) ∨ (absent = false ∧ ∃ v, value = some v ∧ o = some v) := by
  cases absent <;> simp [parseOpt, eq_comm]

/-! ### Codes -/

theorem flag_eq_of_le_one {v : Nat} (h : v ≤ 1) : flag (decide (v = 1)) = v := by
  rcases Nat.le_one_iff_eq_zero_or_eq_one.1 h with rfl | rfl <;> rfl

theorem flag_eq_one (f : Bool) : decide (flag f = 1) = f := by cases f <;> rfl

theorem flag_le_one (f : Bool) : flag f ≤ 1 := by cases f <;> decide

theorem Track.code_le (t : Track) : t.code ≤ 1 := by cases t <;> decide

theorem Track.ofCode_code (t : Track) : Track.ofCode t.code = some t := Track.ofCode_of_code rfl

theorem Track.code_of_ofCode {v : Nat} {t : Track} (h : Track.ofCode v = some t) : t.code = v := by
  unfold Track.ofCode at h
  split at h <;> cases h <;> rfl

theorem Breaker.code_lt (br : Breaker) : br.code < 4 := by cases br <;> decide

theorem Breaker.ofCode_code (br : Breaker) : Breaker.ofCode br.code = some br := by cases br <;> rfl

theorem Breaker.code_of_ofCode {v : Nat} {br : Breaker} (h : Breaker.ofCode v = some br) : br.code = v := by
  unfold Breaker.ofCode at h
  split at h <;> cases h <;> rfl

theorem BreakerState.code_lt (st : BreakerState) : st.code < 5 := by cases st <;> decide

theorem BreakerState.ofCode_code (st : BreakerState) : BreakerState.ofCode st.code = some st := by cases st <;> rfl

theorem BreakerState.code_of_ofCode {v : Nat} {st : BreakerState} (h : BreakerState.ofCode v = some st) : st.code = v := by
  unfold BreakerState.ofCode at h
  split at h <;> cases h <;> rfl

theorem ReportedBreaker.code_lt (r : ReportedBreaker) : r.code < 7 := by
  cases r with
  | known st => exact Nat.lt_trans st.code_lt (by decide)
  | unknown => decide
  | absent => decide

theorem ReportedBreaker.ofCode_code (r : ReportedBreaker) : ReportedBreaker.ofCode r.code = some r := by
  cases r with
  | known st => cases st <;> rfl
  | unknown => rfl
  | absent => rfl

theorem ReportedBreaker.code_of_ofCode {v : Nat} {r : ReportedBreaker} (h : ReportedBreaker.ofCode v = some r) : r.code = v := by
  unfold ReportedBreaker.ofCode at h
  split at h
  · cases h; rfl
  · cases h; rfl
  · obtain ⟨st, hst, rfl⟩ := Option.map_eq_some_iff.1 h
    exact BreakerState.code_of_ofCode hst

theorem PlatformState.code_lt (p : PlatformState) : p.code < 4 := by cases p <;> decide

theorem PlatformState.ofCode_code (p : PlatformState) : PlatformState.ofCode p.code = some p := by cases p <;> rfl

theorem PlatformState.code_of_ofCode {v : Nat} {p : PlatformState} (h : PlatformState.ofCode v = some p) : p.code = v := by
  unfold PlatformState.ofCode at h
  split at h <;> cases h <;> rfl

theorem TrackSet.code_lt (ts : TrackSet) : ts.code < 4 := by cases ts <;> decide

theorem TrackSet.ofCode_code (ts : TrackSet) : TrackSet.ofCode ts.code = some ts := by cases ts <;> rfl

theorem TrackSet.code_of_ofCode {v : Nat} {ts : TrackSet} (h : TrackSet.ofCode v = some ts) : ts.code = v := by
  unfold TrackSet.ofCode at h
  split at h <;> cases h <;> rfl

theorem IncidentKind.code_le (k : IncidentKind) : k.code ≤ 10 := by cases k <;> decide

theorem IncidentKind.ofCode_code (k : IncidentKind) : IncidentKind.ofCode k.code = some k := by cases k <;> rfl

theorem IncidentKind.code_of_ofCode {v : Nat} {k : IncidentKind} (h : IncidentKind.ofCode v = some k) : k.code = v := by
  unfold IncidentKind.ofCode at h
  split at h <;> cases h <;> rfl

theorem IncidentAction.code_lt (x : IncidentAction) : x.code < 5 := by cases x <;> decide

theorem IncidentAction.ofCode_code (x : IncidentAction) : IncidentAction.ofCode x.code = some x := by cases x <;> rfl

theorem IncidentAction.code_of_ofCode {v : Nat} {x : IncidentAction} (h : IncidentAction.ofCode v = some x) : x.code = v := by
  unfold IncidentAction.ofCode at h
  split at h <;> cases h <;> rfl

theorem ZoneSet.code_le (z : ZoneSet) : z.code ≤ 7 := by
  have up := flag_le_one z.up
  have down := flag_le_one z.down
  have concourse := flag_le_one z.concourse
  unfold ZoneSet.code
  omega

/-- Three flags in the three lowest places of a number. -/
theorem flags_of_code {v : Nat} (h : v < 8) :
    flag (decide (v % 2 = 1)) + 2 * flag (decide (v / 2 % 2 = 1)) + 4 * flag (decide (v / 4 % 2 = 1)) = v := by
  rw [flag_eq_of_le_one (v := v % 2) (by omega), flag_eq_of_le_one (v := v / 2 % 2) (by omega), flag_eq_of_le_one (v := v / 4 % 2) (by omega)]
  omega

theorem ZoneSet.ofCode_code {z : ZoneSet} (h : z.up = true ∨ z.down = true ∨ z.concourse = true) : ZoneSet.ofCode z.code = some z := by
  obtain ⟨up, down, concourse⟩ := z
  cases up <;> cases down <;> cases concourse
  case false.false.false => simp at h
  all_goals rfl

theorem ZoneSet.code_of_ofCode {v : Nat} {z : ZoneSet} (h : ZoneSet.ofCode v = some z) : z.code = v := by
  unfold ZoneSet.ofCode at h
  split at h
  case isTrue range =>
    cases h
    exact flags_of_code (by omega)
  case isFalse => cases h

/-! ### Sections, platforms and ids -/

theorem parseSection_sectionChar {n : Nat} (hn : n ≤ 32) {sec : TractionSection} (h : sectionFits n sec) :
    parseSection n (sectionChar sec) = some sec := by
  have track := Track.code_le sec.track
  unfold sectionFits at h
  have value : (sectionChar sec).toNat = sec.track.code * 128 + sec.gap := toNat_char (by omega)
  have top : (sectionChar sec).toNat / 128 = sec.track.code := by omega
  have low : (sectionChar sec).toNat % 32 = sec.gap := by omega
  have middle : (sectionChar sec).toNat / 32 % 4 = 0 := by omega
  simp only [parseSection, top, Track.ofCode_code, low, middle, h, and_self, if_true]

theorem sectionChar_of_parse {n : Nat} {c : Byte} {sec : TractionSection} (h : parseSection n c = some sec) : sectionChar sec = c := by
  unfold parseSection at h
  split at h
  case h_1 t ht =>
    split at h
    case isTrue range =>
      cases h
      have top := Track.code_of_ofCode ht
      exact char_eq_of_mod (by have := c.isLt; dsimp only; omega)
    case isFalse => cases h
  case h_2 => cases h

theorem parsePlatform_platformChar {n : Nat} (hn : n ≤ 32) {p : PlatformRef} (h : p.node < n) :
    parsePlatform n (platformChar p) = some p := by
  have track := Track.code_le p.track
  have value : (platformChar p).toNat = p.track.code * 128 + p.node := toNat_char (by omega)
  have top : (platformChar p).toNat / 128 = p.track.code := by omega
  have low : (platformChar p).toNat % 32 = p.node := by omega
  have middle : (platformChar p).toNat / 32 % 4 = 0 := by omega
  simp only [parsePlatform, top, Track.ofCode_code, low, middle, h, and_self, if_true]

theorem platformChar_of_parse {n : Nat} {c : Byte} {p : PlatformRef} (h : parsePlatform n c = some p) : platformChar p = c := by
  unfold parsePlatform at h
  split at h
  case h_1 t ht =>
    split at h
    case isTrue range =>
      cases h
      have top := Track.code_of_ofCode ht
      exact char_eq_of_mod (by have := c.isLt; dsimp only; omega)
    case isFalse => cases h
  case h_2 => cases h

/-- A section or a platform of a line of at most 32 nodes does not read as absent. -/
theorem trackChar_ne_ones {n : Nat} (hn : n ≤ 32) {v : Nat} (hv : v < n) (t : Track) : char (t.code * 128 + v) ≠ 255#8 := by
  have track := Track.code_le t
  rw [Ne, char_eq_ones_iff (by omega)]
  omega

theorem parseId_chars {n : Nat} (hn : n ≤ 32) {id : IncidentId} (h : idFits n id) :
    parseId n (char id.origin) (char id.serial) = some id := by
  obtain ⟨origin, low, high⟩ := h
  simp [parseId, toNat_char (show id.origin < 256 by omega), toNat_char (show id.serial < 256 by omega), origin, low]

theorem chars_of_parseId {n : Nat} {o s : Byte} {id : IncidentId} (h : parseId n o s = some id) :
    char id.origin = o ∧ char id.serial = s := by
  unfold parseId at h
  split at h
  · cases h
    simp
  · cases h

/-- A platform that may be absent, in one character. -/
theorem platform_reads {n : Nat} (hn : n ≤ 32) {o : Option PlatformRef} (h : ∀ p ∈ o, p.node < n) :
    parseOpt (decide ((o.map platformChar).getD 0xFF = 0xFF)) (parsePlatform n ((o.map platformChar).getD 0xFF)) = some o := by
  cases o with
  | none => rfl
  | some p =>
    have present : platformChar p ≠ 255#8 := trackChar_ne_ones hn (h p rfl) p.track
    simp [parseOpt, present, parsePlatform_platformChar hn (h p rfl)]

theorem platform_of_parseOpt {n : Nat} {c : Byte} {o : Option PlatformRef} (h : parseOpt (decide (c = 0xFF)) (parsePlatform n c) = some o) :
    (o.map platformChar).getD 0xFF = c := by
  rcases parseOpt_eq_some.1 h with ⟨absent, rfl⟩ | ⟨-, p, hp, rfl⟩
  · exact (of_decide_eq_true absent).symm
  · exact platformChar_of_parse hp

/-- A section that may be absent, in one character. -/
theorem section_reads {n : Nat} (hn : n ≤ 32) {o : Option TractionSection} (h : ∀ sec ∈ o, sectionFits n sec) :
    parseOpt (decide ((o.map sectionChar).getD 0xFF = 0xFF)) (parseSection n ((o.map sectionChar).getD 0xFF)) = some o := by
  cases o with
  | none => rfl
  | some sec =>
    have fits := h sec rfl
    have present : sectionChar sec ≠ 255#8 := trackChar_ne_ones hn (Nat.lt_of_succ_lt fits) sec.track
    simp [parseOpt, present, parseSection_sectionChar hn fits]

theorem section_of_parseOpt {n : Nat} {c : Byte} {o : Option TractionSection} (h : parseOpt (decide (c = 0xFF)) (parseSection n c) = some o) :
    (o.map sectionChar).getD 0xFF = c := by
  rcases parseOpt_eq_some.1 h with ⟨absent, rfl⟩ | ⟨-, sec, hsec, rfl⟩
  · exact (of_decide_eq_true absent).symm
  · exact sectionChar_of_parse hsec

/-- The section ahead of a platform lies on the line (R3). -/
theorem sectionAheadAt_fits {n s : Nat} (hs : s < n) {t : Track} {sec : TractionSection} (h : sectionAheadAt n s t = some sec) :
    sectionFits n sec := by
  unfold sectionFits
  cases t with
  | up =>
    obtain ⟨inside, rfl⟩ := by simpa only [sectionAheadAt, Option.ite_none_right_eq_some, Option.some.injEq] using h
    exact inside
  | down =>
    obtain ⟨inside, rfl⟩ := by simpa only [sectionAheadAt, Option.ite_none_right_eq_some, Option.some.injEq] using h
    dsimp only
    omega

/-- A last departure that may be absent, in five characters (R33). -/
theorem departure_reads {o : Option LastDeparture} (h : ∀ d ∈ o, d.fits) :
    ∃ c1 c2 c3 c4 c5, departureChars o = [c1, c2, c3, c4, c5] ∧ parseDeparture c1 c2 c3 c4 c5 = some o := by
  cases o with
  | none => exact ⟨_, _, _, _, _, rfl, rfl⟩
  | some d =>
    obtain ⟨trip, dact⟩ := h d rfl
    simp only [Config.serviceTimeMax] at dact
    refine ⟨_, _, _, _, _, rfl, ?_⟩
    have absent : ¬ char (d.trip / 256) = 255#8 := by rw [char_eq_ones_iff (by omega)]; omega
    rw [parseDeparture, num_chars2 (by omega), num_chars3 (by omega)]
    simp [parseOpt, absent, keep, trip, Config.serviceTimeMax, dact]

theorem departure_of_parse {c1 c2 c3 c4 c5 : Byte} {o : Option LastDeparture} (h : parseDeparture c1 c2 c3 c4 c5 = some o) :
    departureChars o = [c1, c2, c3, c4, c5] := by
  rcases parseOpt_eq_some.1 h with ⟨absent, rfl⟩ | ⟨-, d, hd, rfl⟩
  · simp only [List.all_cons, List.all_nil, Bool.and_true, Bool.and_eq_true, decide_eq_true_eq] at absent
    obtain ⟨rfl, rfl, rfl, rfl, rfl⟩ := absent
    rfl
  · obtain ⟨-, rfl⟩ := keep_eq_some.1 hd
    simp [departureChars, chars2_num, chars3_num]

/-- Phrase codes, two characters each (R34). -/
theorem parsePhrases_chars {l : List Nat} (h : ∀ v ∈ l, v < 65536) : parsePhrases (l.flatMap chars2) = some l := by
  induction l with
  | nil => rfl
  | cons v l ih =>
    have first := num_chars2 (h v (by simp))
    have rest := ih fun w hw => h w (by simp [hw])
    simp [chars2, parsePhrases, first, rest]

theorem chars_of_parsePhrases : ∀ {p : List Byte} {l : List Nat}, parsePhrases p = some l → l.flatMap chars2 = p
  | [], _, h => by cases h; rfl
  | [_], _, h => by cases h
  | a :: b :: p, _, h => by
    obtain ⟨l, hl, rfl⟩ := Option.map_eq_some_iff.1 h
    simp [chars2_num, chars_of_parsePhrases hl]

end Sys2Proof.Machine

/-! SUPPORT. The payload of each class reads back whole, and a payload that reads is the frame's own (R30 to R34). -/

namespace Sys2Proof.Machine

section
variable {n s : Nat}

/-! ### ISOLATE and RESTORE (R30) -/

theorem parseIsolate_payload (hn : n ≤ 32) {sec : TractionSection} {id : IncidentId} (h : (Frame.isolate sec id).fits n s) :
    parseIsolate n (Frame.isolate sec id).payload = some (.isolate sec id) := by
  obtain ⟨hsec, hid⟩ := h
  simp only [Frame.payload, parseIsolate, parseSection_sectionChar hn hsec, parseId_chars hn hid]

theorem payload_of_parseIsolate {p : List Byte} {f : Frame} (h : parseIsolate n p = some f) : f.cls = .isolate ∧ f.payload = p := by
  unfold parseIsolate at h
  split at h
  · split at h
    case h_1 hsec hid =>
      cases h
      obtain ⟨origin, serial⟩ := chars_of_parseId hid
      exact ⟨rfl, by rw [Frame.payload, sectionChar_of_parse hsec, origin, serial]⟩
    case h_2 => cases h
  · cases h

/-- An incident id that may be absent, in two characters. -/
theorem id_reads (hn : n ≤ 32) {o : Option IncidentId} (h : ∀ i ∈ o, idFits n i) :
    ∃ c1 c2, (o.map fun i => [char i.origin, char i.serial]).getD [0xFF, 0xFF] = [c1, c2]
      ∧ parseOpt (decide (c1 = 0xFF) && decide (c2 = 0xFF)) (parseId n c1 c2) = some o := by
  cases o with
  | none => exact ⟨_, _, rfl, rfl⟩
  | some id =>
    have fits := h id rfl
    have origin : id.origin < n := fits.1
    have present : ¬ char id.origin = 255#8 := by rw [char_eq_ones_iff (by omega)]; omega
    exact ⟨_, _, rfl, by simp [parseOpt, present, parseId_chars hn fits]⟩

theorem id_of_parseOpt {c1 c2 : Byte} {o : Option IncidentId}
    (h : parseOpt (decide (c1 = 0xFF) && decide (c2 = 0xFF)) (parseId n c1 c2) = some o) :
    (o.map fun i => [char i.origin, char i.serial]).getD [0xFF, 0xFF] = [c1, c2] := by
  rcases parseOpt_eq_some.1 h with ⟨absent, rfl⟩ | ⟨-, id, hid, rfl⟩
  · obtain ⟨rfl, rfl⟩ := by simpa only [Bool.and_eq_true, decide_eq_true_eq] using absent
    rfl
  · obtain ⟨origin, serial⟩ := chars_of_parseId hid
    simp [origin, serial]

theorem parseRestore_payload (hn : n ≤ 32) {sec : TractionSection} {requester : Nat} {id : Option IncidentId}
    (h : (Frame.restore sec requester id).fits n s) :
    parseRestore n (Frame.restore sec requester id).payload = some (.restore sec requester id) := by
  obtain ⟨hsec, hreq, hid⟩ := h
  obtain ⟨c1, c2, chars, reads⟩ := id_reads hn hid
  simp only [Frame.payload, chars, List.cons_append, List.nil_append, parseRestore, parseSection_sectionChar hn hsec, reads,
    toNat_char (show requester < 256 by omega), hreq, decide_true, keep, if_true]

theorem payload_of_parseRestore {p : List Byte} {f : Frame} (h : parseRestore n p = some f) : f.cls = .restore ∧ f.payload = p := by
  unfold parseRestore at h
  split at h
  · split at h
    case h_1 hsec hid =>
      obtain ⟨-, rfl⟩ := keep_eq_some.1 h
      exact ⟨rfl, by rw [Frame.payload, sectionChar_of_parse hsec, id_of_parseOpt hid, char_of_toNat]; rfl⟩
    case h_2 => cases h
  · cases h

/-! ### POWER (R30) -/

theorem parsePower_payload {c : PowerContents} (h : (Frame.power c).fits n s) : parsePower n s c.payload = some c := by
  obtain ⟨br, st, count, overlock, keyLocal, reason⟩ := c
  obtain ⟨present, small, reasons⟩ := h
  dsimp only at present small reasons
  simp only [Config.lockoutMax] at small
  obtain ⟨c4, chars, reads⟩ := opt1_reads (o := reason) fun v hv => by have := reasons v hv; omega
  have overlock_le := flag_le_one overlock
  have keyLocal_le := flag_le_one keyLocal
  have inRange : (decide (c4 = 0xFF) || decide (1 ≤ c4.toNat ∧ c4.toNat ≤ 15)) = true := by
    by_cases absent : c4 = 255#8
    · simp [absent]
    · have value : reason = some c4.toNat := by rw [← reads]; simp [readOpt, absent, num_one]
      simp [reasons _ value]
  have flags : (char (count + 64 * flag keyLocal + 128 * flag overlock)).toNat = count + 64 * flag keyLocal + 128 * flag overlock :=
    toNat_char (by omega)
  have low : (count + 64 * flag keyLocal + 128 * flag overlock) % 8 = count := by omega
  have unnamed : (count + 64 * flag keyLocal + 128 * flag overlock) / 8 % 8 = 0 := by omega
  have key : (count + 64 * flag keyLocal + 128 * flag overlock) / 64 % 2 = flag keyLocal := by omega
  have top : (count + 64 * flag keyLocal + 128 * flag overlock) / 128 = flag overlock := by omega
  simp only [PowerContents.payload, chars, List.cons_append, List.nil_append, parsePower,
    toNat_char (Nat.lt_trans (Breaker.code_lt br) (by decide)), Breaker.ofCode_code, toNat_char (Nat.lt_trans st.code_lt (by decide)),
    BreakerState.ofCode_code, flags, low, unnamed, key, top, present, small, inRange, reads, flag_eq_one]
  rfl

theorem payload_of_parsePower {p : List Byte} {c : PowerContents} (h : parsePower n s p = some c) : c.payload = p := by
  unfold parsePower at h
  split at h
  case h_1 c1 c2 c3 c4 =>
    split at h
    case h_1 hbr hst =>
      obtain ⟨range, rfl⟩ := keep_eq_some.1 h
      simp only [Bool.and_eq_true, decide_eq_true_eq] at range
      have bound := c3.isLt
      have flags : char (c3.toNat % 8 + 64 * flag (decide (c3.toNat / 64 % 2 = 1)) + 128 * flag (decide (c3.toNat / 128 = 1))) = c3 := by
        rw [flag_eq_of_le_one (by omega), flag_eq_of_le_one (by omega)]
        exact char_eq_of_mod (by omega)
      simp only [PowerContents.payload, Breaker.code_of_ofCode hbr, BreakerState.code_of_ofCode hst, char_of_toNat, flags, opt1_readOpt]
      rfl
    case h_2 => cases h
  case h_2 => cases h

/-! ### INCIDENT (R31) -/

theorem optionAll_iff {α : Type} {p : α → Prop} [DecidablePred p] {o : Option α} :
    (o.all fun v => decide (p v)) = true ↔ ∀ v ∈ o, p v := by
  cases o <;> simp

theorem parseIncident_payload (hn : n ≤ 32) {c : IncidentContents} (h : (Frame.incident c).fits n s) :
    parseIncident n c.payload = some c := by
  obtain ⟨action, id, kind, severity, ⟨tracks, first, last⟩, platform, trip, adoptedFrom, owner, raised, acked, failed, reason⟩ := c
  obtain ⟨hid, sev1, sev4, order, inLine, hplatform, htrip, hadopted, howner, hraised, hacked, hreason, hclose⟩ := h
  dsimp only at *
  have raised_small : raised ≤ 1048575 := hraised
  have acked_small : ∀ v ∈ acked, v ≤ 1048575 := hacked
  obtain ⟨t1, t2, tripChars, tripReads⟩ := opt2_reads (o := trip) fun v hv => by have := htrip v hv; omega
  obtain ⟨a1, adoptedChars, adoptedReads⟩ := opt1_reads (o := adoptedFrom) fun v hv => by have := hadopted v hv; omega
  obtain ⟨k1, k2, k3, ackedChars, ackedReads⟩ := opt3_reads (o := acked) fun v hv => by have := acked_small v hv; omega
  obtain ⟨r1, reasonChars, reasonReads⟩ := opt1_reads (o := reason) fun v hv => by have := hreason v hv; omega
  have failed_le := flag_le_one failed
  have closes : (decide (action = .close) == reason.isSome) = true := by
    rw [beq_iff_eq, Bool.eq_iff_iff, decide_eq_true_eq]
    exact hclose
  simp only [IncidentContents.payload, chars1, chars3, tripChars, adoptedChars, ackedChars, reasonChars, List.cons_append, List.nil_append,
    parseIncident, toNat_char (Nat.lt_trans action.code_lt (by decide)), IncidentAction.ofCode_code, parseId_chars hn hid,
    toNat_char (Nat.lt_of_le_of_lt kind.code_le (by decide)), IncidentKind.ofCode_code,
    toNat_char (Nat.lt_trans tracks.code_lt (by decide)), TrackSet.ofCode_code, platform_reads hn hplatform, tripReads, adoptedReads,
    ackedReads, reasonReads, toNat_char (show severity < 256 by omega), toNat_char (show first < 256 by omega),
    toNat_char (show last < 256 by omega), toNat_char (show owner < 256 by omega), num_chars3 (show raised < 16777216 by omega),
    toNat_char (show flag failed < 256 by omega), flag_eq_one, optionAll_iff.2 htrip, optionAll_iff.2 hadopted,
    optionAll_iff.2 hacked, optionAll_iff.2 hreason, closes, hraised, sev1, sev4, order,
    inLine, howner, failed_le]
  rfl

theorem payload_of_parseIncident {p : List Byte} {c : IncidentContents} (h : parseIncident n p = some c) : c.payload = p := by
  unfold parseIncident at h
  split at h
  case h_1 c1 c2 c3 c4 c5 c6 c7 c8 c9 c10 c11 c12 c13 c14 c15 c16 c17 c18 c19 c20 c21 =>
    split at h
    case h_1 haction hid hkind htracks hplatform =>
      obtain ⟨range, rfl⟩ := keep_eq_some.1 h
      simp only [Bool.and_eq_true, decide_eq_true_eq] at range
      obtain ⟨⟨⟨-, failed⟩, -⟩, -⟩ := range
      obtain ⟨origin, serial⟩ := chars_of_parseId hid
      simp only [IncidentContents.payload, IncidentAction.code_of_ofCode haction, origin, serial, IncidentKind.code_of_ofCode hkind,
        TrackSet.code_of_ofCode htracks, platform_of_parseOpt hplatform, opt2_readOpt, opt1_readOpt, opt3_readOpt, chars3_num, chars1,
        flag_eq_of_le_one failed, char_of_toNat]
      rfl
    case h_2 => cases h
  case h_2 => cases h

/-! ### DEPART (R32) -/

theorem parseDepart_payload (hn : n ≤ 32) (hs : s < n) {c : DepartContents} (h : (Frame.depart c).fits n s) :
    parseDepart n s c.payload = some c := by
  obtain ⟨track, trip, dact, entered, terminates⟩ := c
  obtain ⟨htrip, hdact, hentered⟩ := h
  dsimp only at *
  have dact_small : dact ≤ 1048575 := hdact
  have terminates_le := flag_le_one terminates
  have track_le := Track.code_le track
  have reads := section_reads hn fun sec hsec => sectionAheadAt_fits hs (hentered sec hsec)
  simp only [DepartContents.payload, chars1, chars2, chars3, List.cons_append, List.nil_append, parseDepart,
    toNat_char (show track.code < 256 by omega), Track.ofCode_code, reads, num_chars2 (show trip < 65536 by omega),
    num_chars3 (show dact < 16777216 by omega), toNat_char (show flag terminates < 256 by omega), flag_eq_one,
    optionAll_iff.2 hentered, htrip, hdact, terminates_le]
  rfl

theorem payload_of_parseDepart {p : List Byte} {c : DepartContents} (h : parseDepart n s p = some c) : c.payload = p := by
  unfold parseDepart at h
  split at h
  case h_1 c1 c2 c3 c4 c5 c6 c7 c8 =>
    split at h
    case h_1 htrack hentered =>
      obtain ⟨range, rfl⟩ := keep_eq_some.1 h
      simp only [Bool.and_eq_true, decide_eq_true_eq] at range
      obtain ⟨⟨-, terminates⟩, -⟩ := range
      simp only [DepartContents.payload, Track.code_of_ofCode htrack, section_of_parseOpt hentered, chars1, chars2_num, chars3_num,
        flag_eq_of_le_one terminates, char_of_toNat]
      rfl
    case h_2 => cases h
  case h_2 => cases h

/-! ### ANNOUNCE (R34) -/

theorem parseAnnounce_payload {c : AnnounceContents} (h : (Frame.announce c).fits n s) : parseAnnounce c.payload = some c := by
  obtain ⟨first, last, zones, priority, repeats, interval, phrases⟩ := c
  obtain ⟨order, hlast, hzones, hpriority, hrepeats, low, high, some_phrase, most, hphrases⟩ := h
  dsimp only at *
  have zones_le := zones.code_le
  have codes : (phrases.all fun v => decide (v ≤ 4095)) = true := by simpa using hphrases
  have reads : parsePhrases (phrases.flatMap chars2) = some phrases := parsePhrases_chars fun v hv => by have := hphrases v hv; omega
  simp only [AnnounceContents.payload, chars1, chars2, List.cons_append, List.nil_append, parseAnnounce,
    toNat_char (show zones.code < 256 by omega), ZoneSet.ofCode_code hzones, reads, toNat_char (show first < 256 by omega),
    toNat_char (show last < 256 by omega), toNat_char (show priority < 256 by omega), toNat_char (show repeats < 256 by omega),
    toNat_char (show phrases.length < 256 by omega),
    num_chars2 (show interval < 65536 by omega), order, hlast, hpriority, hrepeats, low, high, some_phrase, most, codes]
  rfl

theorem payload_of_parseAnnounce {p : List Byte} {c : AnnounceContents} (h : parseAnnounce p = some c) : c.payload = p := by
  unfold parseAnnounce at h
  split at h
  case h_1 c1 c2 c3 c4 c5 c6 c7 c8 rest =>
    split at h
    case h_1 hzones hphrases =>
      obtain ⟨range, rfl⟩ := keep_eq_some.1 h
      simp only [Bool.and_eq_true, decide_eq_true_eq] at range
      obtain ⟨⟨-, count⟩, -⟩ := range
      simp only [AnnounceContents.payload, ZoneSet.code_of_ofCode hzones, chars1, chars2_num, count, char_of_toNat,
        chars_of_parsePhrases hphrases]
      rfl
    case h_2 => cases h
  case h_2 => cases h

/-! ### STATUS (R33) -/

/-- Four flags in the four lowest places of a number. -/
theorem four_flags {v : Nat} (h : v < 16) : flag (decide (v % 2 = 1)) + 2 * flag (decide (v / 2 % 2 = 1))
    + 4 * flag (decide (v / 4 % 2 = 1)) + 8 * flag (decide (v / 8 % 2 = 1)) = v := by
  rw [flag_eq_of_le_one (v := v % 2) (by omega), flag_eq_of_le_one (v := v / 2 % 2) (by omega),
    flag_eq_of_le_one (v := v / 4 % 2) (by omega), flag_eq_of_le_one (v := v / 8 % 2) (by omega)]
  omega

/-- What the flags of a STATUS frame read back. -/
theorem four_flags_read (a b c d : Bool) :
    flag a + 2 * flag b + 4 * flag c + 8 * flag d < 16
    ∧ (flag a + 2 * flag b + 4 * flag c + 8 * flag d) % 2 = flag a
    ∧ (flag a + 2 * flag b + 4 * flag c + 8 * flag d) / 2 % 2 = flag b
    ∧ (flag a + 2 * flag b + 4 * flag c + 8 * flag d) / 4 % 2 = flag c
    ∧ (flag a + 2 * flag b + 4 * flag c + 8 * flag d) / 8 % 2 = flag d := by
  have ha := flag_le_one a
  have hb := flag_le_one b
  have hc := flag_le_one c
  have hd := flag_le_one d
  omega

theorem absentAgrees_iff {br : Breaker} {r : ReportedBreaker} :
    absentAgrees n s br r = true ↔ presentAt n s br = true ∨ r = .absent := by
  simp [absentAgrees]

theorem parseStatus_payload {c : StatusContents} (h : (Frame.status c).fits n s) : parseStatus n s c.payload = some c := by
  obtain ⟨service, time, ⟨ul, uh, dl, dh⟩, keyLocal, holdover, ⟨lu, ld⟩, ⟨pu, pd⟩, ⟨du, dd⟩, incidents⟩ := c
  obtain ⟨htime, hdepartures, hincidents, hbreakers⟩ := h
  dsimp only at *
  have time_small : time ≤ 1048575 := htime
  have incidents_small : incidents ≤ 32 := hincidents
  have ulAgrees : absentAgrees n s .ul ul = true := absentAgrees_iff.2 (hbreakers .ul)
  have uhAgrees : absentAgrees n s .uh uh = true := absentAgrees_iff.2 (hbreakers .uh)
  have dlAgrees : absentAgrees n s .dl dl = true := absentAgrees_iff.2 (hbreakers .dl)
  have dhAgrees : absentAgrees n s .dh dh = true := absentAgrees_iff.2 (hbreakers .dh)
  obtain ⟨u1, u2, u3, u4, u5, upChars, upReads⟩ := departure_reads (o := du) fun d hd => hdepartures .up d hd
  obtain ⟨d1, d2, d3, d4, d5, downChars, downReads⟩ := departure_reads (o := dd) fun d hd => hdepartures .down d hd
  obtain ⟨small, key, hold, latchUp, latchDown⟩ := four_flags_read keyLocal holdover lu ld
  have service_le := flag_le_one service
  have mode : decide (1 + flag service = 2) = service := by cases service <;> rfl
  have modes : 1 + flag service = 1 ∨ 1 + flag service = 2 := by omega
  simp only [StatusContents.payload, chars1, chars3, upChars, downChars, List.cons_append, List.nil_append, parseStatus,
    toNat_char (Nat.lt_trans ul.code_lt (by decide)), toNat_char (Nat.lt_trans uh.code_lt (by decide)),
    toNat_char (Nat.lt_trans dl.code_lt (by decide)), toNat_char (Nat.lt_trans dh.code_lt (by decide)),
    toNat_char (Nat.lt_trans pu.code_lt (by decide)), toNat_char (Nat.lt_trans pd.code_lt (by decide)), ReportedBreaker.ofCode_code,
    PlatformState.ofCode_code, upReads, downReads, toNat_char (show 1 + flag service < 256 by omega),
    toNat_char (Nat.lt_trans small (by decide)), toNat_char (show incidents < 256 by omega), num_chars3 (show time < 16777216 by omega),
    key, hold, latchUp, latchDown, flag_eq_one, mode, modes, small, htime, incidents_small, ulAgrees, uhAgrees,
    dlAgrees, dhAgrees]
  rfl

theorem payload_of_parseStatus {p : List Byte} {c : StatusContents} (h : parseStatus n s p = some c) : c.payload = p := by
  unfold parseStatus at h
  split at h
  case h_1 c1 c2 c3 c4 c5 c6 c7 c8 c9 c10 c11 c12 c13 c14 c15 c16 c17 c18 c19 c20 c21 c22 =>
    split at h
    case h_1 hul huh hdl hdh hpu hpd hdu hdd =>
      obtain ⟨range, rfl⟩ := keep_eq_some.1 h
      simp only [Bool.and_eq_true, decide_eq_true_eq] at range
      obtain ⟨⟨⟨⟨⟨⟨⟨mode, -⟩, flags⟩, -⟩, -⟩, -⟩, -⟩, -⟩ := range
      have service : 1 + flag (decide (c1.toNat = 2)) = c1.toNat := by rcases mode with mode | mode <;> rw [mode] <;> rfl
      simp only [StatusContents.payload, service, ReportedBreaker.code_of_ofCode hul, ReportedBreaker.code_of_ofCode huh,
        ReportedBreaker.code_of_ofCode hdl, ReportedBreaker.code_of_ofCode hdh, PlatformState.code_of_ofCode hpu,
        PlatformState.code_of_ofCode hpd, departure_of_parse hdu, departure_of_parse hdd, four_flags flags, chars1, chars3_num,
        char_of_toNat]
      rfl
    case h_2 => cases h
  case h_2 => cases h

end

/-! ### Every class -/

theorem parseFrame_payload {n s : Nat} (hn : n ≤ 32) (hs : s < n) {f : Frame} (h : f.fits n s) :
    parseFrame n s f.cls f.payload = some f := by
  unfold parseFrame
  rw [if_pos hs]
  cases f with
  | isolate sec id => exact parseIsolate_payload hn h
  | restore sec requester id => exact parseRestore_payload hn h
  | power c => exact Option.map_eq_some_iff.2 ⟨c, parsePower_payload h, rfl⟩
  | incident c => exact Option.map_eq_some_iff.2 ⟨c, parseIncident_payload hn h, rfl⟩
  | depart c => exact Option.map_eq_some_iff.2 ⟨c, parseDepart_payload hn hs h, rfl⟩
  | announce c => exact Option.map_eq_some_iff.2 ⟨c, parseAnnounce_payload h, rfl⟩
  | status c => exact Option.map_eq_some_iff.2 ⟨c, parseStatus_payload h, rfl⟩

theorem payload_of_parseFrame {n s : Nat} {cls : FrameClass} {p : List Byte} {f : Frame} (h : parseFrame n s cls p = some f) :
    f.cls = cls ∧ f.payload = p := by
  obtain ⟨-, h⟩ := Option.ite_none_right_eq_some.1 h
  cases cls with
  | isolate => exact payload_of_parseIsolate h
  | restore => exact payload_of_parseRestore h
  | power => obtain ⟨c, hc, rfl⟩ := Option.map_eq_some_iff.1 h; exact ⟨rfl, payload_of_parsePower hc⟩
  | incident => obtain ⟨c, hc, rfl⟩ := Option.map_eq_some_iff.1 h; exact ⟨rfl, payload_of_parseIncident hc⟩
  | depart => obtain ⟨c, hc, rfl⟩ := Option.map_eq_some_iff.1 h; exact ⟨rfl, payload_of_parseDepart hc⟩
  | announce => obtain ⟨c, hc, rfl⟩ := Option.map_eq_some_iff.1 h; exact ⟨rfl, payload_of_parseAnnounce hc⟩
  | status => obtain ⟨c, hc, rfl⟩ := Option.map_eq_some_iff.1 h; exact ⟨rfl, payload_of_parseStatus hc⟩

/-- Settles O54: class by class, every field that is sent reads back, and what reads is sent in the same characters. -/
theorem framesReadBackWhole : Obligations.FramesReadBackWhole :=
  ⟨fun _ _ _ hn hs h => parseFrame_payload hn hs h, fun _ _ _ _ _ h => payload_of_parseFrame h⟩

end Sys2Proof.Machine

/-! SUPPORT. What a delivered frame leaves standing: the receive assembly, and every entry of the peer table but its source's (R45, R46, R51). -/

namespace Sys2Proof.Machine

/-! ### The receive assembly (R44, R45) -/

/-- The receive assembly, its counts and the SILENT mark are the same. -/
structure Linebus.SameAssembly (l l' : Linebus) : Prop where
  rx : l'.rx = l.rx := by rfl
  idleCount : l'.idleCount = l.idleCount := by rfl
  validFrames : l'.validFrames = l.validFrames := by rfl
  silent : l'.silent = l.silent := by rfl

theorem Linebus.SameAssembly.trans {x y z : Linebus} (h : x.SameAssembly y) (k : y.SameAssembly z) : x.SameAssembly z :=
  ⟨k.rx.trans h.rx, k.idleCount.trans h.idleCount, k.validFrames.trans h.validFrames, k.silent.trans h.silent⟩

theorem renewStatus_sameAssembly (l : Linebus) (c : StatusContents) : l.SameAssembly (renewStatus l c) := by
  unfold renewStatus
  split
  · split
    · exact {}
    · exact {}
  · exact {}

theorem admitFrame_sameAssembly (e : Env) (b : Blocks) (f : Frame) : b.bus.SameAssembly (admitFrame e b f).bus := by
  have dropped (b : Blocks) (cause : TxDropCause) (f : Frame) : b.bus.SameAssembly (dropFrame e b cause f).bus := by
    rw [dropFrame_bus]
    exact {}
  unfold admitFrame
  split
  · exact {}
  · split
    · split
      · dsimp only
        rw [dropFrame_bus]
        exact {}
      · exact dropped ..
    · exact dropped ..

theorem queueFrame_sameAssembly (e : Env) (b : Blocks) (f : Frame) : b.bus.SameAssembly (queueFrame e b f).bus := by
  cases h : b.bus.mute e with
  | true => rw [queueFrame_mute h]; exact {}
  | false =>
    rw [queueFrame_live h]
    split
    · exact (admitFrame_sameAssembly e b f).trans (renewStatus_sameAssembly ..)
    · exact admitFrame_sameAssembly e b f

/-- That the assembly stands is a rule of the links: reports and frames go out. -/
def LinkRule.assembly (e : Env) (l : Linebus) : LinkRule e where
  holds _ l' := l.SameAssembly l'
  report h := h
  frame h _ := h.trans (queueFrame_sameAssembly ..)

theorem deliver_sameAssembly (e : Env) (b : Blocks) (source : Nat) (f : Frame) : b.bus.SameAssembly (deliver e b source f).bus :=
  deliver_links (a := .assembly e b.bus) {}

/-! ### The peer table (R51 to R55) -/

theorem modifyAt_getElem? {α : Type} (l : List α) (i j : Nat) (f : α → α) :
    (modifyAt l i f)[j]? = if j = i then l[j]?.map f else l[j]? := by
  unfold modifyAt
  split
  case h_1 x hx =>
    rw [List.getElem?_set]
    by_cases same : i = j
    · subst same
      rw [if_pos rfl, if_pos rfl, hx, if_pos (List.getElem?_eq_some_iff.1 hx).1]
      rfl
    · simp [same, Ne.symm same]
  case h_2 hx =>
    split
    case isTrue same => rw [same, hx]; rfl
    case isFalse => rfl

/-- The table is as it was but for the entry of one node. -/
structure OthersStand (source : Nat) (b b' : Blocks) : Prop where
  entries : ∀ i, i ≠ source → b'.peers.table[i]? = b.peers.table[i]?

theorem OthersStand.trans {source : Nat} {x y z : Blocks} (h : OthersStand source x y) (k : OthersStand source y z) :
    OthersStand source x z :=
  ⟨fun i hi => (k.entries i hi).trans (h.entries i hi)⟩

theorem OthersStand.of_table {source : Nat} {b b' : Blocks} (h : b'.peers.table = b.peers.table) : OthersStand source b b' :=
  ⟨fun _ _ => by rw [h]⟩

theorem modifyPeer_othersStand (b : Blocks) (n : Nat) (f : PeerEntry → PeerEntry) : OthersStand n b (modifyPeer b n f) :=
  ⟨fun _ hi => (modifyAt_getElem? ..).trans (if_neg hi)⟩

theorem modifyPeer_source (b : Blocks) (n : Nat) (f : PeerEntry → PeerEntry) :
    (modifyPeer b n f).peers.table[n]? = b.peers.table[n]?.map f := (modifyAt_getElem? ..).trans (if_pos rfl)

section
variable (e : Env) (b : Blocks) (source : Nat)

theorem tellLiveness_peers (before after : Liveness) : (tellLiveness e b source before after).peers = b.peers := by
  have told : (toldLiveness e (queueReport e b (.peerLiveness source before after)) source after).peers = b.peers :=
    (toldLiveness_keeps ..).peers
  unfold tellLiveness
  dsimp only
  split
  · exact (toldLost_keeps ..).peers.trans told
  · exact told

theorem closeLost_table : (closeLost e b source).peers.table = b.peers.table := by
  unfold closeLost
  split
  · refine (setLostId_table ..).trans (congrArg PeerView.table ?_)
    split
    · split
      · exact (closeRecord_sheds e ..).keeps.peers
      · rfl
    · rfl
  · rfl

theorem raiseLost_table : (raiseLost e b source).peers.table = b.peers.table := by
  unfold raiseLost
  split
  · exact (setLostId_table ..).trans (congrArg PeerView.table (raiseIncident_keeps ..).peers)
  · rfl

theorem withFarEnds_peers (f : Blocks → Blocks) : (withFarEnds e b f).peers = (f b).peers :=
  (Keeps.foldl (fun _ _ => toldFarEnd_keeps ..) _ _).peers

theorem offerStart_table (sec : TractionSection) (d : Nat) : (offerStart e b sec d).peers.table = b.peers.table := by
  unfold offerStart
  dsimp only
  split
  · rfl
  · exact (congrArg PeerView.table (toldStarts_told ..).peers).trans rfl

/-- What becomes of the table when a source is heard (R51). -/
theorem hear_table : (hear e b source).peers.table =
    modifyAt b.peers.table source fun p => { p with liveness := .current, silence := 0, lastHeard := some e.now } := by
  have told (before : Liveness) (b : Blocks) := congrArg PeerView.table (tellLiveness_peers e b source before .current)
  unfold hear
  dsimp only
  split
  · rfl
  · split
    · exact (closeLost_table ..).trans (told ..)
    · exact told ..

theorem staleStep_othersStand : OthersStand source b (staleStep e b source) := by
  unfold staleStep
  dsimp only
  split
  · exact (modifyPeer_othersStand ..).trans (.of_table (congrArg PeerView.table (tellLiveness_peers ..)))
  · exact .of_table rfl

theorem lostStep_othersStand : OthersStand source b (lostStep e b source) := by
  unfold lostStep
  dsimp only
  split
  · refine (modifyPeer_othersStand b source fun p => { p with liveness := .lost, reports := ⟨none, none, none, none⟩ }).trans
      (.of_table ?_)
    rw [withFarEnds_peers]
    exact (raiseLost_table ..).trans (congrArg PeerView.table (tellLiveness_peers ..))
  · exact .of_table rfl

/-- Whether a node's entry is there is decided by the table's length. -/
theorem staleStep_present : (staleStep e b source).peers.table[source]?.isSome = b.peers.table[source]?.isSome := by
  unfold staleStep
  dsimp only
  split
  · rw [tellLiveness_peers, modifyPeer_source, Option.isSome_map]
  · rfl

theorem lostStep_present : (lostStep e b source).peers.table[source]?.isSome = b.peers.table[source]?.isSome := by
  unfold lostStep
  dsimp only
  split
  · rw [withFarEnds_peers, raiseLost_table, tellLiveness_peers, modifyPeer_source, Option.isSome_map]
  · rfl

/-! ### What the class owners leave of the Peer View -/

theorem stallCheck_peers (t : Track) : (stallCheck e b t).peers = b.peers := by
  unfold stallCheck
  split
  · dsimp only
    split
    · exact (raiseIncident_keeps ..).peers
    · rfl
  · rfl

theorem addApproach_peers (t : Track) (trip upstream : Nat) (kind : ApproachSource) :
    (addApproach e b t trip upstream kind).peers = b.peers := by
  have told (b : Blocks) (wasEmpty : Bool) : (toldAddition e b t wasEmpty).peers = b.peers := (toldAddition_told ..).peers
  have offered (b : Blocks) (u : Nat) (ph : Option Nat) : (offerApproach e b t u ph).peers = b.peers := (offerApproach_announced ..).keeps.peers
  have announced (b : Blocks) (u : Nat) (ph : Option Nat) (p : Prop) [Decidable p] :
      (if p then offerApproach e b t u ph else b).peers = b.peers := by
    split
    · exact offered ..
    · rfl
  unfold addApproach
  dsimp only
  split
  · exact (stallCheck_peers ..).trans ((announced ..).trans (told ..))
  · exact (announced ..).trans (told ..)

theorem takeDepart_peers (c : DepartContents) : (takeDepart e b source c).peers = b.peers := by
  unfold takeDepart
  split
  · dsimp only
    split
    · rw [queueReport_peers]
      unfold describeError
      split
      · rfl
      · exact (raiseIncident_keeps ..).peers
    · exact addApproach_peers ..
  · rfl

/-- An entry reads as heard at a service time (R51). -/
structure PeerEntry.HeardAt (p : PeerEntry) (now : Nat) : Prop where
  liveness : p.liveness = .current
  silence : p.silence = 0
  lastHeard : p.lastHeard = some now

/-- The source's entry stands and reads as heard now. -/
def SourceHeard (e : Env) (source : Nat) (b : Blocks) : Prop := ∃ p, b.peers.table[source]? = some p ∧ p.HeardAt e.now

theorem SourceHeard.of_table {e : Env} {source : Nat} {b b' : Blocks} (h : SourceHeard e source b) (same : b'.peers.table = b.peers.table) :
    SourceHeard e source b' := by
  unfold SourceHeard
  rw [same]
  exact h

theorem SourceHeard.modifyPeer {e : Env} {source : Nat} {b : Blocks} (h : SourceHeard e source b) {f : PeerEntry → PeerEntry}
    (hf : ∀ p : PeerEntry, p.HeardAt e.now → (f p).HeardAt e.now) : SourceHeard e source (modifyPeer b source f) := by
  obtain ⟨p, hp, heard⟩ := h
  exact ⟨f p, by rw [modifyPeer_source, hp]; rfl, hf p heard⟩

theorem hearFrom_othersStand : OthersStand source b (hearFrom e b source) :=
  .trans (.trans (staleStep_othersStand ..) (lostStep_othersStand ..)) ⟨fun i hi => by
    rw [hearFrom, hear_table, modifyAt_getElem?, if_neg hi]⟩

theorem hearFrom_sourceHeard (h : source < b.peers.table.length) : SourceHeard e source (hearFrom e b source) := by
  have present : (lostStep e (staleStep e b source) source).peers.table[source]?.isSome = true := by
    rw [lostStep_present, staleStep_present, List.getElem?_eq_getElem h]
    rfl
  obtain ⟨p, hp⟩ := Option.isSome_iff_exists.1 present
  exact ⟨_, by rw [hearFrom, hear_table, modifyAt_getElem?, if_pos rfl, hp]; rfl, rfl, rfl, rfl⟩

theorem statusStarts_table (c : StatusContents) : (allTracks.foldl (statusStart e source c) b).peers.table = b.peers.table :=
  foldl_keeps (P := fun x : Blocks => x.peers.table = b.peers.table) (fun x t hx => by
    unfold statusStart
    split
    · exact (offerStart_table ..).trans hx
    · exact hx) _ _ rfl

theorem peerDepart_table (c : DepartContents) : (peerDepart e b c).peers.table = b.peers.table := by
  unfold peerDepart
  split
  · exact offerStart_table ..
  · rfl

end

/-- Whatever a frame's class owner does, the table is as hearing the source left it, but for what the source reports of itself. -/
theorem deliver_heard (e : Env) (b : Blocks) (source : Nat) (f : Frame) (h : SourceHeard e source (hearFrom e b source)) :
    OthersStand source (hearFrom e b source) (deliver e b source f) ∧ SourceHeard e source (deliver e b source f) := by
  have untouched {b' : Blocks} (same : b'.peers.table = (hearFrom e b source).peers.table) :
      OthersStand source (hearFrom e b source) b' ∧ SourceHeard e source b' := ⟨.of_table same, h.of_table same⟩
  have reported {b' : Blocks} {g : PeerEntry → PeerEntry} (same : b'.peers.table = (modifyPeer (hearFrom e b source) source g).peers.table)
      (hg : ∀ p : PeerEntry, p.HeardAt e.now → (g p).HeardAt e.now) :
      OthersStand source (hearFrom e b source) b' ∧ SourceHeard e source b' :=
    ⟨.trans (modifyPeer_othersStand ..) (.of_table same), (h.modifyPeer hg).of_table same⟩
  cases f with
  | status c =>
    refine reported ((congrArg PeerView.table (withFarEnds_peers e (hearFrom e b source) _)).trans (statusStarts_table ..)) ?_
    exact fun _ hp => ⟨hp.liveness, hp.silence, hp.lastHeard⟩
  | power c =>
    refine reported (congrArg PeerView.table ((takePower_keeps e ..).peers.trans (withFarEnds_peers e (hearFrom e b source) _))) ?_
    exact fun _ hp => ⟨hp.liveness, hp.silence, hp.lastHeard⟩
  | depart c => exact untouched ((congrArg PeerView.table (takeDepart_peers ..)).trans (peerDepart_table ..))
  | isolate sec id => exact untouched (congrArg PeerView.table (takeIsolate_keeps e ..).peers)
  | restore sec requester id => exact untouched (congrArg PeerView.table (takeRestore_keeps e ..).peers)
  | incident c => exact untouched (congrArg PeerView.table (takeIncident_keeps e ..).peers)
  | announce c => exact untouched (congrArg PeerView.table (takeAnnounce_announced e ..).keeps.peers)

/-! ### Frames that arrive -/

theorem exec_frameCommand (cls : FrameClass) (source : Byte) (payload : List Byte) (e : Env) (b : Blocks) (q : List Instr) :
    exec (frameCommand cls source payload) ⟨⟨e, b⟩, q⟩ = .next ⟨⟨e, receiveFrame e b source cls payload⟩, q⟩ := by
  cases cls <;> rfl

theorem receiveFrame_own {e : Env} {b : Blocks} {source : Byte} {p : List Byte} {f : Frame} (h : arrives e b source p f)
    (hs : source.toNat = e.nodeNumber) : receiveFrame e b source f.cls p = enterSilent e (counted b) := by
  obtain ⟨accepted, short, reads⟩ := h
  unfold receiveFrame
  rw [if_pos accepted]
  simp only [Nat.not_lt.2 short, if_false, judgeContent, reads, if_pos hs, counted]

theorem staleStep_eq_self {e : Env} {b : Blocks} {source : Nat}
    (h : (b.peers.entry source).liveness = .current → (b.peers.entry source).silence < 25) : staleStep e b source = b :=
  if_neg fun ⟨hl, hn⟩ => absurd (h hl) (Nat.not_lt.2 hn)

theorem lostStep_eq_self {e : Env} {b : Blocks} {source : Nat}
    (h : (b.peers.entry source).liveness = .stale → (b.peers.entry source).silence < 60) : lostStep e b source = b :=
  if_neg fun ⟨hl, hn⟩ => absurd (h hl) (Nat.not_lt.2 hn)

/-- A peer that becomes STALE keeps its silence count (R52). -/
theorem staleStep_silence (e : Env) {b : Blocks} {source : Nat} {p : PeerEntry} (hp : b.peers.table[source]? = some p) :
    ((staleStep e b source).peers.entry source).silence = p.silence := by
  unfold staleStep
  dsimp only
  split
  · rw [tellLiveness_peers, PeerView.entry, modifyPeer_source, hp]
    rfl
  · rw [entry_of_table hp]

/-- Settles O31: an arriving frame is counted, its source heard and its class owner's part done, or this node goes SILENT. -/
theorem foreignFramesAreHeard : Obligations.ForeignFramesAreHeard := by
  intro e b q source payload f ha
  refine ⟨fun other inTable => ?_, fun p x hp => ?_, fun own x hx => ?_⟩
  · have heard := hearFrom_sourceHeard e (counted b) source.toNat inTable
    obtain ⟨others, p, hp, current⟩ := deliver_heard e (counted b) source.toNat f heard
    obtain ⟨rx, idleCount, validFrames, silent⟩ := deliver_sameAssembly e (counted b) source.toNat f
    refine ⟨deliver e (counted b) source.toNat f, p, ?_, rx, idleCount, validFrames, silent, hp, current.liveness, current.silence,
      current.lastHeard, ((hearFrom_othersStand ..).trans others).entries⟩
    rw [exec_frameCommand, receiveFrame_foreign e b source payload f ha other]
  · have entry : (counted b).peers.entry source.toNat = p := entry_of_table hp
    refine ⟨fun notStale fresh => hearFrom_quiet _ _ _ ?_ ?_, fun stale quiet => hearFrom_quiet _ _ _ ?_ ?_,
      fun current silent quiet hx => ?_, fun stale silent hx => ?_⟩
    · rw [entry]
      exact fun current => fresh.resolve_left fun h => h current
    · rw [entry]
      exact fun stale => absurd stale notStale
    · rw [entry, stale]
      exact fun h => nomatch h
    · rw [entry]
      exact fun _ => quiet
    · obtain rfl : staleStep e (counted b) source.toNat = x := by cases hx; rfl
      have stands : lostStep e (staleStep e (counted b) source.toNat) source.toNat = staleStep e (counted b) source.toNat :=
        lostStep_eq_self fun _ => (staleStep_silence e (b := counted b) hp).trans_lt quiet
      rw [heardFrom, hearFrom, stands]
    · obtain rfl : lostStep e (counted b) source.toNat = x := by cases hx; rfl
      have stands : staleStep e (counted b) source.toNat = counted b := staleStep_eq_self fun h => by
        rw [entry, stale] at h
        exact nomatch h
      rw [heardFrom, hearFrom, stands]
  · rw [exec_frameCommand, receiveFrame_own ha own, hx]
    rfl

end Sys2Proof.Machine

/-! SUPPORT. The transmitter's attempts and the STATUS points, each by where the transmitter and the assembly stand (R27, R33, R35 to R42). -/

namespace Sys2Proof.Machine

theorem Linebus.next_eq (l : Linebus) : l.next = if l.waiting = [] then .idle else .waiting := by
  unfold Linebus.next
  cases l.waiting <;> rfl

section
variable {e : Env} {b : Blocks}

/-! ### Idle line and attempts (R27, R35, R37, R44) -/

theorem stayIdle_eq (e : Env) (b : Blocks) (more : Nat) : stayIdle e b more =
    if 20 ≤ b.bus.idleCount + more then noteIdle e (setIdle b (b.bus.idleCount + more)) else setIdle b (b.bus.idleCount + more) := rfl

theorem attemptBegin_waiting {f : Frame} {rest : List Frame} (ht : b.bus.tx = .waiting) (hw : b.bus.waiting = f :: rest) (idle : Nat) :
    attemptBegin e b idle =
      if 20 ≤ b.bus.idleCount + idle then
        (stayIdle e b idle).setBus
          { (stayIdle e b idle).bus with tx := .sending { frame := f, attempts := 0, doomed := false }, waiting := rest, idleCount := 0 }
      else stayIdle e b idle := by
  simp only [attemptBegin, ht, hw, stayIdle_idleCount]
  rfl

theorem backoffRetry_backoff {h : Hand} (ht : b.bus.tx = .backoff h) (idle : Nat) :
    backoffRetry e b idle =
      if 20 + 10 * h.frame.cls.rank + 2 * e.nodeNumber ≤ b.bus.idleCount + idle then
        (stayIdle e b idle).setBus { (stayIdle e b idle).bus with tx := .sending h, idleCount := 0 }
      else stayIdle e b idle := by
  simp only [backoffRetry, ht, stayIdle_idleCount]
  rfl

/-! ### A frame sent (R36, R45) -/

theorem frameSent_sending {h : Hand} (ht : b.bus.tx = .sending h) : frameSent e b = judgeOwn e (b.setBus
    { b.bus with sent := countUp 65535 b.bus.sent, idleCount := 0, tx := if b.bus.waiting = [] then .idle else .waiting }) h.frame := by
  rw [← Linebus.next_eq]
  simp only [frameSent, ht]
  rfl

theorem judgeOwn_skip (h : b.bus.rx = .skip) (f : Frame) : judgeOwn e b f = b := by
  simp only [judgeOwn, h]

theorem judgeOwn_valid {f : Frame} (h : b.bus.rx ≠ .skip) (hp : parseFrame e.lineCount e.nodeNumber f.cls f.payload = some f) :
    judgeOwn e b f = b.setBus { b.bus with rx := .skip, validFrames := countUp 65535 b.bus.validFrames } := by
  unfold judgeOwn
  split
  case h_1 skips => exact absurd skips h
  case h_2 => rw [hp]; rfl

/-! ### STATUS points (R33, R39, R41, R42) -/

theorem statusStep_due (h : b.bus.statusDue = true) : statusStep e b = queueStatus e (b.setBus { b.bus with statusDue := false }) := if_pos h

theorem queueStatus_mute (h : b.bus.mute e = true) : queueStatus e b = b := if_pos h

theorem queueStatus_held (live : b.bus.mute e = false) (held : b.bus.holdsStatus = true) :
    queueStatus e b = b.setBus (renewStatus b.bus (snapshot e b)) := by
  simp [queueStatus, live, held]

theorem queueStatus_new (live : b.bus.mute e = false) (held : b.bus.holdsStatus = false) :
    queueStatus e b = admitFrame e b (.status (snapshot e b)) := by
  simp [queueStatus, live, held]

theorem snapshot_breakers (e : Env) (b : Blocks) (br : Breaker) : (snapshot e b).breakers.get br = reportedBreaker b br := by
  cases br <;> rfl

end

/-- Settles O28: each command by where the transmitter stands, the idle line by where the assembly stands. -/
theorem transmitterAttempts : Obligations.TransmitterAttempts := by
  intro e b x q
  refine ⟨fun l => l.driveEnable_iff, ?idleLine, ?sent, ?statusPoint, ?snapshots⟩
  case idleLine =>
    rintro idle n y z rfl rfl clear framed
    have told : noteIdle e (setIdle b (b.bus.idleCount + idle)) = z := by
      by_cases hr : ∃ taken, b.bus.rx = .frame taken
      · obtain ⟨taken, hr⟩ := hr
        rw [framed taken hr]
        exact noteIdle_frame e _ taken hr
      · have hr : ∀ taken, b.bus.rx ≠ .frame taken := fun taken h => hr ⟨taken, h⟩
        rw [clear hr]
        exact noteIdle_clear e _ hr
    have idled : stayIdle e b idle = if 20 ≤ b.bus.idleCount + idle then z else setIdle b (b.bus.idleCount + idle) := by
      rw [stayIdle_eq, told]
    refine ⟨fun f rest ht hw => ?_, fun h ht => ?_⟩
    · rw [exec_attemptBegin, attemptBegin_waiting ht hw, idled]
      by_cases enough : 20 ≤ b.bus.idleCount + idle
      · simp only [if_pos enough]
      · simp only [if_neg enough]; rfl
    · rw [exec_backoffRetry, backoffRetry_backoff ht, idled]
      by_cases waited : 20 + 10 * h.frame.cls.rank + 2 * e.nodeNumber ≤ b.bus.idleCount + idle
      · have enough : 20 ≤ b.bus.idleCount + idle := by omega
        simp only [if_pos waited, if_pos enough]
      · simp only [if_neg waited]; rfl
  case sent =>
    intro h l ht hl
    have rx : (b.setBus l).bus.rx = b.bus.rx := by rw [hl]; rfl
    have validFrames : (b.setBus l).bus.validFrames = b.bus.validFrames := by rw [hl]; rfl
    rw [exec_frameSent, frameSent_sending ht, ← hl]
    refine ⟨fun hr => ?_, fun hr hp => ?_⟩
    · rw [judgeOwn_skip (rx.trans hr)]
    · rw [judgeOwn_valid (rx ▸ hr) hp, validFrames]
      rfl
  case statusPoint =>
    intro due hx
    have mute : x.bus.mute e = b.bus.mute e := by rw [hx]; rfl
    have holds : x.bus.holdsStatus = b.bus.holdsStatus := by rw [hx]; rfl
    have tx : x.bus.tx = b.bus.tx := by rw [hx]; rfl
    have waiting : x.bus.waiting = b.bus.waiting := by rw [hx]; rfl
    have same : snapshot e x = snapshot e b := by rw [hx]; rfl
    rw [exec_statusPoint, statusStep_due due, ← hx]
    refine ⟨fun off => ?_, fun on speaks held => ?_, fun on speaks held => ?_⟩
    · rw [queueStatus_mute (mute.trans ((Linebus.mute_iff e _).2 off))]
    · rw [queueStatus_new (mute.trans (Linebus.mute_eq_false on speaks)) (holds.trans held), same]
    · rw [queueStatus_held (mute.trans (Linebus.mute_eq_false on speaks)) (holds.trans held), same]
      refine ⟨fun h ht _ hw => ?_, fun h ht hs => ?_, fun ht => ?_⟩
      · rw [renewStatus_absent (waiting ▸ hw) fun k hk => by cases (tx.trans ht).symm.trans hk]
        rfl
      · rw [renewStatus_backoff (tx.trans ht) hs]
      · rw [renewStatus_waiting (tx ▸ ht), waiting]
  case snapshots =>
    rintro c rfl
    refine ⟨?_, rfl, rfl, rfl, fun t => by cases t <;> rfl, fun t => by cases t <;> rfl, fun t => by cases t <;> rfl, rfl,
      fun br absent => ?_, fun br r present => ?_⟩
    · simp [snapshot, Env.inService]
    · rw [snapshot_breakers, reportedBreaker, absent]
    · rw [snapshot_breakers, reportedBreaker, present]
      cases h : r.condition <;> simp [h]

end Sys2Proof.Machine

/-! SUPPORT. Collisions, and the receive assembly character by character (R36, R38, R44, R45, R49). -/

namespace Sys2Proof.Machine

section
variable {e : Env} {b : Blocks}

/-! ### Collisions (R36, R38, R49) -/

/-- A released frame leaves LBDE INACTIVE (R27). -/
theorem Linebus.next_driveEnable (l : Linebus) : ({ l with tx := l.next } : Linebus).driveEnable = false := by
  unfold Linebus.next Linebus.driveEnable
  cases l.waiting <;> rfl

theorem collideHand_driveEnable (e : Env) (b : Blocks) (h : Hand) : (collideHand e b h).bus.driveEnable = false := by
  unfold collideHand
  split
  · exact b.bus.next_driveEnable
  · split
    · rw [dropFrame_bus]
      exact b.bus.next_driveEnable
    · rfl

theorem collideHand_eq (e : Env) (b : Blocks) (h : Hand) : collideHand e b h =
    if h.doomed = true then b.setBus { b.bus with tx := b.bus.next }
    else if h.attempts + 1 < 16 then b.setBus { b.bus with tx := .backoff { h with attempts := h.attempts + 1 } }
    else dropFrame e (b.setBus { b.bus with tx := b.bus.next }) .attempts h.frame := by
  unfold collideHand
  by_cases marked : h.doomed = true
  · rw [if_pos marked, if_pos marked]
    rfl
  · rw [if_neg marked, if_neg marked]
    by_cases more : h.attempts + 1 < 16
    · rw [if_pos more]
      exact if_neg (Nat.not_le.2 more)
    · rw [if_neg more]
      exact if_pos (Nat.not_lt.1 more)

theorem collide_sending {h : Hand} (ht : b.bus.tx = .sending h) (cause : CollisionCause) (heard : List Byte) : collide e b cause heard =
    if cause = .characterError then
      rxError e (takeChars e (collideHand e (b.setBus
        { b.bus with collisions := countUp 65535 b.bus.collisions, idleCount := 0 }) h) heard)
    else takeChars e (collideHand e (b.setBus { b.bus with collisions := countUp 65535 b.bus.collisions, idleCount := 0 }) h) heard := by
  simp only [collide, ht]
  rfl

theorem rxError_skip (h : b.bus.rx = .skip) : rxError e b = b := by simp only [rxError, h]

theorem rxError_seek (h : b.bus.rx = .seek) : rxError e b = setRx b .skip := by simp only [rxError, h]

theorem rxError_frame {taken : List Byte} (h : b.bus.rx = .frame taken) : rxError e b = noteError e
    (b.setBus { b.bus with rx := .skip, truncatedErrors := countUp 65535 b.bus.truncatedErrors }) := by
  simp only [rxError, h]
  rfl

end

/-- Settles O29: the frame in hand by its mark and its attempts, then the characters heard and the character error. -/
theorem collisionOutcomes : Obligations.CollisionOutcomes := by
  intro e b d y z q h heard l ht hl hd hy hz
  have hand : collideHand e (b.setBus l) h = y := by
    have next : (b.setBus l).bus.next = if b.bus.waiting = [] then .idle else .waiting := by rw [Linebus.next_eq, hl]; rfl
    have counted : ((b.setBus l).setBus { (b.setBus l).bus with tx := (b.setBus l).bus.next }).countDrop = d := by
      rw [next, hd, hl]
      rfl
    rw [hy, collideHand_eq, dropFrame_counted, counted, next]
    rfl
  have collided (cause : CollisionCause) :
      collide e b cause heard = if cause = .characterError then rxError e z else z := by
    rw [collide_sending ht, ← hl, hand, hz]
    rfl
  refine ⟨hand ▸ collideHand_driveEnable .., fun cause other => ?_, fun hr => ?_, fun hr => ?_, fun taken hr => ?_⟩
  · rw [exec_collision, collided, if_neg other]
  · rw [exec_collision, collided, if_pos rfl, rxError_skip hr]
  · rw [exec_collision, collided, if_pos rfl, rxError_seek hr]
    rfl
  · rw [exec_collision, collided, if_pos rfl, rxError_frame hr]

end Sys2Proof.Machine

/-! SUPPORT. The receive assembly character by character, and what it ends, discards and counts (R28, R44 to R46). -/

namespace Sys2Proof.Machine

/-! ### Classes and checks (R28, R29) -/

theorem FrameClass.ofCode_code (f : FrameClass) : FrameClass.ofCode f.code = some f := by cases f <;> rfl

theorem FrameClass.code_of_ofCode {c : Byte} {f : FrameClass} (h : FrameClass.ofCode c = some f) : f.code = c := by
  unfold FrameClass.ofCode at h
  split_ifs at h
  all_goals
    cases h
    symm
    assumption

theorem FrameClass.ofCode_eq_none {c : Byte} (h : ∀ f : FrameClass, f.code ≠ c) : FrameClass.ofCode c = none := by
  cases hc : FrameClass.ofCode c with
  | none => rfl
  | some f => exact absurd (code_of_ofCode hc) (h f)

/-- The two check characters hold the check. -/
theorem checkChars_read (check : Check) : BitVec.ofNat 16 (num (checkChars check)) = check := by
  have bound := check.isLt
  rw [show num (checkChars check) = check.toNat from num_chars2 (by omega), BitVec.ofNat_toNat, BitVec.setWidth_eq]

section
variable {e : Env} {b : Blocks}

/-! ### Characters of a frame in assembly (R44) -/

theorem takeInFrame_short {taken : List Byte} (h : taken.length < 4) : takeInFrame e b taken = setRx b (.frame taken) := by
  unfold takeInFrame
  split
  case h_1 => exact absurd h (by simp)
  case h_2 => rfl

theorem takeInFrame_long {sync source cls len : Byte} {rest : List Byte} (h : 48 < len.toNat) :
    takeInFrame e b (sync :: source :: cls :: len :: rest) = countLengthError e (setRx b .skip) := if_pos h

theorem takeInFrame_more {sync source cls len : Byte} {rest : List Byte} (h : len.toNat ≤ 48) (more : rest.length < len.toNat + 2) :
    takeInFrame e b (sync :: source :: cls :: len :: rest) = setRx b (.frame (sync :: source :: cls :: len :: rest)) :=
  (if_neg (Nat.not_lt.2 h)).trans (if_neg (Nat.not_le.2 more))

theorem takeInFrame_complete {sync source cls len : Byte} {payload : List Byte} {check : Check} (h : len.toNat ≤ 48)
    (hp : payload.length = len.toNat) : takeInFrame e b (sync :: source :: cls :: len :: (payload ++ checkChars check)) =
      judgeFrame e (setRx b .skip) source cls payload check := by
  have whole : len.toNat + 2 ≤ (payload ++ checkChars check).length := by simp [checkChars, chars2, hp]
  refine ((if_neg (Nat.not_lt.2 h)).trans (if_pos whole)).trans ?_
  rw [← hp, List.take_left, List.drop_left, checkChars_read]

theorem judgeFrame_checked (source : Byte) (f : FrameClass) (payload : List Byte) :
    judgeFrame e b source f.code payload (crc (busBody source f.code payload)) = judgeContent e b source f payload := by
  simp only [judgeFrame, ne_eq, not_true_eq_false, if_false, FrameClass.ofCode_code]

/-! ### Idle line and character errors (R44) -/

theorem lineIdle_reached {heard : List Byte} {idle : Nat} (h : 20 ≤ idleAfter b.bus.idleCount heard idle) :
    lineIdle e b heard idle = noteIdle e (setIdle (takeChars e b heard) (idleAfter b.bus.idleCount heard idle)) := if_pos h

theorem idleAfter_eq (held : Nat) (heard : List Byte) (idle : Nat) :
    idleAfter held heard idle = if heard = [] then max held idle else idle := by
  unfold idleAfter
  cases heard <;> rfl

/-! ### Errors noted (R45) -/

theorem noteError_late (h : 10 ≤ b.bus.errorAge) : noteError e b = reportErrors e b := if_pos h

theorem noteError_early (h : b.bus.errorAge < 10) : noteError e b = b.setBus { b.bus with errorPending := true } :=
  if_neg (Nat.not_le.2 h)

theorem errorReportStep_due (age : 10 ≤ b.bus.errorAge) (pending : b.bus.errorPending = true) : errorReportStep e b = reportErrors e b :=
  if_pos (Bool.and_eq_true_iff.2 ⟨pending, decide_eq_true age⟩)

theorem lengthError_accepted {source cls len : Byte} (long : 48 < len.toNat) (h : b.bus.rx.accepts [0x96, source, cls, len] = true) :
    lengthError e b source cls len = countLengthError e (setIdle (setRx b .skip) 0) :=
  if_pos (Bool.and_eq_true_iff.2 ⟨h, decide_eq_true long⟩)

theorem otherCharacter_seek (h : b.bus.rx = .seek) {c : Option Byte} (hc : c ≠ some 0x96) :
    otherCharacter b c = setIdle (setRx b .skip) 0 := by
  simp only [otherCharacter, h]
  exact if_neg hc

theorem discardFrame_invalid {source cls : Byte} {payload : List Byte} {check : Check}
    (h : b.bus.rx.accepts (busChars source cls payload check) = true) (short : payload.length ≤ 48)
    (invalid : frameValid e source cls payload check = false) :
    discardFrame e b source cls payload check = judgeFrame e (setIdle (setRx b .skip) 0) source cls payload check :=
  if_pos ⟨h, short, invalid⟩

/-- A check that is not that of the characters fails first (R45). -/
theorem judgeFrame_check {source cls : Byte} {payload : List Byte} {check : Check} (h : check ≠ crc (busBody source cls payload)) :
    judgeFrame e b source cls payload check = countCheckError e b := if_pos h

/-- Then a class that no frame has (R45). -/
theorem judgeFrame_class {source cls : Byte} {payload : List Byte} (h : FrameClass.ofCode cls = none) :
    judgeFrame e b source cls payload (crc (busBody source cls payload)) = countClassError e b := by
  simp only [judgeFrame, ne_eq, not_true_eq_false, if_false, h]

/-- Then a payload that reads as no frame of its class (R45). -/
theorem judgeContent_unread {source : Byte} {cls : FrameClass} {payload : List Byte}
    (h : parseFrame e.lineCount source.toNat cls payload = none) : judgeContent e b source cls payload = countContentError e b := by
  simp only [judgeContent, h]

end

/-- Settles O30: characters by where the assembly stands, idle time and errors likewise, and a failing frame by its first failing check. -/
theorem receiveAssemblyErrors : Obligations.ReceiveAssemblyErrors := by
  refine ⟨?characters, ?ends, ?errors, ?discards⟩
  case characters =>
    rintro e b x c rfl
    refine ⟨takeChar_skip e b c, takeChar_seek e b c, fun taken hr short => ?_, fun sync source cls hr => ⟨fun short => ?_, fun long => ?_⟩,
      fun sync source cls len rest hr short => ⟨fun more => ?_, fun payload check hp whole => ?_,
        fun y f payload => judgeFrame_checked source f payload⟩⟩
    · rw [takeChar_frame e b c taken hr, takeInFrame_short (by rw [List.length_append]; exact Nat.succ_lt_succ short)]
      rfl
    · rw [takeChar_frame e b c _ hr]
      exact takeInFrame_more short (Nat.zero_lt_succ _)
    · rw [takeChar_frame e b c _ hr]
      exact takeInFrame_long long
    · rw [takeChar_frame e b c _ hr]
      exact takeInFrame_more short (by simpa using more)
    · rw [takeChar_frame e b c _ hr]
      have taken : sync :: source :: cls :: len :: rest ++ [c] = sync :: source :: cls :: len :: (payload ++ checkChars check) := by
        rw [← whole]
        rfl
      rw [taken]
      exact takeInFrame_complete short hp
  case ends =>
    intro e b y z q heard idle hy
    refine ⟨fun hz enough => ?_, fun hz => ?_⟩
    · have idled : setIdle (takeChars e b heard) (idleAfter b.bus.idleCount heard idle) = z := by
        rw [hz, hy, idleAfter_eq]
        rfl
      have count : z.bus.idleCount = idleAfter b.bus.idleCount heard idle := by rw [← idled]; rfl
      have rx : z.bus.rx = y.bus.rx := by rw [hz]; rfl
      have truncated : z.bus.truncatedErrors = y.bus.truncatedErrors := by rw [hz]; rfl
      rw [exec_lineIdle, lineIdle_reached (count ▸ enough), idled]
      refine ⟨fun hr => ?_, fun taken hr => ?_⟩
      · rw [noteIdle_clear e z fun taken hf => by rcases hr with hr | hr <;> exact nomatch (rx.trans hr).symm.trans hf]
        rfl
      · rw [noteIdle_frame e z taken (rx.trans hr), ← truncated]
        rfl
    · have stopped : characterError e b heard = rxError e (setIdle y 0) := by rw [hy]; rfl
      rw [exec_linebusCharacterError, stopped]
      refine ⟨fun hr => ?_, fun taken hr => ?_⟩
      · rcases hr with hr | hr
        · rw [rxError_skip (b := setIdle y 0) hr, hz, ← hr]
          rfl
        · rw [rxError_seek (b := setIdle y 0) hr, hz]
          rfl
      · rw [rxError_frame (b := setIdle y 0) hr, hz]
        rfl
  case errors =>
    rintro e b x r q rfl
    refine ⟨fun source cls len long accepted => ?_, fun c hr hc => ?_, ?_⟩
    · rw [exec_linebusLengthError, lengthError_accepted long accepted]
      rfl
    · rw [exec_linebusOtherCharacter, otherCharacter_seek hr hc]
      rfl
    · rintro rfl
      refine ⟨fun age => noteError_late age, fun young => noteError_early young, fun age pending => ?_⟩
      rw [exec_frameErrorReport, errorReportStep_due age pending]
      rfl
  case discards =>
    rintro e b x q source cls payload check short accepted rfl
    refine ⟨fun wrong => ?_, fun right unknown => ?_, fun right c hc unread => ?_⟩
    · rw [exec_linebusFrameDiscarded, discardFrame_invalid accepted short (Bool.and_eq_false_iff.2 (.inl (decide_eq_false wrong))),
        judgeFrame_check wrong]
      rfl
    · have none_has : FrameClass.ofCode cls = none := FrameClass.ofCode_eq_none unknown
      subst right
      rw [exec_linebusFrameDiscarded, discardFrame_invalid accepted short (by simp [frameValid, none_has])]
      exact congrArg (fun z => Host.Outcome.next (⟨⟨e, z⟩, q⟩ : State)) (judgeFrame_class none_has)
    · subst hc right
      have invalid : frameValid e source c.code payload (crc (busBody source c.code payload)) = false := by
        simp [frameValid, FrameClass.ofCode_code, unread]
      rw [exec_linebusFrameDiscarded, discardFrame_invalid accepted short invalid]
      exact congrArg (fun z => Host.Outcome.next (⟨⟨e, z⟩, q⟩ : State))
        ((judgeFrame_checked source c payload).trans (judgeContent_unread unread))

end Sys2Proof.Machine

/-! SUPPORT. A far-end report that changes: what it leaves at a breaker, the restore wait it ends, and the waits that end at a LOST
neighbour (R55, R56, R127, R132, R137). -/

namespace Sys2Proof.Machine

/-! ### What the close conditions read (R135) -/

/-- A breaker's coil lines stand, and its record but for the state of its section. -/
structure RecordHeld (br : Breaker) (b b' : Blocks) : Prop where
  record : ∀ r, b.power.breakers.get br = some r → ∃ s, b'.power.breakers.get br = some { r with sectionState := s }
  coils : b'.field.coils.get br = b.field.coils.get br

/-- Besides, all that the close conditions of the breaker read elsewhere stands. -/
structure CloseHeld (br : Breaker) (b b' : Blocks) : Prop extends RecordHeld br b b' where
  keyLocal : b'.power.keyLocal = b.power.keyLocal
  latches : b'.power.latches = b.power.latches
  coverage : ∀ sec, b'.incidents.coverage sec = b.incidents.coverage sec

section
variable {br : Breaker} {b b' c : Blocks}

theorem RecordHeld.of_power (hp : b'.power = b.power) (hc : b'.field.coils = b.field.coils) : RecordHeld br b b' where
  record r hr := ⟨r.sectionState, hp ▸ hr⟩
  coils := by rw [hc]

theorem RecordHeld.refl (br : Breaker) (b : Blocks) : RecordHeld br b b := .of_power rfl rfl

theorem RecordHeld.trans (h : RecordHeld br b b') (k : RecordHeld br b' c) : RecordHeld br b c where
  record r hr := by
    obtain ⟨s, hs⟩ := h.record r hr
    obtain ⟨s', hs'⟩ := k.record _ hs
    exact ⟨s', hs'⟩
  coils := k.coils.trans h.coils

theorem CloseHeld.held (h : CloseHeld br b b') : RecordHeld br b b' := h.toRecordHeld

theorem CloseHeld.of_same (hp : b'.power = b.power) (hc : b'.field.coils = b.field.coils) (hi : b'.incidents = b.incidents) :
    CloseHeld br b b' where
  toRecordHeld := .of_power hp hc
  keyLocal := by rw [hp]
  latches := by rw [hp]
  coverage _ := by rw [hi]

theorem CloseHeld.refl (br : Breaker) (b : Blocks) : CloseHeld br b b := .of_same rfl rfl rfl

theorem CloseHeld.trans (h : CloseHeld br b b') (k : CloseHeld br b' c) : CloseHeld br b c where
  toRecordHeld := h.held.trans k.held
  keyLocal := k.keyLocal.trans h.keyLocal
  latches := k.latches.trans h.latches
  coverage sec := (k.coverage sec).trans (h.coverage sec)

theorem CloseHeld.foldl {α : Type} {f : Blocks → α → Blocks} (l : List α) (hf : ∀ x ∈ l, ∀ b, CloseHeld br b (f b x)) (b : Blocks) :
    CloseHeld br b (l.foldl f b) := by
  induction l generalizing b with
  | nil => exact .refl br b
  | cons x l ih =>
    obtain ⟨head, rest⟩ := List.forall_mem_cons.1 hf
    exact .trans (head b) (ih rest (f b x))

theorem CloseHeld.ite (p : Prop) [Decidable p] (h : CloseHeld br b c) : CloseHeld br b (if p then c else b) := by
  split
  · exact h
  · exact .refl br b

theorem Told.closeHeld (h : Told b b') : CloseHeld br b b' := .of_same h.power h.coils h.incidents

theorem Announced.closeHeld (h : Announced b b') : CloseHeld br b b' := .of_same h.power (congrArg FieldState.coils h.field) h.incidents

theorem queuePowerFrame_closeHeld (e : Env) (b : Blocks) (y : Breaker) (reason : Option RefusalReason) :
    CloseHeld br b (queuePowerFrame e b y reason) := by
  obtain ⟨l, p, eq⟩ := queuePowerFrame_eq e b y reason
  rw [eq]
  exact .of_same rfl rfl rfl

/-- Where the conditions hold and where they fail is as before, the record's section left out. -/
theorem CloseHeld.closeRefusal_eq (h : CloseHeld br b b') {r : BreakerRecord} (hr : b.power.breakers.get br = some r) (e : Env)
    (fromPort : Bool) : closeRefusal e b' br fromPort = closeRefusal e b br fromPort := by
  obtain ⟨s, hs⟩ := h.record r hr
  simp only [closeRefusal, hr, hs, h.keyLocal, h.latches, h.coverage]

end

/-! ### Operations that leave a breaker its record and its lines -/

section
variable {br : Breaker} (e : Env) (b : Blocks)

/-- A record written at another breaker, or one that differs in its section's state alone. -/
theorem setBreaker_closeHeld {b : Blocks} {y : Breaker} {r : BreakerRecord}
    (h : y = br → ∃ r' s, b.power.breakers.get y = some r' ∧ r = { r' with sectionState := s }) : CloseHeld br b (b.setBreaker y r) where
  record x hx := by
    by_cases hy : y = br
    · obtain ⟨r', s, hr', rfl⟩ := h hy
      subst hy
      obtain rfl : r' = x := Option.some.inj (hr'.symm.trans hx)
      exact ⟨s, setBreaker_get b y r' _ hr'⟩
    · exact ⟨x.sectionState, by rw [(setBreaker_atBreaker b y r).others br (Ne.symm hy)]; exact hx⟩
  coils := by rw [Blocks.setBreaker_field]
  keyLocal := Blocks.setBreaker_keyLocal ..
  latches := Blocks.setBreaker_latches ..
  coverage sec := by rw [Blocks.setBreaker_incidents]

theorem tellSection_closeHeld (sec : TractionSection) (before after : SectionState) :
    CloseHeld br b (tellSection e b sec before after) := by
  unfold tellSection
  dsimp only
  refine .trans ?_ (.ite _ (withdrawWhere_announced ..).closeHeld)
  split
  · exact .trans (toldPower_told ..).closeHeld (.ite _ (offerSuspend_announced ..).closeHeld)
  · exact .refl br b

theorem sectionUpdate_closeHeld (y : Breaker) : CloseHeld br b (sectionUpdate e b y) := by
  unfold sectionUpdate
  split
  case h_1 r hr =>
    have written (s : Option SectionState) : CloseHeld br b (b.setBreaker y { r with sectionState := s }) :=
      setBreaker_closeHeld fun _ => ⟨r, s, hr, rfl⟩
    split
    · exact .refl br b
    · dsimp only
      split
      · split
        · exact .trans (written _) (toldPower_told ..).closeHeld
        · exact written _
      · split
        · exact .refl br b
        · exact .trans (written (some (sectionStateOf e b y))) (.trans (queueReport_announced ..).closeHeld (tellSection_closeHeld ..))
  case h_2 => exact .refl br b

/-- A record that stands on covers what it covered (R146). -/
theorem modifyRecord_coverage {f : Incident → Incident} (hf : ∀ r : Incident, r.StandsOn (f r)) (id : IncidentId) (sec : TractionSection) :
    (b.modifyRecord id f).incidents.coverage sec = b.incidents.coverage sec := by
  have same (r : Incident) : (f r).severity = r.severity ∧ (f r).span = r.span := by
    rcases hf r with h | ⟨o, o', -, h⟩ <;> rw [h] <;> exact ⟨rfl, rfl⟩
  rw [Blocks.modifyRecord_incidents, IncidentTable.coverage, IncidentTable.coverage, List.any_map]
  congr 1
  funext r
  dsimp only [Function.comp]
  split
  · rw [(same r).1, (same r).2]
  · rfl

theorem confirmItem_closeHeld (id : IncidentId) (sec : TractionSection) : CloseHeld br b (confirmItem e b id sec) :=
  .ite _
    { toRecordHeld := .of_power rfl rfl
      keyLocal := rfl
      latches := rfl
      coverage := modifyRecord_coverage b (fun r => r.setItems_standsOn _) id }

theorem confirmItems_closeHeld (p : TractionSection → Bool) : CloseHeld br b (confirmItems e b p) :=
  CloseHeld.foldl (pendingItems b p) (fun x _ b => confirmItem_closeHeld e b x.1 x.2) b

end

/-! ### A restore wait whose low end has become CLOSED or LOST (R137) -/

section
variable {e : Env} {b : Blocks} {br : Breaker} {r : BreakerRecord} {w : RestoreWait}

theorem waitOf_of_record (hr : b.power.breakers.get br = some r) : b.waitOf br = r.wait := by simp [Blocks.waitOf, hr]

theorem clearWait_eq (hr : b.power.breakers.get br = some r) : clearWait b br = b.setBreaker br { r with wait := none } :=
  modifyBreaker_eq b br r _ hr

theorem tryWait_of_none (h : b.waitOf br = none) : tryWait e b br = b := by simp [tryWait, h]

theorem tryWait_closes (hr : b.power.breakers.get br = some r) (hw : r.wait = some w) (hc : closeRefusal e b br w.fromPort = none) :
    tryWait e b br = closeCommand e (b.setBreaker br { r with wait := none }) br := by
  simp [tryWait, waitOf_of_record hr, hw, hc, clearWait_eq hr]

theorem tryWait_refuses (hr : b.power.breakers.get br = some r) (hw : r.wait = some w) {reason : RefusalReason}
    (hc : closeRefusal e b br w.fromPort = some reason) :
    tryWait e b br = refuseRestore e (b.setBreaker br { r with wait := none }) br w.requester reason := by
  simp [tryWait, waitOf_of_record hr, hw, hc, clearWait_eq hr]

theorem closeCommand_get (hr : b.power.breakers.get br = some r) : ∃ s, (closeCommand e b br).power.breakers.get br =
    some { r with condition := some (.closing (e.newCommand false)), sectionState := s } :=
  ⟨_, setCondition_get (b := closeCoil b br) hr e _ _⟩

theorem closeCommand_coils : (closeCommand e b br).field.coils.get br = (b.field.coils.get br).closePulse := by
  rw [closeCommand, setCondition_coils, closeCoil]
  simp

theorem refuseRestore_power (requester : Nat) (reason : RefusalReason) : (refuseRestore e b br requester reason).power = b.power :=
  queuePowerFrame_power ..

end

/-- The restore wait of a breaker has ended, as the close conditions stood in `x`: with a close command, or with nothing at the breaker. -/
def WaitTried (e : Env) (x : Blocks) (br : Breaker) (r : BreakerRecord) (w : RestoreWait) (b : Blocks) : Prop :=
  ∃ z, b.power.breakers.get br = some z ∧ z.wait = none
    ∧ (closeRefusal e x br w.fromPort = none → z.condition = some (.closing (e.newCommand false))
      ∧ b.field.coils.get br = (x.field.coils.get br).closePulse)
    ∧ (closeRefusal e x br w.fromPort ≠ none → z.condition = r.condition ∧ b.field.coils.get br = x.field.coils.get br)

section
variable {e : Env} {x b c : Blocks} {br : Breaker} {r : BreakerRecord} {w : RestoreWait}

theorem tryWait_tried (hr : b.power.breakers.get br = some r) (hw : r.wait = some w) : WaitTried e b br r w (tryWait e b br) := by
  have cleared := setBreaker_get b br r { r with wait := none } hr
  cases hc : closeRefusal e b br w.fromPort with
  | none =>
    rw [tryWait_closes hr hw hc]
    obtain ⟨s, hs⟩ := closeCommand_get (e := e) cleared
    refine ⟨_, hs, rfl, fun _ => ⟨rfl, ?_⟩, fun h => absurd hc h⟩
    rw [closeCommand_coils, Blocks.setBreaker_field]
  | some reason =>
    rw [tryWait_refuses hr hw hc]
    refine ⟨{ r with wait := none }, by rw [refuseRestore_power, cleared], rfl, fun h => by simp [hc] at h, fun _ => ⟨rfl, ?_⟩⟩
    exact congrArg (PerBreaker.get · br) ((queuePowerFrame_coils ..).trans (congrArg _ (Blocks.setBreaker_field ..)))

/-- The wait is tried in a state whose close conditions read as in `x`. -/
theorem CloseHeld.tried (h : CloseHeld br x b) (hr : x.power.breakers.get br = some r) {s : Option SectionState}
    (k : WaitTried e b br { r with sectionState := s } w c) : WaitTried e x br r w c := by
  obtain ⟨z, hz, ended, closes, refuses⟩ := k
  rw [h.closeRefusal_eq hr, h.coils] at closes refuses
  exact ⟨z, hz, ended, closes, refuses⟩

theorem WaitTried.held (h : WaitTried e x br r w b) (k : RecordHeld br b c) : WaitTried e x br r w c := by
  obtain ⟨z, hz, ended, closes, refuses⟩ := h
  obtain ⟨s, hs⟩ := k.record z hz
  rw [← k.coils] at closes refuses
  exact ⟨_, hs, ended, closes, refuses⟩

end

/-! ### The Power Controller told of a far end (R55, R137) -/

section
variable {e : Env} {b : Blocks} {br y : Breaker}

theorem modifyBreaker_closeHeld (hy : br ≠ y) (f : BreakerRecord → BreakerRecord) : CloseHeld br b (modifyBreaker b y f) := by
  unfold modifyBreaker
  split
  · exact setBreaker_closeHeld fun same => absurd same.symm hy
  · exact .refl br b

theorem closeCoil_closeHeld (hy : br ≠ y) : CloseHeld br b (closeCoil b y) where
  record r hr := ⟨r.sectionState, hr⟩
  coils := by simp [closeCoil, hy]
  keyLocal := rfl
  latches := rfl
  coverage _ := rfl

/-- A change of another breaker's state. -/
theorem setCondition_closeHeld (hy : br ≠ y) (c : Condition) (cause : Option ChangeCause) :
    CloseHeld br b (setCondition e b y c cause) := by
  have told (x : Blocks) : CloseHeld br x
      (sectionUpdate e (queueReport e (queuePowerFrame e x y none) (.breakerChange y c.state cause)) y) :=
    .trans (queuePowerFrame_closeHeld ..) (.trans (queueReport_announced ..).closeHeld (sectionUpdate_closeHeld ..))
  unfold setCondition
  exact .trans (modifyBreaker_closeHeld hy _) (.trans (told _) (.ite _ (confirmItems_closeHeld ..)))

/-- The end of a wait at another breaker. -/
theorem tryWait_closeHeld (hy : br ≠ y) : CloseHeld br b (tryWait e b y) := by
  unfold tryWait
  split
  · split
    · exact .trans (modifyBreaker_closeHeld hy _) (.trans (closeCoil_closeHeld hy) (setCondition_closeHeld hy ..))
    · exact .trans (modifyBreaker_closeHeld hy _) (.trans (queuePowerFrame_closeHeld ..) (queueReport_announced ..).closeHeld)
  · exact .refl br b

theorem toldFarEnd_eq (e : Env) (b : Blocks) (br : Breaker) : toldFarEnd e b br =
    if br.atHighEnd = true ∧ (farReport e b br).map (·.1) = some .closed then
      tryWait e (confirmItems e (sectionUpdate e b br) fun sec => decide (sec = e.fed br)) br
    else confirmItems e (sectionUpdate e b br) fun sec => decide (sec = e.fed br) := by
  have peers : (confirmItems e (sectionUpdate e b br) fun sec => decide (sec = e.fed br)).peers = b.peers :=
    (confirmItems_sheds e ..).keeps.peers.trans (sectionUpdate_sheds e b br).keeps.peers
  simp only [toldFarEnd, farReport_congr peers, Bool.and_eq_true, decide_eq_true_eq]

theorem toldFarEnd_closeHeld (hy : br ≠ y) : CloseHeld br b (toldFarEnd e b y) := by
  rw [toldFarEnd_eq]
  have sectioned : CloseHeld br b (confirmItems e (sectionUpdate e b y) fun sec => decide (sec = e.fed y)) :=
    .trans (sectionUpdate_closeHeld ..) (confirmItems_closeHeld ..)
  split
  · exact .trans sectioned (tryWait_closeHeld hy)
  · exact sectioned

theorem toldFarEnd_tried {r : BreakerRecord} {w : RestoreWait} (high : br.atHighEnd = true)
    (closed : (farReport e b br).map (·.1) = some .closed) (hr : b.power.breakers.get br = some r) (hw : r.wait = some w) :
    WaitTried e b br r w (toldFarEnd e b br) := by
  have sectioned : CloseHeld br b (confirmItems e (sectionUpdate e b br) fun sec => decide (sec = e.fed br)) :=
    .trans (sectionUpdate_closeHeld ..) (confirmItems_closeHeld ..)
  obtain ⟨s, hs⟩ := sectioned.record r hr
  rw [toldFarEnd_eq, if_pos ⟨high, closed⟩]
  exact sectioned.tried hr (tryWait_tried hs hw)

/-- Of several breakers told once each, each tries its own wait. -/
theorem foldl_toldFarEnd_tried {l : List Breaker} (hl : l.Nodup) (hm : br ∈ l) {r : BreakerRecord} {w : RestoreWait}
    (high : br.atHighEnd = true) (closed : (farReport e b br).map (·.1) = some .closed)
    (hr : b.power.breakers.get br = some r) (hw : r.wait = some w) : WaitTried e b br r w (l.foldl (toldFarEnd e) b) := by
  obtain ⟨before, after, rfl⟩ := List.mem_iff_append.1 hm
  obtain ⟨-, later, apart⟩ := List.nodup_append.1 hl
  obtain ⟨notLater, -⟩ := List.nodup_cons.1 later
  have first : CloseHeld br b (before.foldl (toldFarEnd e) b) :=
    .foldl before (fun y hy _ => toldFarEnd_closeHeld (apart y hy br List.mem_cons_self).symm) b
  have peers : (before.foldl (toldFarEnd e) b).peers = b.peers := (Keeps.foldl (fun _ _ => toldFarEnd_keeps ..) before b).peers
  obtain ⟨s, hs⟩ := first.record r hr
  rw [List.foldl_append, List.foldl_cons]
  refine (first.tried hr (toldFarEnd_tried high (by rw [farReport_congr peers]; exact closed) hs hw)).held ?_
  exact (CloseHeld.foldl after (fun y hy _ => toldFarEnd_closeHeld (ne_of_mem_of_not_mem hy notLater).symm) _).held

/-- What brings the far-end report of a high end that waits to CLOSED (R55, R137). -/
theorem withFarEnds_tried {f : Blocks → Blocks} {r : BreakerRecord} {w : RestoreWait} (hf : CloseHeld br b (f b))
    (high : br.atHighEnd = true) (present : e.present br = true) (before : (farReport e b br).map (·.1) ≠ some .closed)
    (closed : (farReport e (f b) br).map (·.1) = some .closed) (hr : b.power.breakers.get br = some r) (hw : r.wait = some w) :
    WaitTried e b br r w (withFarEnds e b f) := by
  have changed : br ∈ allBreakers.filter fun y => e.present y && decide (farReport e b y ≠ farReport e (f b) y) := by
    refine List.mem_filter.2 ⟨mem_allBreakers br, ?_⟩
    rw [present, Bool.true_and, decide_eq_true_eq]
    exact fun same => before (same ▸ closed)
  obtain ⟨s, hs⟩ := hf.record r hr
  exact hf.tried hr (foldl_toldFarEnd_tried (.filter _ (by decide)) changed high closed hs hw)

end

/-! ### Waits that end (R137, R138) -/

/-- No restore wait begins. -/
def WaitsEnd (b b' : Blocks) : Prop := ∀ br, b.waitOf br = none → b'.waitOf br = none

theorem WaitsEnd.refl (b : Blocks) : WaitsEnd b b := fun _ h => h

theorem WaitsEnd.trans {a b c : Blocks} (h : WaitsEnd a b) (k : WaitsEnd b c) : WaitsEnd a c := fun br hn => k br (h br hn)

theorem BreakersEase.waitsEnd {b b' : Blocks} (h : BreakersEase b b') : WaitsEnd b b' := by
  intro br hn
  cases hr' : b'.power.breakers.get br with
  | none => simp [Blocks.waitOf, hr']
  | some r' =>
    obtain ⟨r, hr, eases⟩ := h br r' hr'
    rw [waitOf_of_record hr] at hn
    rw [waitOf_of_record hr']
    exact eases.wait.elim id fun same => same.trans hn

theorem tryWait_waitOf (e : Env) (b : Blocks) (br : Breaker) : (tryWait e b br).waitOf br = none := by
  cases hw : b.waitOf br with
  | none => rw [tryWait_of_none hw, hw]
  | some w =>
    obtain ⟨r, hr, hwr⟩ : ∃ r, b.power.breakers.get br = some r ∧ r.wait = some w := by
      unfold Blocks.waitOf at hw
      split at hw
      · exact ⟨_, ‹_›, hw⟩
      · cases hw
    obtain ⟨z, hz, ended, -⟩ := tryWait_tried (e := e) hr hwr
    rw [waitOf_of_record hz, ended]

theorem RecordHeld.waitOf_eq {br : Breaker} {b b' : Blocks} (h : RecordHeld br b b') (k : Spares b b') : b'.waitOf br = b.waitOf br := by
  cases hr : b.power.breakers.get br with
  | some r =>
    obtain ⟨s, hs⟩ := h.record r hr
    rw [waitOf_of_record hs, waitOf_of_record hr]
  | none =>
    have absent : b'.power.breakers.get br = none := by simpa [hr] using k.present br
    simp [Blocks.waitOf, hr, absent]

theorem tryWait_waitsEnd (e : Env) (b : Blocks) (y : Breaker) : WaitsEnd b (tryWait e b y) := by
  intro br hn
  by_cases hy : br = y
  · rw [hy]
    exact tryWait_waitOf ..
  · exact ((tryWait_closeHeld hy).held.waitOf_eq (tryWait_keeps ..).spares).trans hn

theorem toldFarEnd_waitsEnd (e : Env) (b : Blocks) (y : Breaker) : WaitsEnd b (toldFarEnd e b y) := by
  have sectioned : WaitsEnd b (confirmItems e (sectionUpdate e b y) fun sec => decide (sec = e.fed y)) :=
    .trans (sectionUpdate_sheds e b y).breakers.waitsEnd (confirmItems_sheds e ..).breakers.waitsEnd
  rw [toldFarEnd_eq]
  split
  · exact .trans sectioned (tryWait_waitsEnd _ _ _)
  · exact sectioned

/-- The breakers whose wait ends at a neighbour that is LOST (R137). -/
def lostEnds (e : Env) (p : Nat) : List Breaker :=
  allBreakers.filter fun br => br.atHighEnd && decide (e.farNode br = p) && e.present br

theorem toldLost_eq (e : Env) (b : Blocks) (p : Nat) : toldLost e b p = (lostEnds e p).foldl (tryWait e) b := by
  rw [lostEnds, List.foldl_filter]
  rfl

theorem foldl_tryWait_waitOf (e : Env) {br : Breaker} (l : List Breaker) : ∀ b : Blocks, br ∈ l ∨ b.waitOf br = none →
    (l.foldl (tryWait e) b).waitOf br = none := by
  induction l with
  | nil => exact fun b h => h.resolve_left List.not_mem_nil
  | cons y l ih =>
    refine fun b h => ih (tryWait e b y) ?_
    rcases h with h | ended
    · rcases List.mem_cons.1 h with rfl | h
      · exact .inr (tryWait_waitOf ..)
      · exact .inl h
    · exact .inr (tryWait_waitsEnd e b y br ended)

/-- The high end whose other end is a neighbour has a present breaker. -/
theorem present_of_highEnd {e : Env} {br : Breaker} (high : br.atHighEnd = true) (h : 1 ≤ e.nodeNumber) : e.present br = true := by
  cases br with
  | ul => exact decide_eq_true h
  | dl => exact decide_eq_true h
  | uh => cases high
  | dh => cases high

theorem toldLost_waitOf {e : Env} {br : Breaker} {p : Nat} (high : br.atHighEnd = true) (far : e.farNode br = p) (h : 1 ≤ e.nodeNumber)
    (b : Blocks) : (toldLost e b p).waitOf br = none := by
  rw [toldLost_eq]
  refine foldl_tryWait_waitOf e _ b (.inl (List.mem_filter.2 ⟨mem_allBreakers br, ?_⟩))
  simp [high, far, present_of_highEnd high h]

end Sys2Proof.Machine

/-! SUPPORT. A peer's silence at its limits and a start that lapses: what each leaves of the peer table, the waits, the records and
NODE_LOST (R52, R55, R56, R58, R60, R61). -/

namespace Sys2Proof.Machine

/-! ### The records through the end of a wait (R137) -/

theorem setCondition_records (e : Env) (b : Blocks) (br : Breaker) (c : Condition) (cause : Option ChangeCause) :
    RecordsFrom b (setCondition e b br c cause) := by
  have written : (modifyBreaker b br fun r => { r with condition := some c }).incidents = b.incidents := by
    unfold modifyBreaker
    split
    · exact Blocks.setBreaker_incidents ..
    · rfl
  exact .trans (.of_eq (congrArg _ written)) (setCondition_after e b br c cause).records

theorem tryWait_records (e : Env) (b : Blocks) (br : Breaker) : RecordsFrom b (tryWait e b br) := by
  have cleared : RecordsFrom b (clearWait b br) := (clearWait_sheds e b br).records
  unfold tryWait
  split
  · split
    · exact .trans cleared (.trans (b := closeCoil (clearWait b br) br) (.of_eq rfl) (setCondition_records ..))
    · exact .trans cleared (refuseRestore_sheds e ..).records
  · exact .of_eq rfl

theorem toldLost_records (e : Env) (b : Blocks) (p : Nat) : RecordsFrom b (toldLost e b p) := by
  rw [toldLost_eq]
  exact foldl_related (R := RecordsFrom) (fun _ => .of_eq rfl) RecordsFrom.trans (tryWait_records e) _ b

theorem tryWait_acts (e : Env) (b : Blocks) (br : Breaker) : Acts b (tryWait e b br) := by
  unfold tryWait
  split
  · split
    · exact .trans (modifyBreaker_acts ..) (.trans (setCoils_acts ..) (setCondition_acts ..))
    · exact .trans (modifyBreaker_acts ..) (.trans (queuePowerFrame_acts ..) (queueReport_acts ..))
  · exact .refl b

theorem toldFarEnd_acts (e : Env) (b : Blocks) (br : Breaker) : Acts b (toldFarEnd e b br) := by
  have sectioned : Acts b (confirmItems e (sectionUpdate e b br) fun sec => decide (sec = e.fed br)) :=
    .trans (sectionUpdate_acts ..) (confirmItems_acts ..)
  rw [toldFarEnd_eq]
  split
  · exact .trans sectioned (tryWait_acts ..)
  · exact sectioned

/-! ### A change of liveness made known (R56) -/

/-- What a change of liveness makes known enters no record. -/
theorem toldLiveness_length (e : Env) (b : Blocks) (peer : Nat) (after : Liveness) :
    (toldLiveness e b peer after).incidents.records.length ≤ b.incidents.records.length := by
  have closed (x : Blocks) : (checkAdoptedLost e x).incidents.records.length ≤ x.incidents.records.length :=
    (closeWhere_sheds e x _ _).records.length_le
  have orphaned : (orphanCopies e b peer).incidents.records.length = b.incidents.records.length :=
    foldl_related (R := fun x y : Blocks => y.incidents.records.length = x.incidents.records.length) (fun _ => rfl)
      (fun h k => k.trans h) (fun x id => by rw [reportIncident_incidents]; exact List.length_map _) _ b
  refine (closed _).trans ?_
  cases after with
  | lost => exact orphaned.le
  | current => exact (List.length_map _).le
  | stale => exact le_rfl
  | unheard => exact le_rfl

theorem tellLiveness_length (e : Env) (b : Blocks) (peer : Nat) (before after : Liveness) :
    (tellLiveness e b peer before after).incidents.records.length ≤ b.incidents.records.length := by
  have told := toldLiveness_length e (queueReport e b (.peerLiveness peer before after)) peer after
  unfold tellLiveness
  dsimp only
  split
  · exact (toldLost_records ..).length_le.trans told
  · exact told

/-! ### The limits of silence (R52, R55, R61) -/

section
variable {e : Env} {b : Blocks} {n : Nat} {p : PeerEntry}

/-- An entry that becomes LOST: its breaker reports go (R52, R55). -/
def PeerEntry.toLost (p : PeerEntry) : PeerEntry := { p with liveness := .lost, reports := ⟨none, none, none, none⟩ }

/-- What a peer that becomes LOST brings before the far ends are told (R56, R61). -/
def becomeLost (e : Env) (n : Nat) (b : Blocks) : Blocks := raiseLost e (tellLiveness e (modifyPeer b n PeerEntry.toLost) n .stale .lost) n

theorem staleStep_due (hp : b.peers.table[n]? = some p) (hl : p.liveness = .current) (hs : 25 ≤ p.silence) :
    staleStep e b n = tellLiveness e (modifyPeer b n fun p => { p with liveness := .stale }) n .current .stale := by
  unfold staleStep
  dsimp only
  rw [entry_of_table hp]
  exact if_pos ⟨hl, hs⟩

theorem lostStep_due (hp : b.peers.table[n]? = some p) (hl : p.liveness = .stale) (hs : 60 ≤ p.silence) :
    lostStep e b n = withFarEnds e b (becomeLost e n) := by
  unfold lostStep
  dsimp only
  rw [entry_of_table hp]
  exact if_pos ⟨hl, hs⟩

theorem becomeLost_source (hp : b.peers.table[n]? = some p) : (becomeLost e n b).peers.table[n]? = some p.toLost := by
  rw [becomeLost, raiseLost_table, tellLiveness_peers, modifyPeer_source, hp]
  rfl

theorem becomeLost_waitOf {br : Breaker} (hp : b.peers.table[n]? = some p) (near : e.isNeighbour n = true) (high : br.atHighEnd = true)
    (far : e.farNode br = n) : (becomeLost e n b).waitOf br = none := by
  have low : 1 ≤ e.nodeNumber := by
    have := (isNeighbour_iff e n).1 near
    simp only [Env.farNode, high, if_true] at far
    omega
  have ended : (tellLiveness e (modifyPeer b n PeerEntry.toLost) n .stale .lost).waitOf br = none := by
    unfold tellLiveness
    dsimp only
    rw [if_pos ⟨rfl, near⟩]
    exact toldLost_waitOf high far low _
  have lost : ((tellLiveness e (modifyPeer b n PeerEntry.toLost) n .stale .lost).peers.entry n).liveness = .lost := by
    rw [tellLiveness_peers, entry_of_table (p := n) (pe := p.toLost) (by rw [modifyPeer_source, hp]; rfl)]
    rfl
  exact (raiseLost_lostRaised lost).calm.breakers.waitsEnd br ended

theorem becomeLost_holdsLost (hc : e.configured = true) (near : e.isNeighbour n = true) (free : b.peers.lostId e n = none)
    (short : b.incidents.records.length < 32) : (becomeLost e n b).holdsLost e n :=
  raiseLost_holdsLost hc near (by rw [tellLiveness_peers]; exact free) ((tellLiveness_length ..).trans_lt short)

theorem withFarEnds_holdsLost {f : Blocks → Blocks} (h : (f b).holdsLost e n) : (withFarEnds e b f).holdsLost e n := by
  obtain ⟨id, r, held, found, lost⟩ := h
  obtain ⟨r', found', keeps⟩ := (Acts.foldl (toldFarEnd_acts e) _ (f b)).records id r found
  exact ⟨id, r', by rw [withFarEnds_peers]; exact held, found', lost.standsOn keeps.1⟩

theorem withFarEnds_waitOf {f : Blocks → Blocks} {br : Breaker} (h : (f b).waitOf br = none) : (withFarEnds e b f).waitOf br = none :=
  foldl_related WaitsEnd.refl WaitsEnd.trans (toldFarEnd_waitsEnd e) _ (f b) br h

/-! ### A start that lapses (R58, R60) -/

theorem start_of_old {v : PeerView} {s : StartEntry} (hs : v.starts[n]? = some s) (old : 600 < s.age) : v.start n = none := by
  simp only [PeerView.start, hs]
  exact if_neg (Nat.not_le.2 old)

theorem lapseStep_due {s : StartEntry} (hs : b.peers.starts[n]? = some s) (held : s.start.isSome) (old : 600 < s.age)
    (untold : s.lapsed = false) : lapseStep e b n =
      toldStarts e (b.setPeers { b.peers with starts := b.peers.starts.set n { s with lapsed := true } }) := by
  have due : lapseDue s = true := by simp [lapseDue, held, untold, Config.startAgeMax, old]
  simp only [lapseStep, hs, due, if_true, modifyAt]

theorem lapseStep_told {s : StartEntry} (hs : b.peers.starts[n]? = some s) (told : s.lapsed = true) : lapseStep e b n = b := by
  have due : lapseDue s = false := by simp [lapseDue, told]
  simp [lapseStep, hs, due]

end

/-- Settles O37: each limit of silence by its step, NODE_LOST as it stands when the far ends have been told, and the lapse told once. -/
theorem peersGrowStaleAndLost : Obligations.PeersGrowStaleAndLost := by
  intro e b q n p hp
  refine ⟨fun current due => ?stale, fun x z before after hz => ?liveness, fun stale due => ?lost, fun s hs => ?lapse⟩
  case stale =>
    refine ⟨_, by rw [exec_peerStale, staleStep_due hp current due], rfl, ?_⟩
    rw [tellLiveness_peers, modifyPeer_source, hp]
    rfl
  case liveness =>
    rw [hz]
    rfl
  case lost =>
    have table : (withFarEnds e b (becomeLost e n)).peers.table[n]? = some p.toLost := by rw [withFarEnds_peers, becomeLost_source hp]
    refine ⟨withFarEnds e b (becomeLost e n), by rw [exec_peerLost, lostStep_due hp stale due], table, rfl, fun br far => ?_,
      fun near br high far => withFarEnds_waitOf (becomeLost_waitOf hp near high far), fun configured near free short => ?_⟩
    · exact PeerView.reported_of_unheard (.inr (by rw [far, entry_of_table table]; rfl)) _
    · obtain ⟨id, r, held, found, lost⟩ := withFarEnds_holdsLost (becomeLost_holdsLost (decide_eq_true configured) near free short)
      exact ⟨id, r, held, found, lost.kind, lost.severity, lost.isLocal, lost.span⟩
  case lapse =>
    refine ⟨start_of_old hs, fun held old untold => ?_, fun told => ?_⟩
    · rw [exec_lapse, lapseStep_due hs held old untold]
    · rw [exec_lapse, lapseStep_told hs told]

end Sys2Proof.Machine

/-! SUPPORT. The approaching queues: where an addition takes its place, what follows it, and the frame and the request that bring one
(R76 to R79, R97, R198). -/

namespace Sys2Proof.Machine

/-! ### The place of an addition (R76) -/

theorem insertApproach_eq (a : Approach) (l : List Approach) : insertApproach a l =
    l.takeWhile (fun x => x.upstream ≤ a.upstream) ++ a :: l.dropWhile (fun x => x.upstream ≤ a.upstream) := by
  induction l with
  | nil => rfl
  | cons x l ih =>
    by_cases h : a.upstream < x.upstream
    · simp [insertApproach, h, List.takeWhile, List.dropWhile, Nat.not_le.2 h]
    · simp [insertApproach, h, List.takeWhile, List.dropWhile, Nat.not_lt.1 h, ih]

theorem insertApproach_length (a : Approach) (l : List Approach) : (insertApproach a l).length = l.length + 1 := by
  induction l with
  | nil => rfl
  | cons x l ih => unfold insertApproach; split <;> simp [ih]

/-- A new trip stands at the head unless the head entered no later. -/
theorem insertApproach_head {a : Approach} {l : List Approach} (h : ∀ x ∈ l, x.trip ≠ a.trip) :
    (insertApproach a l).head? = some a ↔ ¬∃ x, l.head? = some x ∧ x.upstream ≤ a.upstream := by
  cases l with
  | nil => simp [insertApproach]
  | cons x l =>
    have other : x ≠ a := fun same => h x List.mem_cons_self (congrArg Approach.trip same)
    by_cases later : a.upstream < x.upstream
    · simp [insertApproach, later, Nat.not_le.2 later]
    · simp [insertApproach, later, other, Nat.not_lt.1 later]

/-! ### The phrase of a trip (R79) -/

theorem phraseOf_eq {s : List Entry} {trip : Nat} {phrase : Option Nat} (unique : (s.map (·.trip)).Nodup)
    (absent : (∀ w ∈ s, w.trip = trip → w.state ≠ .pending) → phrase = none)
    (found : ∀ before w after, s = before ++ w :: after → w.trip = trip → w.state = .pending → (s.map (·.trip)).Nodup →
      phrase = some w.phrase) : phraseOf s trip = phrase := by
  unfold phraseOf
  cases hf : s.find? fun x => decide (x.trip = trip) && decide (x.state = .pending) with
  | none =>
    refine (absent fun w hw same => ?_).symm
    simpa [same] using List.find?_eq_none.1 hf w hw
  | some w =>
    obtain ⟨before, after, split⟩ := List.mem_iff_append.1 (List.mem_of_find?_eq_some hf)
    have is := List.find?_some hf
    rw [Bool.and_eq_true, decide_eq_true_eq, decide_eq_true_eq] at is
    exact (found before w after split is.1 is.2 unique).symm

section
variable {e : Env} {b : Blocks} {t : Track}

/-! ### The stall check (R80) -/

/-- What an entry of a queue is but for its stall mark and incident. -/
def Approach.train (a : Approach) : Nat × Nat × ApproachSource := (a.trip, a.upstream, a.source)

theorem stallCheck_trains (e : Env) (b : Blocks) (t : Track) :
    ((stallCheck e b t).describer.get t).map Approach.train = (b.describer.get t).map Approach.train := by
  unfold stallCheck
  split
  case h_1 a rest sec hq hs =>
    dsimp only
    split
    · simp [Approach.train, hq]
    · rw [hq]
  case h_2 => rfl

/-! ### The regulator told of an addition (R97) -/

theorem toldAddition_unmoved {wasEmpty : Bool} (h : wasEmpty = false ∨ ∀ d, (b.platforms.get t).standing ≠ .occupied .dwell d) :
    toldAddition e b t wasEmpty = b := by
  unfold toldAddition
  split
  case h_1 d hd =>
    obtain rfl := h.resolve_right fun other => other d hd
    rfl
  case h_2 => rfl

section
variable {d : Dwell} (hd : (b.platforms.get t).standing = .occupied .dwell d)
include hd

theorem toldAddition_unused (h : d.mode = .manual ∨ d.followerAvailable = false) (wasEmpty : Bool) : toldAddition e b t wasEmpty = b := by
  unfold toldAddition
  rw [hd]
  dsimp only
  rcases h with h | h <;> simp [h]

/-- The one recomputation of a dwell: its target, and the release check where it is already reached. -/
theorem toldAddition_recomputes (hm : d.mode = .regulated) (hf : d.followerAvailable = true) {g : Nat}
    (hg : g = effectiveGain e b t d.entry.isNone) {i : DwellInput} (hi : i = dwellInput e b t d g) {d' : Dwell}
    (hd' : d' = { d with
      followerAvailable := false, target := some i.target, deviation := d.scheduled.map fun s : Nat => (i.target : Int) - (s : Int) })
    {y : Blocks} (hy : y = queueReport e (writeDwell b t .dwell d') (.recomputation t i.target d'.deviation g)) :
    toldAddition e b t true = if i.target ≤ e.time.service then releaseCheck e y t { d' with targetOver := true } else y := by
  have aimed : d' = { d with followerAvailable := false }.aim i := by rw [hd', hi]; rfl
  have passed : e.passed d'.target = decide (i.target ≤ e.time.service) := by rw [hd']; rfl
  have begun : toldAddition e b t true = if e.passed d'.target then releaseCheck e y t { d' with targetOver := true } else y := by
    unfold toldAddition
    rw [hd, hy, aimed, hi, hg]
    simp only [hm, hf, decide_true, Bool.and_self, if_true]
    rfl
  rw [begun, passed]
  simp only [decide_eq_true_eq]

end

/-! ### An addition and what follows it (R79) -/

/-- The queue takes the entry, with its report. -/
def addedTo (e : Env) (b : Blocks) (t : Track) (new : Approach) : Blocks :=
  queueReport e (b.setApproach t (insertApproach new (b.describer.get t)))
    (.queueAddition t new.trip new.upstream new.source (insertApproach new (b.describer.get t)).length)

/-- The regulator is told and, in SERVICE, APPROACH is offered. -/
def announcedAt (e : Env) (x : Blocks) (t : Track) (wasEmpty : Bool) (upstream : Nat) (phrase : Option Nat) : Blocks :=
  if e.inService then offerApproach e (toldAddition e x t wasEmpty) t upstream phrase else toldAddition e x t wasEmpty

theorem announcedAt_describer (x : Blocks) (wasEmpty : Bool) (upstream : Nat) (phrase : Option Nat) :
    (announcedAt e x t wasEmpty upstream phrase).describer = x.describer := by
  have told := (toldAddition_told e x t wasEmpty).describer
  unfold announcedAt
  split
  · exact (offerApproach_announced ..).describer.trans told
  · exact told

theorem addApproach_eq (e : Env) (b : Blocks) (t : Track) (trip upstream : Nat) (source : ApproachSource) {new : Approach}
    (hn : new = { trip := trip, upstream := upstream, source := source, stallRaised := false, stallId := none }) {z : Blocks}
    (hz : z = announcedAt e (addedTo e b t new) t (b.describer.get t).isEmpty upstream (phraseOf (b.timetable.sequences.get t) trip)) :
    addApproach e b t trip upstream source =
      if (insertApproach new (b.describer.get t)).head? = some new then stallCheck e z t else z := by
  subst hn hz
  have timetable := (toldAddition_told e (addedTo e b t ⟨trip, upstream, source, false, none⟩) t (b.describer.get t).isEmpty).timetable
  unfold announcedAt
  rw [show b.timetable = (toldAddition e (addedTo e b t ⟨trip, upstream, source, false, none⟩) t (b.describer.get t).isEmpty).timetable
    from timetable.symm]
  rfl

theorem addApproach_trains (e : Env) (b : Blocks) (t : Track) (trip upstream : Nat) (source : ApproachSource) :
    ((addApproach e b t trip upstream source).describer.get t).map Approach.train =
      (insertApproach ⟨trip, upstream, source, false, none⟩ (b.describer.get t)).map Approach.train := by
  have placed : ((addedTo e b t ⟨trip, upstream, source, false, none⟩).describer.get t) =
      insertApproach ⟨trip, upstream, source, false, none⟩ (b.describer.get t) := by simp [addedTo]
  rw [addApproach_eq e b t trip upstream source rfl rfl]
  split
  · rw [stallCheck_trains, announcedAt_describer, placed]
  · rw [announcedAt_describer, placed]

/-! ### DESCRIPTION_ERROR (R77) -/

theorem describedInError_iff (i : IncidentTable) (p : PlatformRef) : i.describedInError p = true ↔
    ∃ r ∈ i.records, r.isLocal = true ∧ r.kind = .descriptionError ∧ r.platform = some p := by
  simp [IncidentTable.describedInError, and_assoc]

theorem behindOrAhead_eq {sec : TractionSection}
    (h : e.sectionBehind t = some sec ∨ e.sectionBehind t = none ∧ e.sectionAhead t = some sec) :
    e.behindOrAhead t = sec := by
  rcases h with h | ⟨h, h'⟩
  · simp [Env.behindOrAhead, h]
  · simp [Env.behindOrAhead, h, h']

/-! ### The frame (R76, R77) -/

theorem queueHolds_iff (l : List Approach) (trip : Nat) : queueHolds l trip = true ↔ ∃ a ∈ l, a.trip = trip := by simp [queueHolds]

theorem queueHolds_eq_false {l : List Approach} {trip : Nat} (h : ∀ a ∈ l, a.trip ≠ trip) : queueHolds l trip = false := by
  simpa [queueHolds] using h

section
variable {source : Nat} {c : DepartContents}

theorem takeDepart_ignored (h : e.nodeState = .configuring ∨ e.upstream c.track ≠ some source ∨ c.terminates = true) :
    takeDepart e b source c = b := by
  refine if_neg fun ⟨configured, upstream, stays⟩ => ?_
  rcases h with h | h | h
  · exact of_decide_eq_true configured h
  · exact h upstream
  · exact stays h

variable (hc : e.nodeState ≠ .configuring) (hu : e.upstream c.track = some source) (ht : c.terminates = false)
include hc hu ht

theorem takeDepart_adds (new : ∀ a ∈ b.describer.get c.track, a.trip ≠ c.trip) (room : (b.describer.get c.track).length < 8) :
    takeDepart e b source c = addApproach e b c.track c.trip c.dact .heard := by
  have open_ : ¬(queueHolds (b.describer.get c.track) c.trip = true ∨ Config.approachMax ≤ (b.describer.get c.track).length) := by
    rw [queueHolds_eq_false new]
    exact fun h => h.elim (fun h => nomatch h) (Nat.not_le.2 room)
  exact (if_pos ⟨decide_eq_true hc, hu, by simp [ht]⟩).trans (if_neg open_)

theorem takeDepart_refuses (h : queueHolds (b.describer.get c.track) c.trip = true ∨ 8 ≤ (b.describer.get c.track).length) :
    takeDepart e b source c = queueReport e (describeError e b c.track c.trip)
      (.offerRefused c.track (queueHolds (b.describer.get c.track) c.trip) c.trip c.dact) :=
  (if_pos ⟨decide_eq_true hc, hu, by simp [ht]⟩).trans (if_pos h)

end

/-! ### The request (R78) -/

section
variable {code trip : Nat} {upstream : Option Nat} {q : List Instr} {tag : Byte}

theorem injectTrain_platform (h : 1 < code) : injectTrain e b code trip upstream = (b, .range) := by
  have none_has : Track.ofCode code = none := by
    match code, h with
    | _ + 2, _ => rfl
  simp [injectTrain, none_has]

theorem injectTrain_eq (ht : t.code = code) : injectTrain e b code trip upstream =
    if trip < 1 ∨ 9999 < trip ∨ e.time.service < upstream.getD e.time.service then (b, .range)
    else if queueHolds (b.describer.get t) trip then (b, .duplicate)
    else if 8 ≤ (b.describer.get t).length then (b, .full)
    else (addApproach e b t trip (upstream.getD e.time.service) .injected, .ok) := by
  simp only [injectTrain, Track.ofCode_of_code ht]
  rfl

theorem exec_inject_answered {p : List Byte} (ht : takes b .timetable 3 tag p) (hl : p.length = 6) (hc : e.nodeState ≠ .configuring)
    {x : Blocks} {status : Status}
    (h : injectTrain e (received b) (field p 0 1) (field p 1 2) (fieldOpt p 3 3) = (x, status)) :
    exec (.inject tag p) ⟨⟨e, b⟩, q⟩ = .next (answered e x q .timetable tag [char status.code]) := by
  have permitted : Allowed.configured.permits e.nodeState = true := by
    generalize e.nodeState = s at hc
    cases s with
    | configuring => exact absurd rfl hc
    | ready => rfl
    | service => rfl
  refine (congrArg Host.Outcome.next (request_plain e b q .timetable 3 tag p _ .configured _ ht (decide_eq_true hl) permitted)).trans ?_
  rw [h]

/-- The fields of an INJECT in their places: platform, trip, and the instant or none for now. -/
theorem inject_fields (c1 c2 c3 u1 u2 u3 : Byte) : field [c1, c2, c3, u1, u2, u3] 0 1 = c1.toNat
    ∧ field [c1, c2, c3, u1, u2, u3] 1 2 = c2.toNat * 256 + c3.toNat
    ∧ fieldOpt [c1, c2, c3, u1, u2, u3] 3 3 = if u1 = 0xFF ∧ u2 = 0xFF ∧ u3 = 0xFF then none
      else some (u1.toNat * 65536 + u2.toNat * 256 + u3.toNat) := by
  refine ⟨num_one c1, num_two c2 c3, ?_⟩
  have value : num [u1, u2, u3] = u1.toNat * 65536 + u2.toNat * 256 + u3.toNat := by rw [num_three]; omega
  simp [fieldOpt, fieldChars, readOpt, value]

end

end

/-- Settles O36: the frame and the request by what stands against them, an addition step by step, and each step by its equation. -/
theorem departFramesAndInject : Obligations.DepartFramesAndInject := by
  intro e b q
  refine ⟨fun source payload c x y hs ha hx hy => ?frame, fun t trip u source => ?place,
    fun t trip u source l s phrase x y z hl hseq new absent found unique hx hy hz => ?addition, fun t wasEmpty => ?told,
    fun t u expiry m phrase he hm => ?offer, fun t trip sec hsec => ?error, fun tag c1 p ht hl hc above => ?platform,
    fun tag c1 c2 c3 u1 u2 u3 t trip u ht hc hcode htrip hu => ?inject⟩
  case frame =>
    have taken : exec (.departFrame source payload) ⟨⟨e, b⟩, q⟩ = .next ⟨⟨e, takeDepart e y source.toNat c⟩, q⟩ := by
      rw [exec_departFrame]
      refine congrArg (fun z => Host.Outcome.next (⟨⟨e, z⟩, q⟩ : State)) ((receiveFrame_foreign e b source payload _ ha hs).trans ?_)
      rw [hy, hx]
      rfl
    rw [taken]
    refine ⟨fun h => by rw [takeDepart_ignored h], fun configured upstream stays =>
      ⟨fun room new => ?_, fun a mem same => ?_, fun full new => ?_⟩⟩
    · rw [takeDepart_adds configured upstream stays new room]
    · have held := (queueHolds_iff _ _).2 ⟨a, mem, same⟩
      rw [takeDepart_refuses configured upstream stays (.inl held), held]
    · rw [takeDepart_refuses configured upstream stays (.inr full), queueHolds_eq_false new]
  case place =>
    have trains := addApproach_trains e b t trip u source
    rw [insertApproach_eq, List.map_append, List.map_cons] at trains
    exact trains
  case addition =>
    subst hl hseq
    have placed : x = addedTo e b t ⟨trip, u, source, false, none⟩ := by
      rw [hx, addedTo, insertApproach_length, insertApproach_eq]
    have followed : z = announcedAt e (addedTo e b t ⟨trip, u, source, false, none⟩) t (b.describer.get t).isEmpty u
        (phraseOf (b.timetable.sequences.get t) trip) := by
      rw [hz, hy, placed, phraseOf_eq unique absent found]
      simp only [announcedAt, Env.inService, decide_eq_true_eq]
    rw [addApproach_eq e b t trip u source rfl followed]
    simp only [insertApproach_head (a := ⟨trip, u, source, false, none⟩) new, ite_not]
  case told =>
    refine ⟨toldAddition_unmoved, fun d hd => ⟨fun h => toldAddition_unused hd h wasEmpty, fun g i d' y hm hf hg hi hd' hy => ?_⟩⟩
    exact toldAddition_recomputes hd hm hf hg hi hd' hy
  case offer =>
    rw [hm, he, List.append_assoc]
    rfl
  case error =>
    refine ⟨fun h => if_pos ((describedInError_iff ..).2 h), fun h => ?_⟩
    have open_ : ¬b.incidents.describedInError (e.platformRef t) = true := fun held => by
      obtain ⟨r, hr, isLocal, kind, names⟩ := (describedInError_iff ..).1 held
      exact h r hr isLocal kind names
    refine (if_neg open_).trans ?_
    rw [behindOrAhead_eq hsec]
    rfl
  case platform =>
    refine exec_inject_answered ht (by simp [hl]) hc (injectTrain_platform ?_)
    exact above.trans_eq (num_one c1).symm
  case inject =>
    obtain ⟨platform, tripField, instant⟩ := inject_fields c1 c2 c3 u1 u2 u3
    have answers {x : Blocks} {status : Status}
        (h : (if trip < 1 ∨ 9999 < trip ∨ e.time.service < u then (received b, Status.range)
          else if queueHolds ((received b).describer.get t) trip then (received b, .duplicate)
          else if 8 ≤ ((received b).describer.get t).length then (received b, .full)
          else (addApproach e (received b) t trip u .injected, .ok)) = (x, status)) :
        exec (.inject tag [c1, c2, c3, u1, u2, u3]) ⟨⟨e, b⟩, q⟩ = .next (answered e x q .timetable tag [char status.code]) := by
      refine exec_inject_answered ht rfl hc ?_
      have upstream : (fieldOpt [c1, c2, c3, u1, u2, u3] 3 3).getD e.time.service = u := by
        rw [instant, hu]
        split <;> rfl
      rw [platform, tripField, injectTrain_eq hcode, upstream, ← htrip]
      exact h
    refine ⟨fun range => answers (if_pos range), fun low high reached => ?_⟩
    have describer : (received b).describer = b.describer := rfl
    have inRange : ¬(trip < 1 ∨ 9999 < trip ∨ e.time.service < u) := by omega
    refine ⟨fun a mem same => answers (status := .duplicate) ?_, fun new full => answers (status := .full) ?_,
      fun new room => answers (status := .ok) ?_⟩
    · rw [if_neg inRange, describer, if_pos ((queueHolds_iff _ _).2 ⟨a, mem, same⟩)]
    · rw [if_neg inRange, describer, queueHolds_eq_false new]
      exact if_pos full
    · rw [if_neg inRange, describer, queueHolds_eq_false new]
      exact if_neg (Nat.not_le.2 room)

end Sys2Proof.Machine

/-! SUPPORT. The isolation items that a POWER frame moves: which items fail, which are confirmed, and what stands (R132, R153). -/

namespace Sys2Proof.Machine

/-! ### The isolation lists of the table -/

/-- Isolation lists under their ids, in table order. -/
abbrev ItemLists := List (IncidentId × List IsolationItem)

/-- The isolation lists that the Incident Table holds. -/
def Blocks.itemLists (b : Blocks) : ItemLists := b.incidents.records.map fun r => (r.id, r.items)

/-- The named items of the lists in a new state. -/
def ItemLists.marked (t : ItemLists) (s : ItemState) (l : List (IncidentId × TractionSection)) : ItemLists :=
  t.map fun x => (x.1, x.2.map fun i => if (x.1, i.sec) ∈ l then { i with state := s } else i)

theorem ItemLists.marked_nil (t : ItemLists) (s : ItemState) : t.marked s [] = t := by
  simp [marked]

theorem ItemLists.marked_cons (t : ItemLists) (s : ItemState) (x : IncidentId × TractionSection) (l : List (IncidentId × TractionSection)) :
    t.marked s (x :: l) = (t.marked s [x]).marked s l := by
  simp only [marked, List.map_map]
  refine List.map_congr_left fun y _ => congrArg (Prod.mk y.1) ?_
  dsimp only [Function.comp]
  rw [List.map_map]
  refine List.map_congr_left fun i _ => ?_
  dsimp only [Function.comp]
  by_cases named : (y.1, i.sec) = x
  · simp [named]
  · simp [named]

/-- Records that keep their isolation lists, whatever else of them changes. -/
theorem modifyRecord_itemLists {f : Incident → Incident} (hf : ∀ r, (f r).id = r.id ∧ (f r).items = r.items) (b : Blocks)
    (id : IncidentId) :
    (b.modifyRecord id f).itemLists = b.itemLists := by
  rw [Blocks.itemLists, Blocks.modifyRecord_incidents, List.map_map]
  refine List.map_congr_left fun r _ => ?_
  obtain ⟨sameId, sameItems⟩ := hf r
  dsimp only [Function.comp]
  split
  · rw [sameId, sameItems]
  · rfl

theorem setItem_itemLists (b : Blocks) (id : IncidentId) (sec : TractionSection) (s : ItemState) :
    (setItem b id sec fun i => { i with state := s }).itemLists = b.itemLists.marked s [(id, sec)] := by
  rw [setItem, Blocks.itemLists, Blocks.modifyRecord_incidents, Blocks.itemLists, ItemLists.marked, List.map_map, List.map_map]
  refine List.map_congr_left fun r _ => ?_
  dsimp only [Function.comp]
  by_cases hid : r.id = id
  · cases own : r.isLocal with
    | true => simp [hid, Incident.items_setItems own, (r.setItems_standsOn _).id_eq]
    | false =>
      have none_ : r.items = [] := by
        unfold Incident.items
        split
        case h_1 o ho => simp [Incident.isLocal, ho, Holding.isLocal] at own
        case h_2 => rfl
      simp [Incident.items_of_copy own, none_]
  · simp [hid]

/-! ### Items that fail (R132, R153) -/

/-- The Power Controller, the coils and the isolation lists stand. -/
structure ItemsStand (b b' : Blocks) : Prop where
  power : b'.power = b.power
  coils : b'.field.coils = b.field.coils
  lists : b'.itemLists = b.itemLists

theorem ItemsStand.refl (b : Blocks) : ItemsStand b b := ⟨rfl, rfl, rfl⟩

theorem ItemsStand.trans {a b c : Blocks} (h : ItemsStand a b) (k : ItemsStand b c) : ItemsStand a c :=
  ⟨k.power.trans h.power, k.coils.trans h.coils, k.lists.trans h.lists⟩

theorem ItemsStand.of_incidents {b b' : Blocks} (hp : b'.power = b.power) (hc : b'.field.coils = b.field.coils)
    (hi : b'.incidents.records = b.incidents.records) : ItemsStand b b' := ⟨hp, hc, by rw [Blocks.itemLists, hi]; rfl⟩

theorem modifyRecord_itemsStand {f : Incident → Incident} (hf : ∀ r, (f r).id = r.id ∧ (f r).items = r.items) (b : Blocks)
    (id : IncidentId) : ItemsStand b (b.modifyRecord id f) := ⟨rfl, rfl, modifyRecord_itemLists hf b id⟩

theorem Incident.refreshed_items (r : Incident) : r.refreshed.items = r.items := by
  unfold Incident.refreshed
  split
  case h_1 o ho => simp [Incident.items, ho]
  case h_2 => rfl

theorem queueIncidentFrame_itemsStand (e : Env) (b : Blocks) (id : IncidentId) (action : IncidentAction) (reason : Option CloseReason) :
    ItemsStand b (queueIncidentFrame e b id action reason) := by
  unfold queueIncidentFrame
  split
  case h_1 r h =>
    obtain ⟨l, p, eq⟩ := queueFrame_eq e b (.incident (r.contents action reason))
    rw [eq]
    have queued : ItemsStand b ((b.setBus l).setPort p) := .of_incidents rfl rfl rfl
    exact queued.trans (modifyRecord_itemsStand (fun r => ⟨r.refreshed_id, r.refreshed_items⟩) _ id)
  case h_2 => exact .refl b

theorem tellChange_itemsStand (e : Env) (b : Blocks) (before after : Nat) : ItemsStand b (tellChange e b before after) := by
  have told : ItemsStand b (toldIncident e b) :=
    .of_incidents (toldIncident_told e b).power (toldIncident_told e b).coils (by rw [(toldIncident_told e b).incidents])
  have sounded (x : Blocks) : ItemsStand x (soundAlarm x after) :=
    .of_incidents (soundAlarm_power ..) (by unfold soundAlarm; split <;> rfl) (soundAlarm_records ..)
  unfold tellChange
  dsimp only
  split
  · exact told.trans (sounded _)
  · exact told

theorem escalate_itemsStand (e : Env) (b : Blocks) (id : IncidentId) : ItemsStand b (escalate e b id) := by
  unfold escalate
  split
  case h_1 r _ =>
    split
    · split
      · refine .trans ?_ (queueIncidentFrame_itemsStand ..)
        refine modifyRecord_itemsStand (fun r => ?_) b id
        exact ⟨rfl, rfl⟩
      · have floored : ItemsStand b (b.modifyRecord id fun r =>
            { r.mapOwned (fun o => { o with floor := 4 }) with severity := 4, isolationFailed := true }) := by
          refine modifyRecord_itemsStand (fun r => ?_) b id
          refine ⟨r.mapOwned_id _, ?_⟩
          unfold Incident.mapOwned
          split
          case h_1 o ho => simp [Incident.items, ho]
          case h_2 => rfl
        have reported (x : Blocks) : ItemsStand x (reportIncident e x .escalated id) :=
          .of_incidents (reportIncident_power ..) (by unfold reportIncident; split <;> rfl) (by rw [reportIncident_incidents])
        exact .trans floored (.trans (queueIncidentFrame_itemsStand ..) (.trans (reported _) (tellChange_itemsStand ..)))
    · exact .refl b
  case h_2 => exact .refl b

/-- An item's record alone is written, but for the reports and what the escalation brings. -/
theorem failItem_stands (e : Env) (b : Blocks) (id : IncidentId) (sec : TractionSection) :
    (failItem e b id sec).power = b.power ∧ (failItem e b id sec).field.coils = b.field.coils
      ∧ (failItem e b id sec).itemLists = b.itemLists.marked .failed [(id, sec)] := by
  have stand := escalate_itemsStand e
    (queueReport e (setItem b id sec fun i => { i with state := .failed }) (.itemChange id sec .failed)) id
  exact ⟨stand.power, stand.coils, stand.lists.trans (setItem_itemLists ..)⟩

/-- The named items become FAILED one after the other. -/
def failItems (e : Env) (b : Blocks) (l : List (IncidentId × TractionSection)) : Blocks :=
  l.foldl (fun b x => failItem e b x.1 x.2) b

theorem failItems_keeps (e : Env) (b : Blocks) (l : List (IncidentId × TractionSection)) : Keeps b (failItems e b l) :=
  Keeps.foldl (fun _ _ => failItem_keeps ..) l b

theorem failItems_stands (e : Env) (l : List (IncidentId × TractionSection)) (b : Blocks) :
    (failItems e b l).power = b.power ∧ (failItems e b l).field.coils = b.field.coils
      ∧ (failItems e b l).itemLists = b.itemLists.marked .failed l := by
  induction l generalizing b with
  | nil => exact ⟨rfl, rfl, (ItemLists.marked_nil ..).symm⟩
  | cons x l ih =>
    obtain ⟨power, coils, lists⟩ := failItem_stands e b x.1 x.2
    obtain ⟨powers, coilsAll, listsAll⟩ := ih (failItem e b x.1 x.2)
    refine ⟨powers.trans power, coilsAll.trans coils, listsAll.trans ?_⟩
    rw [lists, ItemLists.marked_cons _ _ x l]

/-! ### Items that are confirmed (R132) -/

theorem foldl_confirmItem_itemLists (e : Env) {x : Blocks} (l : List (IncidentId × TractionSection)) :
    ∀ b : Blocks, b.peers = x.peers → b.power = x.power →
      (l.foldl (fun b y => confirmItem e b y.1 y.2) b).itemLists = b.itemLists.marked .confirmed (l.filter fun y => bothOpen e x y.2) := by
  induction l with
  | nil => exact fun b _ _ => (ItemLists.marked_nil ..).symm
  | cons y l ih =>
    intro b hp hb
    rw [List.foldl_cons, confirmItem, bothOpen_congr hp hb]
    cases opened : bothOpen e x y.2 with
    | false => simpa [opened] using ih b hp hb
    | true =>
      rw [if_pos rfl, List.filter_cons, opened, if_pos rfl, ItemLists.marked_cons, ← setItem_itemLists]
      exact ih _ hp hb

theorem confirmItems_itemLists (e : Env) (b : Blocks) (p : TractionSection → Bool) : (confirmItems e b p).itemLists =
    b.itemLists.marked .confirmed ((pendingItems b p).filter fun x => bothOpen e b x.2) := foldl_confirmItem_itemLists e _ b rfl rfl

/-! ### One item of the table -/

/-- An item of a list that no other list and no other item can be taken for. -/
structure ItemLists.Lists (t : ItemLists) (id : IncidentId) (i : IsolationItem) : Prop where
  ids : (t.map (·.1)).Nodup
  listed : ∃ l, (id, l) ∈ t ∧ (l.map (·.sec)).Nodup ∧ i ∈ l

theorem itemLists_ids (b : Blocks) : b.itemLists.map (·.1) = b.incidents.records.map (·.id) := by
  rw [Blocks.itemLists, List.map_map]
  rfl

/-- One list stands under an id. -/
theorem ItemLists.eq_of_ids {t : ItemLists} (h : (t.map (·.1)).Nodup) {id : IncidentId} {l l' : List IsolationItem} (hl : (id, l) ∈ t)
    (hl' : (id, l') ∈ t) : l = l' :=
  congrArg Prod.snd (List.inj_on_of_nodup_map h hl hl' rfl)

theorem lists_of_find {b : Blocks} {id : IncidentId} {r : Incident} {i : IsolationItem} (hp : b.incidents.proper)
    (hr : b.incidents.find id = some r) (hs : (r.items.map (·.sec)).Nodup) (hi : i ∈ r.items) : b.itemLists.Lists id i where
  ids := by rw [itemLists_ids]; exact hp.2
  listed := ⟨r.items, List.mem_map.2 ⟨r, List.mem_of_find?_eq_some hr, by rw [IncidentTable.find_id hr]⟩, hs, hi⟩

/-- An item that no other can be taken for is the one that the table shows. -/
theorem ItemLists.Lists.item {b : Blocks} {id : IncidentId} {i : IsolationItem} (h : b.itemLists.Lists id i) :
    b.item id i.sec = some i := by
  obtain ⟨ids, l, mem, secs, hi⟩ := h
  rw [itemLists_ids] at ids
  obtain ⟨r, hr, same⟩ := List.mem_map.1 mem
  obtain ⟨rfl, rfl⟩ := Prod.mk.inj same
  rw [Blocks.item, find_of_nodup ids hr, Option.bind_some]
  cases found : r.items.find? fun j => decide (j.sec = i.sec) with
  | none => exact absurd (decide_eq_true rfl) (List.find?_eq_none.1 found i hi)
  | some j =>
    have sameSec : j.sec = i.sec := by simpa using List.find?_some found
    rw [List.inj_on_of_nodup_map secs (List.mem_of_find?_eq_some found) hi sameSec]

/-- The item among the PENDING ones. -/
theorem ItemLists.Lists.mem_pendingItems {b : Blocks} {id : IncidentId} {i : IsolationItem} (h : b.itemLists.Lists id i)
    (p : TractionSection → Bool) : (id, i.sec) ∈ pendingItems b p ↔ i.state = .pending ∧ p i.sec = true := by
  obtain ⟨ids, l, mem, secs, hi⟩ := h
  simp only [pendingItems, List.mem_flatMap, List.mem_map, List.mem_filter, Bool.and_eq_true, decide_eq_true_eq, Prod.mk.injEq]
  refine ⟨fun ⟨r, hr, j, ⟨hj, pending, holds⟩, hid, sameSec⟩ => ?_, fun ⟨pending, holds⟩ => ?_⟩
  · have same : r.items = l := eq_of_ids ids (List.mem_map.2 ⟨r, hr, by rw [hid]⟩) mem
    obtain rfl : j = i := List.inj_on_of_nodup_map secs (same ▸ hj) hi sameSec
    exact ⟨pending, holds⟩
  · obtain ⟨r, hr, same⟩ := List.mem_map.1 mem
    obtain ⟨rfl, rfl⟩ := Prod.mk.inj same
    exact ⟨r, hr, i, ⟨hi, pending, holds⟩, rfl, rfl⟩

/-- The item after some are marked. -/
theorem ItemLists.Lists.marked {t : ItemLists} {id : IncidentId} {i : IsolationItem} (h : t.Lists id i) {s : ItemState}
    {l : List (IncidentId × TractionSection)} {p : Prop} [Decidable p] (hl : (id, i.sec) ∈ l ↔ p) :
    (t.marked s l).Lists id (if p then { i with state := s } else i) := by
  obtain ⟨ids, items, mem, secs, hi⟩ := h
  refine ⟨?_, _, List.mem_map.2 ⟨_, mem, rfl⟩, ?_, ?_⟩
  · rw [ItemLists.marked, List.map_map]
    exact ids
  · rw [List.map_map]
    refine (congrArg List.Nodup (List.map_congr_left fun j _ => ?_)).mpr secs
    dsimp only [Function.comp]
    split <;> rfl
  · exact List.mem_map.2 ⟨i, hi, if_congr hl rfl rfl⟩

end Sys2Proof.Machine

/-! SUPPORT. STATUS and POWER frames: the peer table they write, the isolation items they move, and the restore waits they end
(R53, R54, R132, R137, R138). -/

namespace Sys2Proof.Machine

/-! ### Breaker reports after a frame (R53, R54) -/

theorem statusReports_get (old : PerBreaker (Option BreakerReport)) (c : StatusContents) (br : Breaker) :
    (statusReports old c).get br = statusReport (old.get br) (c.breakers.get br) c.keyLocal := by
  cases br <;> rfl

theorem statusReport_known (old : Option BreakerReport) (st : BreakerState) (keyLocal : Bool) :
    statusReport old (.known st) keyLocal = some
      { state := st, keyLocal := keyLocal, lockout := old.bind (·.lockout), reason := old.bind (·.reason), byPower := false } := by
  cases old <;> rfl

theorem statusReport_of_not_known {now : ReportedBreaker} (h : ∀ st, now ≠ .known st) (old : Option BreakerReport) (keyLocal : Bool) :
    statusReport old now keyLocal = none := by
  cases now with
  | known st => exact absurd rfl (h st)
  | unknown => rfl
  | absent => rfl

/-- A peer's entry after a STATUS frame (R53). -/
def PeerEntry.withStatus (p : PeerEntry) (now : Nat) (c : StatusContents) : PeerEntry :=
  { p with lastStatus := some { contents := c, takenAt := now }, reports := statusReports p.reports c }

/-- A peer's entry after a POWER frame (R54). -/
def PeerEntry.withPower (p : PeerEntry) (c : PowerContents) : PeerEntry :=
  { p with
    reports := p.reports.set c.breaker (some
      { state := c.state, keyLocal := c.keyLocal, lockout := some { count := c.lockoutCount, overlock := c.overlock }
        reason := c.reason, byPower := true }) }

theorem PeerEntry.withStatus_known {c : StatusContents} {br : Breaker} {st : BreakerState} (h : c.breakers.get br = .known st)
    (p : PeerEntry) (now : Nat) : (p.withStatus now c).reports.get br = some
      { state := st, keyLocal := c.keyLocal, lockout := (p.reports.get br).bind (·.lockout), reason := (p.reports.get br).bind (·.reason)
        byPower := false } := by
  rw [withStatus, statusReports_get, h, statusReport_known]

/-- A STATUS frame before the far ends are told. -/
def statusTaken (e : Env) (source : Nat) (c : StatusContents) (b : Blocks) : Blocks :=
  allTracks.foldl (statusStart e source c) (modifyPeer b source (·.withStatus e.now c))

/-- A POWER frame before the far ends are told. -/
def powerTaken (source : Nat) (c : PowerContents) (b : Blocks) : Blocks := modifyPeer b source (·.withPower c)

section
variable {e : Env} {b : Blocks} {n : Nat} {p : PeerEntry}

theorem peerStatus_eq (e : Env) (b : Blocks) (n : Nat) (c : StatusContents) :
    peerStatus e b n c = withFarEnds e b (statusTaken e n c) := rfl

theorem peerPower_eq (e : Env) (b : Blocks) (n : Nat) (c : PowerContents) : peerPower e b n c = withFarEnds e b (powerTaken n c) := rfl

theorem statusTaken_source (hp : b.peers.table[n]? = some p) (c : StatusContents) :
    (statusTaken e n c b).peers.table[n]? = some (p.withStatus e.now c) := by
  rw [statusTaken, statusStarts_table, modifyPeer_source, hp, Option.map_some]

theorem powerTaken_source (hp : b.peers.table[n]? = some p) (c : PowerContents) :
    (powerTaken n c b).peers.table[n]? = some (p.withPower c) := by
  rw [powerTaken, modifyPeer_source, hp, Option.map_some]

theorem modifyPeer_closeHeld (br : Breaker) (b : Blocks) (n : Nat) (f : PeerEntry → PeerEntry) : CloseHeld br b (modifyPeer b n f) :=
  .of_same rfl rfl rfl

theorem offerStart_closeHeld (br : Breaker) (e : Env) (b : Blocks) (sec : TractionSection) (d : Nat) :
    CloseHeld br b (offerStart e b sec d) := by
  unfold offerStart
  dsimp only
  split
  · exact .refl br b
  · refine .trans ?_ (toldStarts_told ..).closeHeld
    exact .of_same rfl rfl rfl

theorem statusTaken_closeHeld (br : Breaker) (e : Env) (b : Blocks) (n : Nat) (c : StatusContents) :
    CloseHeld br b (statusTaken e n c b) := by
  refine .trans (modifyPeer_closeHeld br b n _) (.foldl allTracks (fun t _ x => ?_) _)
  unfold statusStart
  split
  · exact offerStart_closeHeld ..
  · exact .refl br x

/-- A source that has been heard is CURRENT (R51). -/
theorem hear_current (hp : (hear e b n).peers.table[n]? = some p) : p.liveness = .current := by
  rw [hear_table, modifyAt_getElem?, if_pos rfl] at hp
  obtain ⟨_, -, rfl⟩ := Option.map_eq_some_iff.1 hp
  rfl

theorem farReport_closed {br : Breaker} {x : BreakerReport} (far : e.farNode br = n) (hp : b.peers.table[n]? = some p)
    (current : p.liveness = .current) (hx : p.reports.get br.far = some x) (closed : x.state = .closed) :
    (farReport e b br).map (·.1) = some .closed := by
  rw [farReport, far, PeerView.reported_of_heard hp (.inl current), hx]
  exact congrArg some closed

end

/-! ### What a POWER frame does at the Power Controller (R132, R138) -/

/-- The items that a POWER frame's refusal fails, and then those that both ends confirm (R132). -/
def movedItems (e : Env) (b : Blocks) (sec : TractionSection) (reason : Option Nat) : Blocks :=
  confirmItems e (if reason = some RefusalReason.keyLocal.code then failItems e b (pendingItems b fun s => decide (s = sec)) else b)
    fun _ => true

section
variable {e : Env} {b : Blocks} {sec : TractionSection} {reason : Option Nat}

theorem movedItems_keeps : Keeps b (movedItems e b sec reason) :=
  .trans (.ite _ (failItems_keeps ..)) (confirmItems_keeps ..)

theorem movedItems_power : (movedItems e b sec reason).power = b.power := by
  refine (confirmItems_power ..).trans ?_
  split
  · exact (failItems_stands ..).1
  · rfl

theorem movedItems_coils : (movedItems e b sec reason).field.coils = b.field.coils := by
  refine (confirmItems_coils ..).trans ?_
  split
  · exact (failItems_stands ..).2.1
  · rfl

theorem confirmItems_lists {id : IncidentId} {i : IsolationItem} (h : b.itemLists.Lists id i) :
    (confirmItems e b fun _ => true).itemLists.Lists id
      (if i.state = .pending ∧ bothOpen e b i.sec = true then { i with state := .confirmed } else i) := by
  rw [confirmItems_itemLists]
  refine h.marked ?_
  rw [List.mem_filter, h.mem_pendingItems]
  simp

/-- An item PENDING in the refused section fails; then each that is PENDING still is confirmed where both ends are known OPEN. -/
theorem movedItems_lists {id : IncidentId} {i j : IsolationItem} (h : b.itemLists.Lists id i)
    (hj : j = if reason = some 1 ∧ i.state = .pending ∧ i.sec = sec then { i with state := .failed } else i) :
    (movedItems e b sec reason).itemLists.Lists id
      (if j.state = .pending ∧ bothOpen e b j.sec = true then { j with state := .confirmed } else j) := by
  unfold movedItems
  have code : RefusalReason.keyLocal.code = 1 := rfl
  by_cases refused : reason = some 1
  · rw [code, if_pos refused]
    have failed : (failItems e b (pendingItems b fun s => decide (s = sec))).itemLists.Lists id j := by
      rw [hj, (failItems_stands ..).2.2]
      refine h.marked ?_
      rw [h.mem_pendingItems, decide_eq_true_eq]
      simp [refused]
    have confirmed := confirmItems_lists (e := e) failed
    rwa [bothOpen_congr (failItems_keeps ..).peers (failItems_stands ..).1] at confirmed
  · rw [code, if_neg refused]
    have same : j = i := by rw [hj, if_neg fun held => refused held.1]
    rw [same]
    exact confirmItems_lists h

theorem pendingItems_eq_nil (h : ∀ r ∈ b.incidents.records, ∀ i ∈ r.items, i.state ≠ .pending) (p : TractionSection → Bool) :
    pendingItems b p = [] := by
  refine List.flatMap_eq_nil_iff.2 fun r hr => ?_
  rw [List.map_eq_nil_iff, List.filter_eq_nil_iff]
  intro i hi
  simp [h r hr i hi]

theorem movedItems_of_no_pending (h : ∀ r ∈ b.incidents.records, ∀ i ∈ r.items, i.state ≠ .pending) :
    movedItems e b sec reason = b := by
  simp [movedItems, failItems, confirmItems, pendingItems_eq_nil h]

end

/-! ### The end of a restore wait by a far refusal (R138) -/

theorem fed_of_ownBreaker {e : Env} {sec : TractionSection} {br : Breaker} (h : e.ownBreaker sec = some br) : e.fed br = sec := by
  obtain ⟨track, gap⟩ := sec
  obtain ⟨end_, -⟩ := Option.filter_eq_some_iff.1 h
  unfold TractionSection.breakerAt at end_
  split_ifs at end_ with low high
  · obtain rfl := Option.some.inj end_
    rw [Env.fed, Breaker.fed, low]
    cases track <;> rfl
  · obtain rfl := Option.some.inj end_
    rw [Env.fed, Breaker.fed, high]
    cases track <;> rfl

theorem endWait_waitOf_none {e : Env} {b : Blocks} {br : Breaker} (h : b.waitOf br = none) (reason : RefusalReason) :
    endWait e b br reason = b := by simp [endWait, h]

theorem endWait_incidents (e : Env) (b : Blocks) (br : Breaker) (reason : RefusalReason) :
    (endWait e b br reason).incidents = b.incidents := by
  unfold endWait
  split
  · obtain ⟨l, p, eq⟩ := queuePowerFrame_eq e (clearWait b br) br (some reason)
    rw [refuseRestore, eq, clearWait]
    unfold modifyBreaker
    split
    · exact Blocks.setBreaker_incidents ..
    · rfl
  · rfl

theorem endWait_waitOf (e : Env) (b : Blocks) (br : Breaker) (reason : RefusalReason) : (endWait e b br reason).waitOf br = none := by
  cases hr : b.power.breakers.get br with
  | none =>
    have absent : b.waitOf br = none := by simp [Blocks.waitOf, hr]
    rw [endWait_waitOf_none absent, absent]
  | some r => rw [waitOf_of_record (endWait_get hr reason)]

/-- What stands at a breaker that has no wait. -/
theorem endWait_recordHeld {e : Env} {b : Blocks} {br : Breaker} (h : b.waitOf br = none) (y : Breaker) (reason : RefusalReason) :
    RecordHeld br b (endWait e b y reason) := by
  by_cases hy : br = y
  · rw [← hy, endWait_waitOf_none h]
    exact .refl br b
  · refine ⟨fun r hr => ⟨r.sectionState, ?_⟩, by rw [endWait_coils]⟩
    rw [(endWait_atBreaker e b y reason).others br hy, hr]

section
variable {e : Env} {y : Blocks} {s : Nat} {c : PowerContents} {br : Breaker}

theorem takePower_ends (own : e.ownBreaker (c.breaker.fed s) = some br) (high : br.atHighEnd = true) (refused : c.reason ≠ none) :
    takePower e y s c = endWait e (movedItems e y (c.breaker.fed s) c.reason) br .restoreIncomplete := by
  have some_ : br.atHighEnd = true ∧ c.reason.isSome = true := ⟨high, Option.isSome_iff_ne_none.2 refused⟩
  simp only [takePower, own, if_pos some_]
  rfl

theorem takePower_moves (h : ∀ br, e.ownBreaker (c.breaker.fed s) = some br → ¬(br.atHighEnd = true ∧ c.reason ≠ none)) :
    takePower e y s c = movedItems e y (c.breaker.fed s) c.reason := by
  cases own : e.ownBreaker (c.breaker.fed s) with
  | none =>
    simp only [takePower, own]
    rfl
  | some br =>
    have none_ : ¬(br.atHighEnd = true ∧ c.reason.isSome = true) := by
      rw [Option.isSome_iff_ne_none]
      exact h br own
    simp only [takePower, own, if_neg none_]
    rfl

/-- The items move, and the wait of at most one breaker ends. -/
theorem takePower_cases (e : Env) (y : Blocks) (s : Nat) (c : PowerContents) :
    takePower e y s c = movedItems e y (c.breaker.fed s) c.reason
      ∨ ∃ br, e.ownBreaker (c.breaker.fed s) = some br ∧ br.atHighEnd = true ∧ c.reason ≠ none
        ∧ takePower e y s c = endWait e (movedItems e y (c.breaker.fed s) c.reason) br .restoreIncomplete := by
  by_cases h : ∃ br, e.ownBreaker (c.breaker.fed s) = some br ∧ br.atHighEnd = true ∧ c.reason ≠ none
  · obtain ⟨br, own, high, refused⟩ := h
    exact .inr ⟨br, own, high, refused, takePower_ends own high refused⟩
  · exact .inl (takePower_moves fun br own held => h ⟨br, own, held⟩)

theorem takePower_incidents (e : Env) (y : Blocks) (s : Nat) (c : PowerContents) :
    (takePower e y s c).incidents = (movedItems e y (c.breaker.fed s) c.reason).incidents := by
  rcases takePower_cases e y s c with h | ⟨br, -, -, -, h⟩ <;> rw [h]
  exact endWait_incidents ..

theorem takePower_recordHeld (h : y.waitOf br = none) : RecordHeld br y (takePower e y s c) := by
  have moved : RecordHeld br y (movedItems e y (c.breaker.fed s) c.reason) := .of_power movedItems_power movedItems_coils
  rcases takePower_cases e y s c with same | ⟨x, -, -, -, same⟩ <;> rw [same]
  · exact moved
  · exact moved.trans (endWait_recordHeld (by rw [Blocks.waitOf, movedItems_power]; exact h) x _)

/-- A wait that a far refusal ends (R138). -/
theorem takePower_refuses {r : BreakerRecord} {w : RestoreWait} (own : e.ownBreaker (c.breaker.fed s) = some br)
    (high : br.atHighEnd = true) (refused : c.reason ≠ none) (hr : y.power.breakers.get br = some r) (hw : r.wait = some w) :
    takePower e y s c = queueReport e
      (queuePowerFrame e ((movedItems e y (c.breaker.fed s) c.reason).setBreaker br { r with wait := none }) br (some .restoreIncomplete))
      (.restoreRefused (c.breaker.fed s) w.requester 7) := by
  have stands : (movedItems e y (c.breaker.fed s) c.reason).power.breakers.get br = some r := by rw [movedItems_power, hr]
  rw [takePower_ends own high refused, endWait_of_some stands hw, refuseRestore, clearWait_eq stands, fed_of_ownBreaker own]
  rfl

/-- The item as it stands after the frame. -/
theorem takePower_item {id : IncidentId} {i j : IsolationItem} (h : y.itemLists.Lists id i)
    (hj : j = if c.reason = some 1 ∧ i.state = .pending ∧ i.sec = c.breaker.fed s then { i with state := .failed } else i) :
    (takePower e y s c).item id j.sec =
      some (if j.state = .pending ∧ bothOpen e y j.sec = true then { j with state := .confirmed } else j) := by
  have moved := (movedItems_lists (e := e) (reason := c.reason) h hj).item
  have sec : (if j.state = .pending ∧ bothOpen e y j.sec = true then { j with state := .confirmed } else j).sec = j.sec := by
    split <;> rfl
  rw [sec] at moved
  rw [Blocks.item, takePower_incidents]
  exact moved

end

/-! ### High ends that wait for a neighbour that is LOST (R137) -/

theorem lostEnds_of_neighbour {e : Env} (h : 1 ≤ e.nodeNumber) : lostEnds e (e.nodeNumber - 1) = [.ul, .dl] := by
  have ul : e.present .ul = true := present_of_highEnd rfl h
  have dl : e.present .dl = true := present_of_highEnd rfl h
  simp [lostEnds, allBreakers, Env.farNode, Breaker.atHighEnd, ul, dl]

/-- Where one high end alone waits, its wait alone is tried. -/
theorem toldLost_of_one_wait {e : Env} {y : Blocks} {br : Breaker} (high : br.atHighEnd = true) (h : 1 ≤ e.nodeNumber)
    (others : ∀ other, other ≠ br → other.atHighEnd = true → y.waitOf other = none) :
    toldLost e y (e.nodeNumber - 1) = tryWait e y br := by
  rw [toldLost_eq, lostEnds_of_neighbour h]
  cases br with
  | ul => exact tryWait_of_none (tryWait_waitsEnd e y .ul .dl (others .dl (by decide) rfl))
  | dl => exact congrArg (tryWait e · .dl) (tryWait_of_none (others .ul (by decide) rfl))
  | uh => cases high
  | dh => cases high

/-! ### The frames taken from the bus -/

section
variable {e : Env} {b x : Blocks} {source : Byte} {payload : List Byte}

theorem exec_statusFrame_foreign {c : StatusContents} (ha : arrives e b source payload (.status c)) (hs : source.toNat ≠ e.nodeNumber)
    (hx : x = heardFrom e b source) (q : List Instr) :
    exec (.statusFrame source payload) ⟨⟨e, b⟩, q⟩ = .next ⟨⟨e, peerStatus e x source.toNat c⟩, q⟩ := by
  rw [exec_statusFrame, hx]
  exact congrArg (fun z => Host.Outcome.next (⟨⟨e, z⟩, q⟩ : State)) (receiveFrame_foreign e b source payload _ ha hs)

theorem exec_powerFrame_foreign {c : PowerContents} (ha : arrives e b source payload (.power c)) (hs : source.toNat ≠ e.nodeNumber)
    (hx : x = heardFrom e b source) (q : List Instr) :
    exec (.powerFrame source payload) ⟨⟨e, b⟩, q⟩ =
      .next ⟨⟨e, takePower e (peerPower e x source.toNat c) source.toNat c⟩, q⟩ := by
  rw [exec_powerFrame, hx]
  exact congrArg (fun z => Host.Outcome.next (⟨⟨e, z⟩, q⟩ : State)) (receiveFrame_foreign e b source payload _ ha hs)

/-- A high end that waits, whose neighbour's frame brings its far end to CLOSED, has its wait tried (R137). -/
theorem frame_tried {f : Blocks → Blocks} {br : Breaker} {r : BreakerRecord} {w : RestoreWait} {p : PeerEntry} {n : Nat}
    {report : BreakerReport} (hf : CloseHeld br x (f x)) (high : br.atHighEnd = true) (far : e.farNode br = n) (foreign : n ≠ e.nodeNumber)
    (before : (farReport e x br).map (·.1) ≠ some .closed) (hp : (f x).peers.table[n]? = some p) (current : p.liveness = .current)
    (hx : p.reports.get br.far = some report) (closed : report.state = .closed) (hr : x.power.breakers.get br = some r)
    (hw : r.wait = some w) : WaitTried e x br r w (withFarEnds e x f) := by
  have inner : 1 ≤ e.nodeNumber := by
    rw [Env.farNode, if_pos high] at far
    omega
  exact withFarEnds_tried hf high (present_of_highEnd high inner) before (farReport_closed far hp current hx closed) hr hw

end

/-- Settles O32: what each frame writes, then the items and the wait that a POWER frame moves, then the waits that a far end ends. -/
theorem statusAndPowerFrames : Obligations.StatusAndPowerFrames := by
  refine ⟨fun e b x q source payload p hs hx hp => ⟨fun c ha => ?status, fun c ha => ?power, fun y s c sec hsec => ?taken⟩, ?waits, ?told⟩
  case status =>
    have table : (peerStatus e x source.toNat c).peers.table[source.toNat]? = some (p.withStatus e.now c) := by
      rw [peerStatus_eq, withFarEnds_peers, statusTaken_source hp]
    refine ⟨_, _, exec_statusFrame_foreign ha hs hx q, rfl, table, rfl, fun br st known => ?_, fun br unknown => ?_⟩
    · exact ⟨_, PeerEntry.withStatus_known known p _, rfl, rfl, rfl, rfl, rfl⟩
    · rw [PeerEntry.withStatus, statusReports_get, statusReport_of_not_known unknown]
  case power =>
    have table : (takePower e (peerPower e x source.toNat c) source.toNat c).peers.table[source.toNat]? = some (p.withPower c) := by
      rw [(takePower_keeps ..).peers, peerPower_eq, withFarEnds_peers, powerTaken_source hp]
    refine ⟨_, _, exec_powerFrame_foreign ha hs hx q, rfl, table, rfl, ?_, fun br other => ?_⟩
    · exact (PerBreaker.get_set ..).trans (if_pos rfl)
    · exact (PerBreaker.get_set ..).trans (if_neg other)
  case taken =>
    subst hsec
    refine ⟨fun id r i proper found secs hi => ?_, fun none_ => ⟨fun br r w own high refused hr hw => ?_, fun idle => ?_⟩,
      fun br r w own high refused hr hw => ?_, fun br own high refused => ?_⟩
    · have listed := lists_of_find proper found secs hi
      refine ⟨fun pending refused sameSec => ?_, fun pending spared => ?_, fun settled => ?_⟩
      · simpa using takePower_item (e := e) listed (if_pos ⟨refused, pending, sameSec⟩).symm
      · have stays : ¬(c.reason = some 1 ∧ i.state = .pending ∧ i.sec = c.breaker.fed s) :=
          fun ⟨refused, _, sameSec⟩ => spared.elim (· refused) (· sameSec)
        simpa [pending] using takePower_item (e := e) listed (if_neg stays).symm
      · have stays : ¬(c.reason = some 1 ∧ i.state = .pending ∧ i.sec = c.breaker.fed s) := fun held => settled held.2.1
        simpa [settled] using takePower_item (e := e) listed (if_neg stays).symm
    · rw [takePower_refuses own high refused hr hw, movedItems_of_no_pending none_]
    · rcases takePower_cases e y s c with h | ⟨br, own, high, refused, h⟩ <;> rw [h, movedItems_of_no_pending none_]
      exact endWait_waitOf_none (idle.resolve_left refused br own high) _
    · exact ⟨_, movedItems_power, movedItems_keeps.filters, movedItems_keeps.peers, (takePower_incidents ..).symm,
        takePower_refuses own high refused hr hw⟩
    · rw [takePower_ends own high refused]
      exact endWait_waitOf ..
  case waits =>
    intro e b x q source payload p br r w c hs hx hp high far hr hw before closes
    have current : p.liveness = .current := by
      rw [hx] at hp
      exact hear_current hp
    rcases closes with ⟨f, rfl, ha, hbr, closed⟩ | ⟨f, rfl, ha, known⟩
    · have report : (p.withPower f).reports.get br.far = some _ := (PerBreaker.get_set ..).trans (if_pos hbr.symm)
      have tried : WaitTried e x br r w (peerPower e x source.toNat f) :=
        frame_tried (modifyPeer_closeHeld ..) high far hs before (powerTaken_source hp f) current report closed hr hw
      have none_ : (peerPower e x source.toNat f).waitOf br = none := by
        obtain ⟨z, hz, ended, -⟩ := tried
        exact (waitOf_of_record hz).trans ended
      obtain ⟨z, hz, outcome⟩ := tried.held (takePower_recordHeld (e := e) (s := source.toNat) (c := f) none_)
      exact ⟨_, z, exec_powerFrame_foreign ha hs hx q, hz, outcome⟩
    · obtain ⟨z, hz, outcome⟩ : WaitTried e x br r w (peerStatus e x source.toNat f) :=
        frame_tried (statusTaken_closeHeld ..) high far hs before (statusTaken_source hp f) current
          (PeerEntry.withStatus_known known p _) rfl hr hw
      exact ⟨_, z, exec_statusFrame_foreign ha hs hx q, hz, outcome⟩
  case told =>
    intro e y u br r hr hu
    refine ⟨by rw [hu, toldFarEnd_eq], fun none_ => tryWait_of_none ((waitOf_of_record hr).trans none_), fun w z hw hz => ?_⟩
    subst hz
    exact ⟨fun holds => tryWait_closes hr hw holds, fun reason fails => tryWait_refuses hr hw fails,
      fun high inner others => toldLost_of_one_wait high inner others⟩

end Sys2Proof.Machine

/-! SUPPORT. The match of an arrival: the look-ahead, the trip that is found in it, and the entries that the match moves (R83, R84). -/

namespace Sys2Proof.Machine

/-! ### The look-ahead (R83) -/

/-- The PENDING entries of a sequence. -/
def pendingOf (l : List Entry) : List Entry := l.filter fun y => decide (y.state = .pending)

theorem mem_pendingOf {l : List Entry} {y : Entry} : y ∈ pendingOf l ↔ y ∈ l ∧ y.state = .pending := by simp [pendingOf]

theorem pendingOf_eq_nil {l : List Entry} (h : ∀ y ∈ l, y.state ≠ .pending) : pendingOf l = [] := by
  simpa [pendingOf] using h

section
variable {before after : List Entry} {x : Entry}

/-- With fewer than eight PENDING entries before it a PENDING entry stands in the look-ahead, behind all of them. -/
theorem lookAhead_append (hx : x.state = .pending) (hb : (pendingOf before).length < 8) (after : List Entry) :
    lookAhead (before ++ x :: after) = pendingOf before ++ x :: (pendingOf after).take (7 - (pendingOf before).length) := by
  have split : (before ++ x :: after).filter (fun y => decide (y.state = .pending)) = pendingOf before ++ x :: pendingOf after := by
    simp [pendingOf, hx]
  have place : 8 - (pendingOf before).length = 7 - (pendingOf before).length + 1 := by omega
  unfold lookAhead
  rw [split, show Config.lookAhead = 8 from rfl, List.take_append, List.take_of_length_le hb.le, place, List.take_succ_cons]

/-- A trip that is found stands in a PENDING entry with fewer than eight before it. -/
theorem findAhead_split {l : List Entry} {trip : Nat} (h : findAhead l trip = some x) :
    ∃ before after, l = before ++ x :: after ∧ x.trip = trip ∧ x.state = .pending ∧ (pendingOf before).length < 8 := by
  unfold findAhead lookAhead at h
  obtain ⟨found, skipped, more, ahead, -⟩ := List.find?_eq_some_iff_append.1 h
  have whole := (List.take_append_drop Config.lookAhead (l.filter fun y => decide (y.state = .pending))).symm
  rw [ahead, List.append_assoc] at whole
  obtain ⟨l₁, l₂, rfl, filtered, rest⟩ := List.filter_eq_append_iff.1 whole
  obtain ⟨l₃, after, rfl, quiet, pending, -⟩ := List.filter_eq_cons_iff.1 rest
  have short := congrArg List.length ahead
  simp only [List.length_take, List.length_append, List.length_cons, show Config.lookAhead = 8 from rfl] at short
  refine ⟨l₁ ++ l₃, after, by simp, by simpa using found, by simpa using pending, ?_⟩
  have none : pendingOf l₃ = [] := pendingOf_eq_nil fun y hy => by simpa using quiet y hy
  have skips : pendingOf (l₁ ++ l₃) = skipped := by
    unfold pendingOf at none ⊢
    rw [List.filter_append, none, List.append_nil, filtered]
  rw [skips]
  omega

theorem findAhead_append (hx : x.state = .pending) (distinct : ((before ++ x :: after).map (·.trip)).Nodup)
    (hb : (pendingOf before).length < 8) : findAhead (before ++ x :: after) x.trip = some x := by
  unfold findAhead
  rw [lookAhead_append hx hb, List.find?_append]
  have missed : (pendingOf before).find? (fun y => decide (y.trip = x.trip)) = none := by
    simpa using fun y hy => trips_before_ne distinct y (mem_pendingOf.1 hy).1
  simp [missed]

theorem findAhead_eq_none {l : List Entry} {trip : Nat} (h : ∀ y ∈ lookAhead l, y.trip ≠ trip) : findAhead l trip = none := by
  simpa [findAhead] using h

/-! ### The entries that a match moves (R83) -/

/-- An entry that a match passes over. -/
def Entry.passedOver (y : Entry) : Entry := if y.state = .pending then { y with state := .cancelled } else y

/-- The trip becomes IN_USE where it stands, and every PENDING entry before it CANCELLED. -/
theorem useTrip_append (hx : x.state = .pending) (distinct : ((before ++ x :: after).map (·.trip)).Nodup)
    (hb : (pendingOf before).length < 8) : useTrip (before ++ x :: after) x.trip =
      (before.map Entry.passedOver ++ { x with state := .inUse } :: after, (pendingOf before).length) := by
  have earlier := trips_before_ne distinct
  have others : ∀ y ∈ after, y.trip ≠ x.trip ∧ y.trip ∉ (pendingOf before).map (·.trip) := by
    rw [List.map_append, List.map_cons, List.nodup_append, List.nodup_cons] at distinct
    obtain ⟨-, ⟨single, -⟩, apart⟩ := distinct
    intro y hy
    refine ⟨fun same => single (same ▸ List.mem_map_of_mem hy), fun held => ?_⟩
    obtain ⟨z, hz, same⟩ := List.mem_map.1 held
    exact apart _ (List.mem_map_of_mem (mem_pendingOf.1 hz).1) _ (List.mem_cons_of_mem _ (List.mem_map_of_mem hy)) same
  have skipped : (lookAhead (before ++ x :: after)).takeWhile (fun y => decide (y.trip ≠ x.trip)) = pendingOf before := by
    rw [lookAhead_append hx hb, List.takeWhile_append_of_pos fun y hy => by simpa using earlier y (mem_pendingOf.1 hy).1]
    simp
  unfold useTrip
  rw [skipped]
  dsimp only
  rw [List.map_append, List.map_cons]
  refine Prod.ext (congrArg₂ (· ++ ·) (List.map_congr_left fun y hy => ?_) (congrArg₂ _ (by simp [hx]) ?_)) (by simp)
  · unfold Entry.passedOver
    by_cases pending : y.state = .pending
    · have listed : y.trip ∈ (pendingOf before).map (·.trip) := List.mem_map_of_mem (mem_pendingOf.2 ⟨hy, pending⟩)
      simp [pending, earlier y hy, listed]
    · simp [pending]
  · refine (List.map_congr_left fun y hy => ?_).trans (List.map_id after)
    obtain ⟨other, kept⟩ := others y hy
    simp [other, kept]

theorem map_passedOver_of_none (h : ∀ y ∈ before, y.state ≠ .pending) : before.map Entry.passedOver = before :=
  (List.map_congr_left fun y hy => by simp [Entry.passedOver, h y hy]).trans (List.map_id before)

/-- The cursor is used alone: nothing that is PENDING stands before it. -/
theorem useTrip_cursor (hb : ∀ y ∈ before, y.state ≠ .pending) (hx : x.state = .pending)
    (distinct : ((before ++ x :: after).map (·.trip)).Nodup) :
    (useTrip (before ++ x :: after) x.trip).1 = before ++ { x with state := .inUse } :: after := by
  rw [useTrip_append hx distinct (by simp [pendingOf_eq_nil hb]), map_passedOver_of_none hb]

theorem cursor_append (hb : ∀ y ∈ before, y.state ≠ .pending) (hx : x.state = .pending) : cursor (before ++ x :: after) = some x := by
  have missed : before.find? (fun y => decide (y.state = .pending)) = none := by simpa using hb
  simp [cursor, missed, hx]

theorem cursor_eq_none {l : List Entry} (h : ∀ y ∈ l, y.state ≠ .pending) : cursor l = none := by simpa [cursor] using h

theorem cursor_split {l : List Entry} (h : cursor l = some x) :
    ∃ before after, l = before ++ x :: after ∧ x.state = .pending ∧ ∀ y ∈ before, y.state ≠ .pending := by
  obtain ⟨pending, before, after, rfl, hb⟩ := List.find?_eq_some_iff_append.1 h
  exact ⟨before, after, rfl, by simpa using pending, fun y hy => by simpa using hb y hy⟩

end

/-! ### The match of an arrival (R83, R84) -/

section
variable {e : Env} {b : Blocks} {t : Track}

theorem matchArrival_of_found {a : Approach} {rest : List Approach} {y : Blocks} {x : Entry} (h : b.describer.get t = a :: rest)
    (hy : y = takeHead e b t a rest) (hf : findAhead (y.timetable.sequences.get t) a.trip = some x) :
    matchArrival e b t =
      (y.setSequence t (useTrip (y.timetable.sequences.get t) a.trip).1,
        { trip := a.trip, entry := some x, outcome := .identified, skipped := (useTrip (y.timetable.sequences.get t) a.trip).2 }) := by
  subst hy
  simp [matchArrival, h, hf]

theorem matchArrival_of_unknown {a : Approach} {rest : List Approach} {y : Blocks} (h : b.describer.get t = a :: rest)
    (hy : y = takeHead e b t a rest) (hf : findAhead (y.timetable.sequences.get t) a.trip = none) :
    matchArrival e b t = (y, { trip := a.trip, entry := none, outcome := .identified, skipped := 0 }) := by
  subst hy
  simp [matchArrival, h, hf]

theorem matchArrival_of_cursor {x : Entry} (h : b.describer.get t = []) (hc : cursor (b.timetable.sequences.get t) = some x) :
    matchArrival e b t =
      (if (e.upstream t).isNone || x.isFirst then b.setSequence t (useTrip (b.timetable.sequences.get t) x.trip).1
        else describeError e (b.setSequence t (useTrip (b.timetable.sequences.get t) x.trip).1) t x.trip,
        { trip := x.trip, entry := some x, outcome := .unidentified, skipped := 0 }) := by
  simp [matchArrival, h, hc]

theorem matchArrival_of_extra (h : b.describer.get t = []) (hc : cursor (b.timetable.sequences.get t) = none) :
    matchArrival e b t =
      (if (e.upstream t).isNone then b else describeError e b t 0,
        { trip := 0, entry := none, outcome := .unidentified, skipped := 0 }) := by
  simp [matchArrival, h, hc]

end

/-- Settles O21: what the look-ahead holds of a trip decides, and an arrival reads it behind the head that it takes. -/
theorem matchUsesTheTrip : Obligations.MatchUsesTheTrip := by
  refine ⟨fun before after x hx distinct hb => ⟨findAhead_append hx distinct hb, useTrip_append hx distinct hb⟩,
    fun l trip h => findAhead_eq_none h, fun l h => findAhead_eq_none fun y hy zero => ?_, fun e b t => ⟨?_, fun empty => ⟨?_, ?_⟩⟩⟩
  · have named := h y (List.mem_of_mem_filter (List.mem_of_mem_take hy))
    omega
  · intro a rest y head hy
    exact ⟨matchArrival_of_unknown head hy, fun x used found hu => hu ▸ matchArrival_of_found head hy found⟩
  · intro bare
    rw [matchArrival_of_extra empty (cursor_eq_none bare)]
    simp
  · rintro before after x y hl hb hx distinct rfl
    rw [matchArrival_of_cursor empty (hl ▸ cursor_append hb hx), hl, useTrip_cursor hb hx distinct]
    simp

end Sys2Proof.Machine

/-! SUPPORT. A part of a timetable load: the checks of its entries, the order of the parts, and what each outcome leaves (R65 to R68). -/

namespace Sys2Proof.Machine

/-! ### The checks of one entry (R67) -/

theorem EntryRequest.entry_eq_some {x : EntryRequest} {t : Track} {y : Entry} : x.entry = some (t, y) ↔ x.platform = t.code
    ∧ 1 ≤ x.trip ∧ x.trip ≤ 9999 ∧ (∀ a ∈ x.arrival, a ≤ x.departure) ∧ x.departure ≤ 1048575 ∧ x.phrase ≤ 4095
    ∧ ¬(x.terminates = true ∧ x.isFirst = true)
    ∧ y = { trip := x.trip, arrival := x.arrival, departure := x.departure, phrase := x.phrase, terminates := x.terminates
            isFirst := x.isFirst, state := .pending } := by
  unfold EntryRequest.entry
  cases ht : Track.ofCode x.platform with
  | none =>
    refine iff_of_false (by simp) fun ⟨code, _⟩ => ?_
    rw [code, Track.ofCode_code] at ht
    cases ht
  | some u =>
    have code : x.platform = t.code ↔ u = t := by
      refine ⟨fun same => ?_, fun same => same ▸ (Track.code_of_ofCode ht).symm⟩
      rw [same, Track.ofCode_code] at ht
      exact (Option.some.inj ht).symm
    have max : Config.serviceTimeMax = 1048575 := rfl
    rw [code]
    cases x.arrival <;> simp [keep, max] <;> grind

theorem EntryRequest.entry_out {x : EntryRequest} (h : x.entry = none) (s : PerTrack (List Entry)) : checkEntry s x = .error .range := by
  simp [checkEntry, h]

section
variable {s : PerTrack (List Entry)} {x : EntryRequest} {t : Track} {y : Entry} (h : x.entry = some (t, y))
include h

theorem checkEntry_early {z : Entry} (hz : (s.get t).getLast? = some z) (early : y.departure < z.departure) :
    checkEntry s x = .error .order := by simp [checkEntry, h, hz, early]

variable (later : ∀ z, (s.get t).getLast? = some z → z.departure ≤ y.departure)
include later

theorem checkEntry_late : checkEntry s x =
    if holdsTrip (s.get t) y.trip then .error .duplicate else .ok (s.set t (s.get t ++ [y])) := by
  have order : ((s.get t).getLast?.map fun last => decide (y.departure < last.departure)).getD false = false := by
    cases hz : (s.get t).getLast? with
    | none => rfl
    | some z => simpa using later z hz
  simp [checkEntry, h, order]

theorem checkEntry_held (held : ∃ z ∈ s.get t, z.trip = y.trip) : checkEntry s x = .error .duplicate := by
  rw [checkEntry_late h later, if_pos (by simpa [holdsTrip] using held)]

theorem checkEntry_new (new : ∀ z ∈ s.get t, z.trip ≠ y.trip) : checkEntry s x = .ok (s.set t (s.get t ++ [y])) := by
  rw [checkEntry_late h later, if_neg (by simpa [holdsTrip] using new)]

end

/-! ### The order of the parts (R65, R66) -/

section
variable {b : Blocks} {p : PartRequest}

theorem takePart_total (h : p.total < 1 ∨ 192 < p.total) : takePart b p = (emptyTimetable b .failed, .range, []) := by
  unfold takePart
  rw [if_pos (by omega)]

theorem storePart_ok {start s : PerTrack (List Entry)} (h : checkEntries start 1 p.entries = .ok s) : storePart b start p =
    (b.setTimetable { sequences := s, load := if p.index = p.total then .loaded else .loading p.total (p.index + 1)
                      lastPart := some p.index }, .ok, []) := by simp [storePart, h]

theorem storePart_error {start : PerTrack (List Entry)} {st : Status} {n : Nat} (h : checkEntries start 1 p.entries = .error (st, n)) :
    storePart b start p = (emptyTimetable b .failed, st, [char n]) := by simp [storePart, h, chars1]

variable (total : 1 ≤ p.total ∧ p.total ≤ 192) (count : 1 ≤ p.entries.length ∧ p.entries.length ≤ 8)
include total count

theorem takePart_ranged : takePart b p =
    if p.index = 1 then storePart b ⟨[], []⟩ p
    else if b.timetable.load = .loading p.total p.index then storePart b b.timetable.sequences p
    else (emptyTimetable b .failed, .sequence, []) := by
  unfold takePart
  rw [if_neg (by omega)]
  refine if_congr Iff.rfl rfl ?_
  cases b.timetable.load with
  | loading total next => simp [eq_comm]
  | empty => rfl
  | loaded => rfl
  | failed => rfl

/-- Part 1 begins with an empty store, and the part that follows with what the store holds. -/
theorem takePart_follows {start : PerTrack (List Entry)}
    (h : p.index = 1 ∧ start = ⟨[], []⟩ ∨ p.index ≠ 1 ∧ b.timetable.load = .loading p.total p.index ∧ start = b.timetable.sequences) :
    takePart b p = storePart b start p := by
  rw [takePart_ranged total count]
  rcases h with ⟨first, rfl⟩ | ⟨other, loading, rfl⟩
  · rw [if_pos first]
  · rw [if_neg other, if_pos loading]

theorem takePart_strays (other : p.index ≠ 1) (load : b.timetable.load ≠ .loading p.total p.index) :
    takePart b p = (emptyTimetable b .failed, .sequence, []) := by
  rw [takePart_ranged total count, if_neg other, if_neg load]

end

/-! ### The request -/

theorem readPart_count {p : List Byte} (h : shapePart p = true) : 1 ≤ (readPart p).entries.length ∧ (readPart p).entries.length ≤ 8 := by
  simp only [shapePart, Bool.and_eq_true, decide_eq_true_eq] at h
  simpa [readPart] using h.1

theorem exec_timetablePart_answered {e : Env} {b : Blocks} {q : List Instr} {tag : Byte} {p : List Byte} (ht : takes b .timetable 1 tag p)
    (hs : shapePart p = true) (hr : e.nodeState = .ready) {x : Blocks} {st : Status} {fields : List Byte}
    (h : takePart (received b) (readPart p) = (x, st, fields)) :
    exec (.timetablePart tag p) ⟨⟨e, b⟩, q⟩ = .next (answered e x q .timetable tag (char st.code :: fields)) := by
  have permitted : Allowed.readyOnly.permits e.nodeState = true := by rw [hr]; rfl
  refine (congrArg Host.Outcome.next (request_fields e b q .timetable 1 tag p _ .readyOnly _ ht hs permitted)).trans ?_
  simp only [ownPart, h]

/-- Settles O49: a part by its total and its index, then its entries one at a time, each by the three checks. -/
theorem timetableParts : Obligations.TimetableParts := by
  rintro e b q tag p r failed ht hs hr rfl rfl
  have count := readPart_count hs
  refine ⟨fun total => ?_, fun low high other load => ?_, fun start low high follows => ⟨fun s stored => ?_, fun st n bad => ?_⟩,
    fun s x => ⟨fun out => EntryRequest.entry_out out s, fun t y hx => ⟨fun ⟨z, hz, early⟩ => checkEntry_early hx hz early,
      fun later => ⟨checkEntry_held hx later, checkEntry_new hx later⟩⟩⟩, fun x t y => EntryRequest.entry_eq_some⟩
  · exact exec_timetablePart_answered ht hs hr (takePart_total total)
  · exact exec_timetablePart_answered ht hs hr (takePart_strays ⟨low, high⟩ count other load)
  · exact exec_timetablePart_answered ht hs hr ((takePart_follows (b := received b) ⟨low, high⟩ count follows).trans (storePart_ok stored))
  · exact exec_timetablePart_answered ht hs hr ((takePart_follows (b := received b) ⟨low, high⟩ count follows).trans (storePart_error bad))

end Sys2Proof.Machine

/-! SUPPORT. The amendments at the place of the entry that they name: CANCEL, CHANGE and INSERT (R69 to R73). -/

namespace Sys2Proof.Machine

/-! ### The checks of R69 -/

section
variable {b : Blocks} {platform trip : Nat} {times : List Nat} {t : Track}

theorem amendCheck_of_not_loaded (h : b.timetable.load ≠ .loaded) : amendCheck b platform trip times = .error .noTimetable := by
  unfold amendCheck
  cases hl : b.timetable.load with
  | loaded => exact absurd hl h
  | empty => rfl
  | loading _ _ => rfl
  | failed => rfl

variable (loaded : b.timetable.load = .loaded)
include loaded

theorem amendCheck_out (h : 1 < platform ∨ trip < 1 ∨ 9999 < trip ∨ ∃ x ∈ times, 1048575 < x) :
    amendCheck b platform trip times = .error .range := by
  simp only [amendCheck, loaded]
  cases ht : Track.ofCode platform with
  | none => rfl
  | some t =>
    have low : platform ≤ 1 := Track.code_of_ofCode ht ▸ Track.code_le t
    refine if_neg fun ⟨positive, small, all⟩ => ?_
    rcases h with h | h | h | ⟨x, hx, h⟩
    · omega
    · omega
    · omega
    · have max : x ≤ 1048575 := of_decide_eq_true (List.all_eq_true.1 all x hx)
      omega

theorem amendCheck_ok (hp : platform = t.code) (low : 1 ≤ trip) (high : trip ≤ 9999) (ht : ∀ x ∈ times, x ≤ 1048575) :
    amendCheck b platform trip times = .ok t := by
  have all : times.all (fun x => decide (x ≤ Config.serviceTimeMax)) = true := List.all_eq_true.2 fun x hx => decide_eq_true (ht x hx)
  simp only [amendCheck, loaded, hp, Track.ofCode_code]
  exact if_pos ⟨low, high, all⟩

end

/-! ### The trip that an amendment names (R69) -/

theorem tripIndex_eq_none {l : List Entry} {trip : Nat} (h : ∀ x ∈ l, x.trip ≠ trip) : tripIndex l trip = none := by
  refine List.find?_eq_none.2 fun i hi => ?_
  have place := List.mem_range.1 hi
  simpa [List.getElem?_eq_getElem place] using h _ (List.getElem_mem place)

/-- A trip stands nowhere in a sequence, or it has a first place in it. -/
theorem trip_split (l : List Entry) (trip : Nat) : (∀ x ∈ l, x.trip ≠ trip)
    ∨ ∃ before x after, l = before ++ x :: after ∧ (∀ y ∈ before, y.trip ≠ x.trip) ∧ x.trip = trip := by
  induction l with
  | nil => exact .inl fun x hx => absurd hx List.not_mem_nil
  | cons x l ih =>
    by_cases here : x.trip = trip
    · exact .inr ⟨[], x, l, rfl, fun y hy => absurd hy List.not_mem_nil, here⟩
    · rcases ih with nowhere | ⟨before, y, after, rfl, hb, named⟩
      · exact .inl (List.forall_mem_cons.2 ⟨here, nowhere⟩)
      · exact .inr ⟨x :: before, y, after, rfl, List.forall_mem_cons.2 ⟨named ▸ here, hb⟩, named⟩

/-! ### The conditions of R70 -/

section
variable {before after : List Entry} {y : Entry} {d : Nat}

theorem changeRefusal_at (before after : List Entry) (y : Entry) (d : Nat) : changeRefusal (before ++ y :: after) before.length d =
    if (before.getLast?.map fun x => decide (d < x.departure)).getD false then some .order
    else if (after.head?.map fun x => decide (x.departure < d)).getD false then some .order
    else if (y.arrival.map fun a => decide (d < a)).getD false then some .range
    else none := by
  have previous : (if before.length = 0 then none else (before ++ y :: after)[before.length - 1]?) = before.getLast? := by
    rcases List.eq_nil_or_concat before with rfl | ⟨init, last, rfl⟩
    · rfl
    · simp
  have next : (before ++ y :: after)[before.length + 1]? = after.head? := by
    rw [List.getElem?_append_right (by omega), Nat.add_sub_cancel_left, List.head?_eq_getElem?]
    rfl
  have here : (before ++ y :: after)[before.length]? = some y := by simp
  unfold changeRefusal
  simp only [previous, next, here, Option.bind_some]

theorem changeRefusal_order (h : (∃ z, before.getLast? = some z ∧ d < z.departure) ∨ ∃ z, after.head? = some z ∧ z.departure < d) :
    changeRefusal (before ++ y :: after) before.length d = some .order := by
  rw [changeRefusal_at]
  rcases h with ⟨z, hz, early⟩ | ⟨z, hz, late⟩
  · simp [hz, early]
  · simp [hz, late]

theorem changeRefusal_range (behind : ∀ z, before.getLast? = some z → z.departure ≤ d)
    (ahead : ∀ z, after.head? = some z → d ≤ z.departure) {a : Nat} (ha : y.arrival = some a) (early : d < a) :
    changeRefusal (before ++ y :: after) before.length d = some .range := by
  have kept : (before.getLast?.map fun x => decide (d < x.departure)).getD false = false := by
    cases hz : before.getLast? with
    | none => rfl
    | some z => simpa using behind z hz
  have kept' : (after.head?.map fun x => decide (x.departure < d)).getD false = false := by
    cases hz : after.head? with
    | none => rfl
    | some z => simpa using ahead z hz
  simp [changeRefusal_at, kept, kept', ha, early]

end

/-! ### CANCEL and CHANGE at an entry's place (R70, R71, R73) -/

section
variable {b : Blocks} {platform trip d : Nat} {t : Track} {before after : List Entry} {x : Entry}

theorem amendCancel_unknown (hc : amendCheck b platform trip [] = .ok t) (h : ∀ x ∈ b.timetable.sequences.get t, x.trip ≠ trip) :
    amendCancel b platform trip = (b, .unknownId) := by simp [amendCancel, hc, tripIndex_eq_none h]

theorem amendChange_unknown (hc : amendCheck b platform trip [d] = .ok t) (h : ∀ x ∈ b.timetable.sequences.get t, x.trip ≠ trip) :
    amendChange b platform trip d = (b, .unknownId) := by simp [amendChange, hc, tripIndex_eq_none h]

variable (hl : b.timetable.sequences.get t = before ++ x :: after) (first : ∀ y ∈ before, y.trip ≠ x.trip) (hx : x.trip = trip)
include hl first hx

section
variable (hc : amendCheck b platform trip [] = .ok t)
include hc

theorem amendCancel_of_pending (hs : x.state = .pending) : amendCancel b platform trip =
    (b.setSequence t (before ++ { x with state := .cancelled } :: after), .ok) := by
  subst hx
  simp [amendCancel, hc, hl, tripIndex_append first, modifyAt_append, hs]

theorem amendCancel_of_inUse (hs : x.state = .inUse) : amendCancel b platform trip = (holdAmendment b t .cancel, .ok) := by
  subst hx
  simp [amendCancel, hc, hl, tripIndex_append first, hs]

theorem amendCancel_of_final (hs : x.state = .consumed ∨ x.state = .cancelled) : amendCancel b platform trip = (b, .consumed) := by
  subst hx
  rcases hs with hs | hs
  all_goals simp [amendCancel, hc, hl, tripIndex_append first, hs]

end

section
variable (hc : amendCheck b platform trip [d] = .ok t)
include hc

theorem amendChange_of_final (hs : x.state = .consumed ∨ x.state = .cancelled) : amendChange b platform trip d = (b, .consumed) := by
  subst hx
  rcases hs with hs | hs
  all_goals simp [amendChange, hc, hl, tripIndex_append first, hs]

theorem amendChange_refused (hs : x.state = .pending ∨ x.state = .inUse) {st : Status}
    (h : changeRefusal (before ++ x :: after) before.length d = some st) : amendChange b platform trip d = (b, st) := by
  subst hx
  rcases hs with hs | hs
  all_goals simp [amendChange, hc, hl, tripIndex_append first, hs, h]

variable (h : changeRefusal (before ++ x :: after) before.length d = none)
include h

theorem amendChange_of_pending (hs : x.state = .pending) : amendChange b platform trip d =
    (b.setSequence t (before ++ { x with departure := d } :: after), .ok) := by
  subst hx
  simp [amendChange, hc, hl, tripIndex_append first, modifyAt_append, hs, h]

theorem amendChange_of_inUse (hs : x.state = .inUse) : amendChange b platform trip d = (holdAmendment b t (.change d), .ok) := by
  subst hx
  simp [amendChange, hc, hl, tripIndex_append first, hs, h]

end

end

/-! ### INSERT (R72) -/

theorem insertEntry_eq (new : Entry) (l : List Entry) : insertEntry new l =
    l.takeWhile (fun x => x.departure ≤ new.departure) ++ new :: l.dropWhile (fun x => x.departure ≤ new.departure) := by
  induction l with
  | nil => rfl
  | cons x l ih =>
    by_cases h : new.departure < x.departure
    · simp [insertEntry, h, List.takeWhile, List.dropWhile, Nat.not_le.2 h]
    · simp [insertEntry, h, List.takeWhile, List.dropWhile, Nat.not_lt.1 h, ih]

/-- An entry that is within its ranges passes the checks of R69 on its platform. -/
theorem amendCheck_of_entry {b : Blocks} {x : EntryRequest} {t : Track} {y : Entry} (loaded : b.timetable.load = .loaded)
    (h : x.entry = some (t, y)) : amendCheck b x.platform x.trip (x.departure :: x.arrival.toList) = .ok t := by
  obtain ⟨platform, low, high, arrival, departure, -⟩ := EntryRequest.entry_eq_some.1 h
  refine amendCheck_ok loaded platform low high fun z hz => ?_
  rcases List.mem_cons.1 hz with rfl | hz
  · exact departure
  · exact (arrival z (Option.mem_toList.1 hz)).trans departure

theorem amendInsert_out {b : Blocks} {x : EntryRequest} (loaded : b.timetable.load = .loaded) (h : x.entry = none) :
    amendInsert b x = (b, .range) := by
  unfold amendInsert amendCheck
  simp only [loaded, h]
  cases Track.ofCode x.platform with
  | none => rfl
  | some t =>
    dsimp only
    split
    case h_1 st refused =>
      split at refused
      · cases refused
      · cases refused
        rfl
    case h_2 => rfl

section
variable {b : Blocks} {x : EntryRequest} {t : Track} {y : Entry} (loaded : b.timetable.load = .loaded) (h : x.entry = some (t, y))
include loaded h

theorem amendInsert_held (held : ∃ z ∈ b.timetable.sequences.get t, z.trip = y.trip) : amendInsert b x = (b, .duplicate) := by
  have holds : holdsTrip (b.timetable.sequences.get t) y.trip = true := by simpa [holdsTrip] using held
  simp [amendInsert, amendCheck_of_entry loaded h, h, holds]

variable (new : ∀ z ∈ b.timetable.sequences.get t, z.trip ≠ y.trip)
include new

theorem amendInsert_early
    (early : ∃ z ∈ b.timetable.sequences.get t, (z.state = .inUse ∨ z.state = .consumed) ∧ y.departure < z.departure) :
    amendInsert b x = (b, .order) := by
  have holds : holdsTrip (b.timetable.sequences.get t) y.trip = false := by simpa [holdsTrip] using new
  have passed : (b.timetable.sequences.get t).any (fun z => (decide (z.state = .inUse) || decide (z.state = .consumed))
      && decide (y.departure < z.departure)) = true := by simpa using early
  simp only [amendInsert, amendCheck_of_entry loaded h, h, holds, passed, Bool.false_eq_true, if_false, if_true]

theorem amendInsert_late
    (late : ∀ z ∈ b.timetable.sequences.get t, z.state = .inUse ∨ z.state = .consumed → z.departure ≤ y.departure) :
    amendInsert b x = if 1536 ≤ b.timetable.total then (b, .full)
      else (b.setSequence t (insertEntry y (b.timetable.sequences.get t)), .ok) := by
  have holds : holdsTrip (b.timetable.sequences.get t) y.trip = false := by simpa [holdsTrip] using new
  have passed : (b.timetable.sequences.get t).any (fun z => (decide (z.state = .inUse) || decide (z.state = .consumed))
      && decide (y.departure < z.departure)) = false := by simpa using late
  simp only [amendInsert, amendCheck_of_entry loaded h, h, holds, passed, Bool.false_eq_true, if_false]
  rfl

end

/-! ### The requests -/

theorem permits_configured {s : NodeState} (h : s ≠ .configuring) : Allowed.configured.permits s = true := by
  cases s with
  | configuring => exact absurd rfl h
  | ready => rfl
  | service => rfl

section
variable {e : Env} {b x : Blocks} {q : List Instr} {tag : Byte} {p : List Byte} {st : Status}

/-- An AMEND of its kind and length is answered as its owner decides. -/
theorem amend_answered {kind len : Nat} {f : Env → Blocks → Blocks × Status} (ht : takes b .timetable 2 tag p)
    (hc : e.nodeState ≠ .configuring) (hk : field p 0 1 = kind) (hl : p.length = len) (h : f e (received b) = (x, st)) :
    (⟨request ⟨e, b⟩ .timetable 2 tag p (shapeAmend kind len p) .configured (plainOwner f), q⟩ : State) =
      answered e x q .timetable tag [char st.code] := by
  have shape : shapeAmend kind len p = true := by simp [shapeAmend, hk, hl]
  rw [request_plain e b q .timetable 2 tag p _ .configured f ht shape (permits_configured hc), h]

variable (ht : takes b .timetable 2 tag p) (hc : e.nodeState ≠ .configuring)
include ht hc

theorem exec_amendCancel_answered (hk : field p 0 1 = 1) (hl : p.length = 4)
    (h : amendCancel (received b) (field p 1 1 % 64) (field p 2 2) = (x, st)) :
    exec (.amendCancel tag p) ⟨⟨e, b⟩, q⟩ = .next (answered e x q .timetable tag [char st.code]) :=
  congrArg Host.Outcome.next (amend_answered ht hc hk hl h)

theorem exec_amendChange_answered (hk : field p 0 1 = 0) (hl : p.length = 7)
    (h : amendChange (received b) (field p 1 1 % 64) (field p 2 2) (field p 4 3) = (x, st)) :
    exec (.amendChange tag p) ⟨⟨e, b⟩, q⟩ = .next (answered e x q .timetable tag [char st.code]) :=
  congrArg Host.Outcome.next (amend_answered ht hc hk hl h)

theorem exec_amendInsert_answered (hk : field p 0 1 = 2) (hl : p.length = 12) (h : amendInsert (received b) (fieldInsert p) = (x, st)) :
    exec (.amendInsert tag p) ⟨⟨e, b⟩, q⟩ = .next (answered e x q .timetable tag [char st.code]) :=
  congrArg Host.Outcome.next (amend_answered ht hc hk hl h)

end

/-- A CANCEL in its characters: kind, platform with its flags, trip. -/
theorem exec_amendCancel_chars {e : Env} {b x : Blocks} {q : List Instr} {tag c t1 t2 : Byte} {st : Status}
    (hc : e.nodeState ≠ .configuring) (ht : takes b .timetable 2 tag [1, c, t1, t2])
    (h : amendCancel (received b) (c.toNat % 64) (t1.toNat * 256 + t2.toNat) = (x, st)) :
    exec (.amendCancel tag [1, c, t1, t2]) ⟨⟨e, b⟩, q⟩ = .next (answered e x q .timetable tag [char st.code]) := by
  have platform : field [1, c, t1, t2] 1 1 = c.toNat := num_one c
  have trip : field [1, c, t1, t2] 2 2 = t1.toNat * 256 + t2.toNat := num_two t1 t2
  exact exec_amendCancel_answered ht hc rfl rfl (by rw [platform, trip, h])

/-- A CHANGE in its characters: kind, platform with its flags, trip, and the new departure. -/
theorem exec_amendChange_chars {e : Env} {b x : Blocks} {q : List Instr} {tag c t1 t2 d1 d2 d3 : Byte} {st : Status}
    (hc : e.nodeState ≠ .configuring) (ht : takes b .timetable 2 tag [0, c, t1, t2, d1, d2, d3])
    (h : amendChange (received b) (c.toNat % 64) (t1.toNat * 256 + t2.toNat) (d1.toNat * 65536 + d2.toNat * 256 + d3.toNat) = (x, st)) :
    exec (.amendChange tag [0, c, t1, t2, d1, d2, d3]) ⟨⟨e, b⟩, q⟩ = .next (answered e x q .timetable tag [char st.code]) := by
  have platform : field [0, c, t1, t2, d1, d2, d3] 1 1 = c.toNat := num_one c
  have trip : field [0, c, t1, t2, d1, d2, d3] 2 2 = t1.toNat * 256 + t2.toNat := num_two t1 t2
  have departure : field [0, c, t1, t2, d1, d2, d3] 4 3 = d1.toNat * 65536 + d2.toNat * 256 + d3.toNat := by
    refine (num_three d1 d2 d3).trans ?_
    omega
  exact exec_amendChange_answered ht hc rfl rfl (by rw [platform, trip, departure, h])

/-- Settles O50: the checks of R69 for each kind, then each kind at the place of the trip that it names. -/
theorem amendments : Obligations.Amendments := by
  refine ⟨?_, ?_⟩
  · intro e b q tag p c bad ht hc kind
    rcases kind with ⟨rfl, hl, hk, out⟩ | ⟨rfl, hl, hk, out⟩ | ⟨rfl, hl, hk, out⟩
    · refine ⟨fun load => exec_amendChange_answered ht hc hk hl (st := .noTimetable) ?_,
        fun load bad => exec_amendChange_answered ht hc hk hl (st := .range) ?_⟩
      · rw [amendChange, amendCheck_of_not_loaded (by exact load)]
      · rw [amendChange, amendCheck_out (by exact load) (by simpa using out.1 bad)]
    · refine ⟨fun load => exec_amendCancel_answered ht hc hk hl (st := .noTimetable) ?_,
        fun load bad => exec_amendCancel_answered ht hc hk hl (st := .range) ?_⟩
      · rw [amendCancel, amendCheck_of_not_loaded (by exact load)]
      · rw [amendCancel, amendCheck_out (by exact load) (by simpa using out.1 bad)]
    · refine ⟨fun load => exec_amendInsert_answered ht hc hk hl (st := .noTimetable) ?_,
        fun load bad => exec_amendInsert_answered ht hc hk hl (st := .range) (amendInsert_out (by exact load) (out.1 bad))⟩
      rw [amendInsert, amendCheck_of_not_loaded (by exact load)]
  · intro e b q tag c t1 t2 t loaded hc platform low high
    have check (times : List Nat) (ht : ∀ d ∈ times, d ≤ 1048575) :
        amendCheck (received b) (c.toNat % 64) (t1.toNat * 256 + t2.toNat) times = .ok t := amendCheck_ok loaded platform low high ht
    have none_in : ∀ d ∈ ([] : List Nat), d ≤ 1048575 := by simp
    refine ⟨fun ht unknown => exec_amendCancel_chars hc ht (amendCancel_unknown (check [] none_in) unknown),
      fun d1 d2 d3 ht hd unknown => exec_amendChange_chars hc ht (amendChange_unknown (check [_] (by simpa using hd)) unknown),
      fun before x after hl first named => ⟨fun ht => ?_, fun d1 d2 d3 d ht hd small => ?_⟩,
      fun p y ht len kind _ hy => ⟨fun held => ?_, fun new => ⟨fun early => ?_, fun late => ⟨fun full => ?_, fun room => ?_⟩⟩⟩⟩
    · exact ⟨fun hs => exec_amendCancel_chars hc ht (amendCancel_of_pending hl first named (check [] none_in) hs),
        fun hs => exec_amendCancel_chars hc ht (amendCancel_of_inUse hl first named (check [] none_in) hs),
        fun hs => exec_amendCancel_chars hc ht (amendCancel_of_final hl first named (check [] none_in) hs)⟩
    · subst hd
      have checked := check [_] (by simpa using small)
      have refused {st : Status} (hs : x.state = .pending ∨ x.state = .inUse) := exec_amendChange_chars (st := st) (q := q) hc ht ∘
        amendChange_refused (b := received b) hl first named checked hs
      refine ⟨fun hs => exec_amendChange_chars hc ht (amendChange_of_final hl first named checked hs),
        fun hs order => refused hs (changeRefusal_order order),
        fun behind ahead => ⟨fun hs a ha early => refused hs (changeRefusal_range behind ahead ha early), fun due => ?_⟩⟩
      have good := (changeRefusal_append before after x _).2 ⟨behind, ahead, due⟩
      exact ⟨fun hs => exec_amendChange_chars hc ht (amendChange_of_pending hl first named checked good hs),
        fun hs => exec_amendChange_chars hc ht (amendChange_of_inUse hl first named checked good hs)⟩
    · exact exec_amendInsert_answered ht hc kind len (amendInsert_held loaded hy held)
    · exact exec_amendInsert_answered ht hc kind len (amendInsert_early loaded hy new early)
    · exact exec_amendInsert_answered ht hc kind len ((amendInsert_late (b := received b) loaded hy new late).trans (if_pos full))
    · rw [← insertEntry_eq]
      have placed := (amendInsert_late (b := received b) loaded hy new late).trans (if_neg (Nat.not_le.2 room))
      exact exec_amendInsert_answered ht hc kind len placed

end Sys2Proof.Machine

/-! SUPPORT. The head of an approaching queue that is overdue, and the train that FLUSH removes (R80 to R82). -/

namespace Sys2Proof.Machine

section
variable {e : Env} {b : Blocks} {t : Track} {a : Approach} {rest : List Approach} {sec : TractionSection}

/-! ### The overdue head (R80) -/

theorem sectionBehind_track (h : e.sectionBehind t = some sec) : sec.track = t := by
  cases t with
  | up => exact (Option.some.inj (Option.ite_none_right_eq_some.1 h).2) ▸ rfl
  | down => exact (Option.some.inj (Option.ite_none_right_eq_some.1 h).2) ▸ rfl

/-- The raise of TRAIN_STALLED, field by field. -/
theorem stalledRaise_eq (hs : e.sectionBehind t = some sec) : e.platformRaise .trainStalled t sec a.trip =
    { kind := .trainStalled, severity := 3, span := { tracks := .one t, first := sec.gap, last := sec.gap }
      platform := some ⟨e.nodeNumber, t⟩, trip := if a.trip = 0 then none else some a.trip } := by
  rw [← sectionBehind_track hs]
  rfl

variable (hq : b.describer.get t = a :: rest)
include hq

theorem stallCheck_of_marked (h : a.stallRaised = true) : stallCheck e b t = b := by
  unfold stallCheck
  rw [hq]
  cases e.sectionBehind t with
  | none => rfl
  | some sec => simp [overdueDue, hq, h]

theorem stallCheck_of_overdue (hs : e.sectionBehind t = some sec) (hc : e.nodeState ≠ .configuring) (new : a.stallRaised = false)
    (due : overdueInstant e t a ≤ e.time.service) {x : Blocks × Option IncidentId}
    (hx : x = raiseIncident e b (e.platformRaise .trainStalled t sec a.trip) none) :
    stallCheck e b t = x.1.setApproach t ({ a with stallRaised := true, stallId := x.2 } :: rest) := by
  have past : e.reached (overdueInstant e t a) = true := decide_eq_true due
  have reached : overdueDue e b t = true := by simp [overdueDue, hq, hs, new, Env.configured, hc, past]
  unfold stallCheck
  rw [hq, hs]
  subst hx
  exact if_pos reached

end

/-! ### FLUSH (R81, R82) -/

section
variable {e : Env} {b : Blocks} {t : Track} {code trip : Nat}

theorem flushTrain_out (h : 1 < code ∨ 9999 < trip) : flushTrain e b code trip = (b, .range) := by
  unfold flushTrain
  cases ht : Track.ofCode code with
  | none => rfl
  | some t =>
    have low : code ≤ 1 := Track.code_of_ofCode ht ▸ Track.code_le t
    exact if_pos (h.resolve_left (Nat.not_lt.2 low))

theorem flushTrain_unknown (ht : t.code = code) (small : trip ≤ 9999) (h : ∀ a ∈ b.describer.get t, a.trip ≠ trip) :
    flushTrain e b code trip = (b, .unknownId) := by
  have missing : (b.describer.get t).find? (fun a => decide (a.trip = trip)) = none := by simpa using h
  simp [flushTrain, Track.ofCode_of_code ht, Nat.not_lt.2 small, missing]

theorem flushTrain_takes {before after : List Approach} {a : Approach} {y : Blocks} (ht : t.code = code) (small : a.trip ≤ 9999)
    (hq : b.describer.get t = before ++ a :: after) (distinct : ((b.describer.get t).map (·.trip)).Nodup)
    (hy : y = queueReport e (closeOwned e (b.setApproach t (before ++ after)) a.stallId .trainStalled) (.flushed t a.trip)) :
    flushTrain e b code a.trip = (if before = [] then stallCheck e y t else y, .ok) := by
  rw [hq, List.map_append, List.map_cons, List.nodup_append, List.nodup_cons] at distinct
  obtain ⟨-, ⟨behind, -⟩, apart⟩ := distinct
  have ahead : ∀ z ∈ before, z.trip ≠ a.trip := fun z hz => apart _ (List.mem_map_of_mem hz) _ List.mem_cons_self
  have others : ∀ z ∈ after, z.trip ≠ a.trip := fun z hz same => behind (same ▸ List.mem_map_of_mem hz)
  have found : (before ++ a :: after).find? (fun z => decide (z.trip = a.trip)) = some a := by
    have missed : before.find? (fun z => decide (z.trip = a.trip)) = none := by simpa using ahead
    simp [missed]
  have left : (before ++ a :: after).filter (fun z => decide (z.trip ≠ a.trip)) = before ++ after := by
    rw [List.filter_append, List.filter_cons_of_neg (by simp), List.filter_eq_self.2 (by simpa using ahead),
      List.filter_eq_self.2 (by simpa using others)]
  have head : (before ++ a :: after).head?.map (·.trip) = some a.trip ↔ before = [] := by
    cases before with
    | nil => simp
    | cons z before => simpa using ahead z List.mem_cons_self
  subst hy
  simp only [flushTrain, Track.ofCode_of_code ht, Nat.not_lt.2 small, if_false, hq, found, left, head]

theorem exec_flush_answered {q : List Instr} {tag c1 c2 c3 : Byte} (ht : takes b .timetable 4 tag [c1, c2, c3])
    (hc : e.nodeState ≠ .configuring) {x : Blocks} {st : Status}
    (h : flushTrain e (received b) c1.toNat (c2.toNat * 256 + c3.toNat) = (x, st)) :
    exec (.flush tag [c1, c2, c3]) ⟨⟨e, b⟩, q⟩ = .next (answered e x q .timetable tag [char st.code]) := by
  have platform : field [c1, c2, c3] 0 1 = c1.toNat := num_one c1
  have named : field [c1, c2, c3] 1 2 = c2.toNat * 256 + c3.toNat := num_two c2 c3
  refine (congrArg Host.Outcome.next (request_plain e b q .timetable 4 tag _ _ .configured _ ht rfl (permits_configured hc))).trans ?_
  rw [platform, named, h]

end

/-- Settles O38: the head by its mark and its instant, and FLUSH by the place of its trip in the queue. -/
theorem overdueTrainsAndFlush : Obligations.OverdueTrainsAndFlush := by
  refine fun e b q t => ⟨?_, fun tag c1 c2 c3 ht hc => ⟨fun out => ?_, fun code small unknown => ?_, ?_⟩⟩
  · rintro a rest sec x hq hs hc rfl
    rw [exec_overdueInstant, ← stalledRaise_eq hs]
    refine ⟨fun new due => ?_, fun marked => ?_⟩
    · rw [stallCheck_of_overdue hq hs hc new due rfl]
    · rw [stallCheck_of_marked hq marked]
  · exact exec_flush_answered ht hc (flushTrain_out out)
  · exact exec_flush_answered ht hc (flushTrain_unknown code small unknown)
  · rintro before after a y code named small hq distinct rfl
    refine exec_flush_answered ht hc ?_ (st := .ok)
    rw [← named]
    exact flushTrain_takes (b := received b) code small hq distinct rfl

end Sys2Proof.Machine

/-! SUPPORT. The zone queues stay within 12 messages and in order, and the channels at most three, no two of one zone, whatever the
Announcement Controller does (R177, R182). -/

namespace Sys2Proof.Machine

/-! ### The order of a queue (R177) -/

/-- A zone queue holds at most 12 messages and stands in order (R177). -/
def zoneProper (q : List Chain) : Prop := messageCount q ≤ Config.zoneQueueMax ∧ q.Pairwise fun c d => d.before c = false

theorem Chain.before_iff (c d : Chain) :
    c.before d = true ↔ d.priority < c.priority ∨ c.priority = d.priority ∧ c.order < d.order := by simp [Chain.before]

theorem Chain.not_before_iff (c d : Chain) :
    c.before d = false ↔ ¬(d.priority < c.priority ∨ c.priority = d.priority ∧ c.order < d.order) := by
  rw [← Chain.before_iff, Bool.not_eq_true]

theorem insertChain_ranked {c : Chain} {q : List Chain} (h : q.Pairwise fun c d => d.before c = false) :
    (insertChain c q).Pairwise fun c d => d.before c = false := by
  induction q with
  | nil => exact List.pairwise_singleton ..
  | cons d q ih =>
    obtain ⟨first, rest⟩ := List.pairwise_cons.1 h
    unfold insertChain
    split
    case isTrue ahead =>
      refine List.pairwise_cons.2 ⟨fun x hx => ?_, h⟩
      rw [Chain.before_iff] at ahead
      rcases List.mem_cons.1 hx with rfl | hx
      · rw [Chain.not_before_iff]
        omega
      · have behind := first x hx
        rw [Chain.not_before_iff] at behind ⊢
        omega
    case isFalse behind =>
      refine List.pairwise_cons.2 ⟨fun x hx => ?_, ih rest⟩
      rcases mem_insertChain hx with rfl | hx
      · simpa using behind
      · exact first x hx

/-! ### The messages of a queue (R177) -/

theorem messageCount_cons (c : Chain) (q : List Chain) : messageCount (c :: q) = c.members.length + messageCount q := rfl

theorem insertChain_count (c : Chain) (q : List Chain) : messageCount (insertChain c q) = c.members.length + messageCount q := by
  induction q with
  | nil => rfl
  | cons d q ih =>
    unfold insertChain
    split
    · rfl
    · rw [messageCount_cons, messageCount_cons, ih]
      omega

theorem messageCount_sublist {p q : List Chain} (h : p.Sublist q) : messageCount p ≤ messageCount q :=
  (h.map _).sum_le_sum fun _ _ => Nat.zero_le _

theorem zoneProper.sublist {p q : List Chain} (h : zoneProper q) (s : p.Sublist q) : zoneProper p :=
  ⟨(messageCount_sublist s).trans h.1, h.2.sublist s⟩

/-- Chains that leave a queue together, each with every chain of its head, give up all their places. -/
theorem messageCount_without {q out : List Chain} (h : out.Subperm q) :
    messageCount (q.filter fun d => decide (d.headId ∉ out.map Chain.headId)) + messageCount out ≤ messageCount q := by
  have gone : out.Subperm (q.filter fun d => !decide (d.headId ∉ out.map Chain.headId)) := by
    have all : out.filter (fun d => !decide (d.headId ∉ out.map Chain.headId)) = out :=
      List.filter_eq_self.2 fun d hd => by simpa using List.mem_map_of_mem (f := Chain.headId) hd
    have kept := h.filter fun d => !decide (d.headId ∉ out.map Chain.headId)
    rwa [all] at kept
  obtain ⟨l, same, sub⟩ := gone
  have fewer := messageCount_sublist sub
  have counted : messageCount l = messageCount out := (same.map _).sum_eq
  have parts : messageCount (q.filter fun d => decide (d.headId ∉ out.map Chain.headId))
      + messageCount (q.filter fun d => !decide (d.headId ∉ out.map Chain.headId)) = messageCount q := by
    simpa [messageCount] using ((List.filter_append_perm (fun d : Chain => decide (d.headId ∉ out.map Chain.headId)) q).map
      fun c => c.members.length).sum_eq
  omega

theorem withoutChain_sublist (head : Nat) (q : List Chain) : (withoutChain head q).Sublist q := List.filter_sublist

/-- A chain written back leaves its queue the room that it had: one of its messages stands there (R175). -/
def Replaces (q : List Chain) (c : Chain) : Prop := ∃ d ∈ q, d.members.map (·.id) = c.members.map (·.id)

theorem Replaces.of_mem {q : List Chain} {c : Chain} (h : c ∈ q) : Replaces q c := ⟨c, h, rfl⟩

theorem Chain.headId_eq {c d : Chain} (h : d.members.map (·.id) = c.members.map (·.id)) : d.headId = c.headId := by
  unfold Chain.headId
  rw [← List.head?_map, ← List.head?_map, h]

theorem withoutChain_count {q : List Chain} {c : Chain} (h : Replaces q c) :
    messageCount (withoutChain c.headId q) + c.members.length ≤ messageCount q := by
  obtain ⟨d, hd, same⟩ := h
  have room := messageCount_without (List.singleton_subperm_iff.2 hd)
  have count : d.members.length = c.members.length := by simpa using congrArg List.length same
  simpa [withoutChain, Chain.headId_eq same, messageCount, count] using room

/-- A chain takes its place behind those that rank ahead, where there is room for its messages. -/
theorem zoneProper.place {q : List Chain} {c : Chain} (h : zoneProper q)
    (room : messageCount (withoutChain c.headId q) + c.members.length ≤ Config.zoneQueueMax) :
    zoneProper (insertChain c (withoutChain c.headId q)) :=
  ⟨by rw [insertChain_count]; omega, insertChain_ranked (h.2.sublist (withoutChain_sublist ..))⟩

theorem zoneProper.replace {q : List Chain} {c : Chain} (h : zoneProper q) (hc : Replaces q c) :
    zoneProper (insertChain c (withoutChain c.headId q)) := h.place ((withoutChain_count hc).trans h.1)

/-! ### Channels (R182) -/

/-- At most three channels, no two of one zone (R182). -/
def channelsProper (l : List Channel) : Prop := l.length ≤ 3 ∧ (l.filterMap Channel.zone?).Nodup

/-- A channel takes a record of its own zone, of none, or of a zone that no channel has. -/
theorem channelsProper.modify {l : List Channel} {i : Nat} {c : Channel} (h : channelsProper l)
    (hc : ∀ z, c.zone? = some z → (∃ x, l[i]? = some x ∧ x.zone? = some z) ∨ ∀ x ∈ l, x.zone? ≠ some z) :
    channelsProper (modifyAt l i fun _ => c) := by
  refine ⟨(modifyAt_length ..).trans_le h.1, ?_⟩
  unfold modifyAt
  split
  case h_2 => exact h.2
  case h_1 x hx =>
    obtain ⟨inside, rfl⟩ := List.getElem?_eq_some_iff.1 hx
    have parts : l = l.take i ++ l[i] :: l.drop (i + 1) := by rw [← List.drop_eq_getElem_cons inside, List.take_append_drop]
    have others : (l.take i ++ l.drop (i + 1)).Sublist l := by
      conv => rhs; rw [parts]
      exact .append (.refl _) (List.sublist_cons_self ..)
    have moved : (l.set i c).Perm (c :: (l.take i ++ l.drop (i + 1))) := by
      rw [List.set_eq_take_append_cons_drop, if_pos inside]
      exact List.perm_middle
    have stood : l.Perm (l[i] :: (l.take i ++ l.drop (i + 1))) := by
      conv => lhs; rw [parts]
      exact List.perm_middle
    rw [(moved.filterMap _).nodup_iff]
    cases hz : c.zone? with
    | none => rw [List.filterMap_cons_none hz]; exact h.2.sublist (others.filterMap _)
    | some z =>
      rcases hc z hz with ⟨x, same, zone⟩ | free
      · obtain rfl : l[i] = x := Option.some.inj (hx.symm.trans same)
        have distinct := (stood.filterMap Channel.zone?).nodup_iff.1 h.2
        rwa [List.filterMap_cons_some zone, ← List.filterMap_cons_some hz] at distinct
      · rw [List.filterMap_cons_some hz, List.nodup_cons]
        refine ⟨fun held => ?_, h.2.sublist (others.filterMap _)⟩
        obtain ⟨x, mem, zone⟩ := List.mem_filterMap.1 held
        exact free x (others.subset mem) zone

/-! ### The Announcement Controller (R177, R182) -/

/-- Its queues and channels within their bounds (R177, R182). -/
structure Announcer.Proper (a : Announcer) : Prop where
  zones : ∀ z, zoneProper (a.queues.get z)
  channels : channelsProper a.channels

section
variable {e : Env} {b : Blocks}

theorem Announcer.Proper.of_eq {a a' : Announcer} (h : a.Proper) (queues : a'.queues = a.queues := by rfl)
    (channels : a'.channels = a.channels := by rfl) : a'.Proper := ⟨by rw [queues]; exact h.zones, by rw [channels]; exact h.channels⟩

theorem setQueue_proper {z : Zone} {q : List Chain} (h : b.announce.Proper) (hq : zoneProper q) : (b.setQueue z q).announce.Proper := by
  refine ⟨fun y => ?_, h.channels⟩
  change zoneProper ((b.announce.queues.set z q).get y)
  rw [PerZone.get_set]
  split
  · exact hq
  · exact h.zones y

/-- A chain that stands in its queue is written back. -/
theorem placeChain_proper {z : Zone} {c : Chain} (h : b.announce.Proper) (hc : Replaces (b.announce.queues.get z) c) :
    (placeChain b z c).announce.Proper := setQueue_proper h ((h.zones z).replace hc)

theorem dropChain_announce (b : Blocks) (z : Zone) (c : Chain) :
    (dropChain b z c).announce = (b.setQueue z (withoutChain c.headId (b.announce.queues.get z))).announce := by
  rw [dropChain, releaseMessages_eq]
  rfl

theorem dropChain_proper {z : Zone} {c : Chain} (h : b.announce.Proper) : (dropChain b z c).announce.Proper := by
  rw [dropChain_announce]
  exact setQueue_proper h ((h.zones z).sublist (withoutChain_sublist ..))

theorem discardChain_proper {z : Zone} {c : Chain} {cause : DropCause} (h : b.announce.Proper) :
    (discardChain e b z c cause).announce.Proper := dropChain_proper h

theorem ite_proper {p : Prop} [Decidable p] {x y : Blocks} (hx : x.announce.Proper) (hy : y.announce.Proper) :
    (if p then x else y).announce.Proper := by
  split
  · exact hx
  · exact hy

theorem setAnnounce_proper {a : Announcer} (h : a.Proper) : (b.setAnnounce a).announce.Proper := h

theorem queueReport_proper {r : ReportBody} (h : b.announce.Proper) : (queueReport e b r).announce.Proper := h

theorem foldl_proper {α : Type} {f : Blocks → α → Blocks} (h : b.announce.Proper)
    (hf : ∀ b x, b.announce.Proper → (f b x).announce.Proper) (l : List α) : (l.foldl f b).announce.Proper :=
  foldl_keeps (P := fun b : Blocks => b.announce.Proper) hf l b h

/-! ### Channels that are given and stopped (R184, R185) -/

/-- A zone may play on a channel: it holds that channel already, or none (R182). -/
def Announcer.mayPlay (a : Announcer) (i : Nat) (z : Zone) : Prop :=
  (∃ x, a.channel i = some x ∧ x.zone? = some z) ∨ ∀ x ∈ a.channels, x.zone? ≠ some z

theorem setChannel_proper {i : Nat} {c : Channel} (h : b.announce.Proper) (hc : ∀ z, c.zone? = some z → b.announce.mayPlay i z) :
    (b.setChannel i c).announce.Proper := by
  refine ⟨h.zones, h.channels.modify fun z hz => (hc z hz).imp_left ?_⟩
  rintro ⟨x, held, zone⟩
  unfold Announcer.channel at held
  split at held
  · exact ⟨x, held, zone⟩
  · cases held

theorem idleChannel_proper {i : Nat} (h : b.announce.Proper) : (b.setChannel i .idle).announce.Proper :=
  setChannel_proper h fun _ hz => nomatch hz

theorem startMember_proper {i : Nat} {z : Zone} {c : Chain} {m : Member} {began : Nat} (h : b.announce.Proper)
    (hz : b.announce.mayPlay i z) (hc : Replaces (b.announce.queues.get z) c) : (startMember e b i z c m began).announce.Proper := by
  have played : (b.setChannel i (.playing z m.id 0 began)).announce.Proper :=
    setChannel_proper h fun y hy => by obtain rfl : z = y := Option.some.inj hy; exact hz
  exact placeChain_proper (c := { c with place := .onChannel }) played hc

theorem giveChannels_proper (n : Nat) {b : Blocks} (h : b.announce.Proper) : (giveChannels e n b).announce.Proper := by
  induction n generalizing b with
  | zero => exact h
  | succ n ih =>
    unfold giveChannels
    split
    case h_2 => exact h
    case h_1 i z c _ startable =>
      have free := List.find?_some startable
      have mem : c ∈ b.announce.queues.get z := mem_of_mem_readyChains (List.mem_of_find?_eq_some startable)
      split
      · refine ih (startMember_proper h (.inr fun x hx zone => ?_) (.of_mem mem))
        simp [Announcer.holds] at free
        exact free x hx zone
      · exact h

/-- A PLAYING channel that is stopped keeps its zone. -/
theorem stopChannel_proper {i : Nat} {cause : StopCause} (h : b.announce.Proper) : (stopChannel e b i cause).announce.Proper := by
  unfold stopChannel
  split
  case h_1 z m n began held =>
    exact setChannel_proper h fun y hy => by obtain rfl : z = y := Option.some.inj hy; exact .inl ⟨_, held, rfl⟩
  case h_2 => exact h

theorem preemptCheck_proper (h : b.announce.Proper) : (preemptCheck e b).announce.Proper := by
  refine ite_proper h ?_
  split
  · exact stopChannel_proper h
  · exact h

theorem arbiter_proper (h : b.announce.Proper) : (arbiter e b).announce.Proper :=
  ite_proper (giveChannels_proper _ h) (preemptCheck_proper (giveChannels_proper _ h))

theorem arbiterIfLifted_proper {before : Blocks} (h : b.announce.Proper) : (arbiterIfLifted e before b).announce.Proper :=
  ite_proper (arbiter_proper h) h

/-! ### Admission (R178, R179) -/

theorem nameMembers_length (held : List Nat) (last : Nat) (l : List (List Nat)) : (nameMembers held last l).length = l.length := by
  induction l generalizing held last with
  | nil => rfl
  | cons ph l ih => exact congrArg Nat.succ (ih ..)

/-- The chains that make room give up as many places as are wanted (R179). -/
theorem takeDisplaced_spec {excess : Nat} {l out : List Chain} (h : takeDisplaced excess l = some out) :
    out.Sublist l ∧ excess ≤ messageCount out := by
  induction l generalizing excess out with
  | nil =>
    unfold takeDisplaced at h
    split at h
    case isTrue none_wanted => cases h; exact ⟨.refl _, none_wanted.le⟩
    case isFalse => cases h
  | cons c l ih =>
    unfold takeDisplaced at h
    split at h
    case isTrue none_wanted => cases h; exact ⟨List.nil_sublist _, none_wanted.trans_le (Nat.zero_le _)⟩
    case isFalse =>
      obtain ⟨rest, taken, rfl⟩ := Option.map_eq_some_iff.1 h
      obtain ⟨sub, places⟩ := ih taken
      refine ⟨sub.cons_cons c, ?_⟩
      rw [messageCount_cons]
      omega

theorem displacement_spec {q out : List Chain} {priority count : Nat} (h : displacement q priority count = some out) :
    out.Subperm q ∧ messageCount q + count ≤ Config.zoneQueueMax + messageCount out := by
  obtain ⟨sub, places⟩ := takeDisplaced_spec h
  exact ⟨(sub.trans List.filter_sublist).subperm.trans (List.reverse_perm q).subperm, by omega⟩

/-- The displaced chains leave, with all that share their heads. -/
theorem displace_queue (z : Zone) (out : List Chain) (b : Blocks) :
    (out.foldl (fun b c => discardChain e b z c .displaced) b).announce.queues.get z =
      (b.announce.queues.get z).filter fun d => decide (d.headId ∉ out.map Chain.headId) := by
  induction out generalizing b with
  | nil => simp
  | cons c out ih =>
    have dropped : (discardChain e b z c .displaced).announce.queues.get z = withoutChain c.headId (b.announce.queues.get z) := by
      change (dropChain b z c).announce.queues.get z = _
      rw [dropChain_announce]
      exact (PerZone.get_set ..).trans (if_pos rfl)
    rw [List.foldl_cons, ih, dropped, withoutChain, List.filter_filter]
    exact List.filter_congr fun d _ => by simp [Bool.and_comm]

/-- A new chain finds room for its messages (R177). -/
theorem placeChain_admits {z : Zone} {c : Chain} (h : b.announce.Proper)
    (room : messageCount (b.announce.queues.get z) + c.members.length ≤ Config.zoneQueueMax) : (placeChain b z c).announce.Proper := by
  have fewer := messageCount_sublist (withoutChain_sublist c.headId (b.announce.queues.get z))
  exact setQueue_proper h ((h.zones z).place (by omega))

theorem admitChain_proper {o : Offer} (h : b.announce.Proper) : (admitChain e b o).1.announce.Proper := by
  unfold admitChain
  split
  · exact h
  · split
    · exact h
    · split
      · exact h
      · split
        · exact h
        case h_2 store _ _ out made =>
          obtain ⟨held, places⟩ := displacement_spec made
          have left := messageCount_without held
          have displaced : (out.foldl (fun b c => discardChain e b o.zone c .displaced) (b.setStore store)).announce.Proper :=
            foldl_proper (b := b.setStore store) h (fun _ _ h => discardChain_proper h) out
          refine arbiter_proper (Announcer.Proper.of_eq (placeChain_admits (z := o.zone) displaced ?_))
          rw [displace_queue, nameMembers_length]
          change messageCount ((b.announce.queues.get o.zone).filter _) + o.members.length ≤ Config.zoneQueueMax
          omega

theorem admitOrDrop_proper {o : Offer} (h : b.announce.Proper) : (admitOrDrop e b o).announce.Proper := by
  have admitted : (admitChain e b o).1.announce.Proper := admitChain_proper h
  unfold admitOrDrop
  split
  all_goals
    rename_i heq
    rw [heq] at admitted
    exact admitted

/-! ### Plays that end (R181, R187 to R191) -/

theorem returnChain_proper {z : Zone} {c : Chain} (h : b.announce.Proper) (hc : Replaces (b.announce.queues.get z) c) :
    (returnChain e b z c).announce.Proper :=
  ite_proper (discardChain_proper h) (placeChain_proper (c := { c with place := .waiting }) h hc)

theorem endPlay_proper {z : Zone} {c : Chain} (h : b.announce.Proper) (hc : Replaces (b.announce.queues.get z) c) :
    (endPlay e b z c).announce.Proper :=
  ite_proper (dropChain_proper h) (returnChain_proper (b := b.setAnnounce { b.announce with nextOrder := b.announce.nextOrder + 1 })
    h.of_eq hc)

theorem clearRun_proper {z : Zone} (h : b.announce.Proper) : (clearRun b z).announce.Proper := h.of_eq

theorem countFailure_proper {z : Zone} (h : b.announce.Proper) : (countFailure e b z).announce.Proper := ite_proper h.of_eq h.of_eq

theorem failMember_proper {z : Zone} {c : Chain} {id : Nat} (h : b.announce.Proper) (hc : Replaces (b.announce.queues.get z) c) :
    (failMember e b z c id).announce.Proper := by
  refine countFailure_proper (ite_proper (discardChain_proper h) (returnChain_proper h ?_))
  obtain ⟨d, hd, same⟩ := hc
  refine ⟨d, hd, same.trans ?_⟩
  rw [List.map_map]
  exact List.map_congr_left fun m _ => by dsimp only [Function.comp]; split <;> rfl

/-- The chain of a message stands in its queue. -/
theorem replaces_of_chainOf {a : Announcer} {z : Zone} {id : Nat} {c : Chain} (h : a.chainOf z id = some c) :
    Replaces (a.queues.get z) c := .of_mem (List.mem_of_find?_eq_some h)

theorem completePlay_proper {i : Nat} {z : Zone} {id began : Nat} (h : b.announce.Proper) (hz : b.announce.mayPlay i z) :
    (completePlay e b i z id began).announce.Proper := by
  unfold completePlay
  dsimp only
  split
  case h_1 c hc =>
    have stands : Replaces ((clearRun b z).announce.queues.get z) c := replaces_of_chainOf hc
    split
    · exact startMember_proper (clearRun_proper h) hz stands
    · exact arbiter_proper (idleChannel_proper (endPlay_proper (clearRun_proper h) stands))
  case h_2 => exact arbiter_proper (idleChannel_proper (clearRun_proper h))

theorem failPlay_proper {i : Nat} {z : Zone} {id : Nat} (h : b.announce.Proper) : (failPlay e b i z id).announce.Proper := by
  unfold failPlay
  split
  case h_1 c hc => exact arbiter_proper (idleChannel_proper (failMember_proper h (replaces_of_chainOf hc)))
  case h_2 => exact arbiter_proper (idleChannel_proper (countFailure_proper h))

theorem deadlinePlay_proper {i : Nat} {z : Zone} {id : Nat} (h : b.announce.Proper) : (deadlinePlay e b i z id).announce.Proper := by
  refine arbiter_proper (stopChannel_proper ?_)
  split
  case h_1 c hc => exact failMember_proper h (replaces_of_chainOf hc)
  case h_2 => exact countFailure_proper h

theorem completeStop_proper {i : Nat} {z : Zone} {id : Nat} {cause : StopCause} {done : Bool} (h : b.announce.Proper) :
    (completeStop e b i z id cause done).announce.Proper := by
  refine arbiter_proper (idleChannel_proper ?_)
  cases cause with
  | withdraw => exact h
  | deadline => exact h
  | preempt =>
    have cleared : (if done then clearRun b z else b).announce.Proper := ite_proper (clearRun_proper h) h
    dsimp only
    split
    case h_1 c hc =>
      exact ite_proper (endPlay_proper cleared (replaces_of_chainOf hc)) (returnChain_proper cleared (replaces_of_chainOf hc))
    case h_2 => exact cleared

/-! ### Withdrawal (R193) -/

/-- The channel of a chain is one of the channels by its number (R182). -/
theorem channel_of_channelOf {a : Announcer} {c : Chain} {i : Nat} {x : Channel} (h : a.channelOf c = some (i, x)) :
    a.channel i = some x := by
  obtain ⟨k, inside, same⟩ := List.mem_map.1 (List.mem_of_find?_eq_some h)
  obtain ⟨rfl, rfl⟩ := Prod.mk.inj same
  have inside := List.mem_range.1 inside
  simp [Announcer.channel, inside]

theorem withdrawOne_proper {z : Zone} {c : Chain} (h : b.announce.Proper) : (withdrawOne e b z c).announce.Proper := by
  have discarded : (discardChain e b z c .withdrawn).announce.Proper := discardChain_proper h
  have channels : (discardChain e b z c .withdrawn).announce.channels = b.announce.channels := (dropChain_dropped b z c).channels
  unfold withdrawOne
  dsimp only
  split
  case h_1 => exact stopChannel_proper discarded
  case h_2 i cz m cause count began _ on =>
    have held := channel_of_channelOf on
    unfold Announcer.channel at held
    rw [← channels] at held
    exact setChannel_proper discarded fun y hy => .inl ⟨_, held, hy⟩
  case h_3 => exact discarded

theorem withdrawWhere_proper {p : Chain → Bool} (h : b.announce.Proper) : (withdrawWhere e b p).announce.Proper :=
  arbiterIfLifted_proper (foldl_proper h (fun _ _ h => foldl_proper h (fun _ _ h => withdrawOne_proper h) _) _)

/-! ### Time-driven steps and the audio player's answers (R181, R187 to R192) -/

/-- A message is found in the queue of its zone. -/
theorem replaces_of_findMessage {a : Announcer} {id : Nat} {z : Zone} {c : Chain} (h : a.findMessage id = some (z, c)) :
    Replaces (a.queues.get z) c := by
  obtain ⟨y, -, found⟩ := List.exists_of_findSome?_eq_some h
  obtain ⟨d, hd, same⟩ := Option.map_eq_some_iff.1 found
  obtain ⟨rfl, rfl⟩ := Prod.mk.inj same
  exact .of_mem (List.mem_of_find?_eq_some hd)

theorem notBeforeStep_proper {m : Nat} (h : b.announce.Proper) : (notBeforeStep e b m).announce.Proper := by
  unfold notBeforeStep
  split
  case h_1 z c found =>
    have stands : Replaces (b.announce.queues.get z) c := replaces_of_findMessage found
    exact ite_proper (arbiter_proper (placeChain_proper (c := { c with notBeforeDue := false }) h stands)) h
  case h_2 => exact h

theorem expiryStep_proper {m : Nat} (h : b.announce.Proper) : (expiryStep e b m).announce.Proper := by
  unfold expiryStep
  split
  · exact ite_proper (arbiterIfLifted_proper (discardChain_proper h)) h
  · exact h

theorem deadlineStep_proper {i : Nat} (h : b.announce.Proper) : (deadlineStep e b i).announce.Proper := by
  unfold deadlineStep
  split
  · exact ite_proper (deadlinePlay_proper h) h
  · exact h

theorem stopStep_proper {i : Nat} (h : b.announce.Proper) : (stopStep e b i).announce.Proper := by
  unfold stopStep
  split
  · exact ite_proper (completeStop_proper h) h
  · exact h

theorem audioDoneRequest_proper {i m : Nat} (h : b.announce.Proper) : (audioDoneRequest e b i m).1.announce.Proper := by
  unfold audioDoneRequest
  split
  · exact h
  case h_2 held =>
    split
    · exact completePlay_proper h (.inl ⟨_, held, rfl⟩)
    · exact h
  · split
    · exact completeStop_proper h
    · exact h
  · exact h

theorem audioFailedRequest_proper {i m : Nat} (h : b.announce.Proper) : (audioFailedRequest e b i m).1.announce.Proper := by
  unfold audioFailedRequest
  split
  · exact h
  · split
    · exact failPlay_proper h
    · exact h
  · split
    · exact completeStop_proper h
    · exact h
  · exact h

theorem audioStoppedRequest_proper {i m : Nat} (h : b.announce.Proper) : (audioStoppedRequest e b i m).1.announce.Proper := by
  unfold audioStoppedRequest
  split
  · exact h
  · split
    · exact completeStop_proper h
    · exact h
  · exact h
  · exact h

theorem audioResetRequest_proper {zone : Nat} (h : b.announce.Proper) : (audioResetRequest e b zone).1.announce.Proper := by
  unfold audioResetRequest
  split
  · exact h
  · dsimp only
    split
    · exact arbiter_proper (Announcer.Proper.of_eq h)
    · exact h.of_eq

theorem admitZones_proper {x : AnnounceRequest} {o : AnnounceOrder} (h : b.announce.Proper) : (admitZones e b x o).1.announce.Proper :=
  foldl_keeps (P := fun acc : Blocks × List Admission => acc.1.announce.Proper) (fun _ _ h => admitChain_proper h) o.zones.zones (b, []) h

theorem withdrawRequest_proper {m : Nat} (h : b.announce.Proper) : (withdrawRequest e b m).1.announce.Proper := by
  unfold withdrawRequest
  split
  · exact arbiterIfLifted_proper (withdrawOne_proper h)
  · exact h

/-! ### Counts and resets (R181, R186, R191, R203, R204) -/

theorem zoneProper.tick {q : List Chain} (h : zoneProper q) (before after : Nat) : zoneProper (q.map (Chain.tick before after)) := by
  refine ⟨?_, List.pairwise_map.2 h.2⟩
  have count : messageCount (q.map (Chain.tick before after)) = messageCount q := by
    unfold messageCount
    rw [List.map_map]
    rfl
  exact count.trans_le h.1

theorem Announcer.Proper.markDue {a : Announcer} (h : a.Proper) (before after : Nat) : (a.markDue before after).Proper :=
  ⟨fun z => (Announcer.tick_queue before after a z) ▸ (h.zones z).tick before after, h.channels⟩

theorem Channel.tick_zone (c : Channel) : c.tick.zone? = c.zone? := by cases c <;> rfl

theorem Announcer.Proper.tick {a : Announcer} (h : a.Proper) (before after : Nat) : (a.tick before after).Proper := by
  refine ⟨(h.markDue before after).zones, (List.length_map ..).trans_le h.channels.1, ?_⟩
  have zones : (a.channels.map Channel.tick).filterMap Channel.zone? = a.channels.filterMap Channel.zone? := by
    rw [List.filterMap_map]
    exact List.filterMap_congr fun c _ => c.tick_zone
  exact (congrArg List.Nodup zones).mpr h.channels.2

theorem channelsProper_idle {l : List Channel} (few : l.length ≤ 3) (idle : ∀ c ∈ l, c = .idle) : channelsProper l := by
  refine ⟨few, ?_⟩
  rw [List.filterMap_eq_nil_iff.2 fun c hc => by rw [idle c hc]; rfl]
  exact List.nodup_nil

theorem createChannels_proper {n : Nat} (h : b.announce.Proper) (few : n ≤ 3) : (createChannels b n).announce.Proper :=
  ⟨h.zones, channelsProper_idle (List.length_replicate.trans_le few) fun _ hc => List.eq_of_mem_replicate hc⟩

theorem resetStop_proper {x : Nat × Channel} (h : b.announce.Proper) : (resetStop e b x).announce.Proper := by
  unfold resetStop
  split
  · exact h
  · exact h
  · exact h

theorem resetAnnouncer_proper (h : b.announce.Proper) : (resetAnnouncer e b).announce.Proper := by
  have stopped : (b.announce.numbered.foldl (resetStop e) b).announce.Proper :=
    foldl_proper h (fun _ _ h => resetStop_proper h) _
  have idle : ((b.announce.numbered.foldl (resetStop e) b).setAnnounce
      { (b.announce.numbered.foldl (resetStop e) b).announce with
        channels := (b.announce.numbered.foldl (resetStop e) b).announce.channels.map fun _ => .idle }).announce.Proper :=
    ⟨stopped.zones, channelsProper_idle ((List.length_map ..).trans_le stopped.channels.1) (by simp)⟩
  have dropped := foldl_proper (f := dropQueue) idle (fun _ _ h => foldl_proper h (fun _ _ h => dropChain_proper h) _) allZones
  unfold resetAnnouncer
  exact foldl_proper (setAnnounce_proper (Announcer.Proper.of_eq dropped)) (fun _ _ h => queueReport_proper h) _

end

end Sys2Proof.Machine

/-! SUPPORT. The tables of `Node.TablesProper` block by block, and the Announcement Controller and the Platform Regulators that
keep them. -/

namespace Sys2Proof.Machine

/-! ### The tables of the blocks (R63, R75, R125, R177, R182) -/

/-- The trip whose entry the train at a platform has in use, if it has one (R88). -/
def Standing.entry : Standing → Option Nat
  | .vacant => none
  | .occupied _ d => d.entry

/-- What only the Timetable Store, an arrival and a departure move: the timetable, and the trip whose entry each platform has in use
(R63). -/
structure Workings where
  timetable : Timetable
  inUse : Track → Option Nat

/-- The tables of a node with such workings, by what they are read from. -/
structure TablesOf (w : Workings) (timetable : Timetable) (platforms : PerTrack Platform) (describer : PerTrack (List Approach))
    (breakers : PerBreaker (Option BreakerRecord)) (announce : Announcer) : Prop where
  timetable : timetable = w.timetable
  inUse : ∀ t, (platforms.get t).standing.entry = w.inUse t
  approaching : ∀ t, queueProper (describer.get t)
  lockouts : ∀ br r, breakers.get br = some r → r.lockout.length ≤ Config.lockoutMax
  announcer : announce.Proper

/-- The blocks have such workings, and their approaching queues, lockout sets, zone queues and channels are within bounds. -/
def Blocks.TablesOk (w : Workings) (b : Blocks) : Prop := TablesOf w b.timetable b.platforms b.describer b.power.breakers b.announce

section
variable {e : Env} {w : Workings} {b x y : Blocks}

theorem Blocks.TablesOk.timetable (h : b.TablesOk w) : b.timetable = w.timetable := TablesOf.timetable h

theorem Blocks.TablesOk.approaching (h : b.TablesOk w) (t : Track) : queueProper (b.describer.get t) := TablesOf.approaching h t

theorem Blocks.TablesOk.lockouts (h : b.TablesOk w) {br : Breaker} {r : BreakerRecord} (hr : b.power.breakers.get br = some r) :
    r.lockout.length ≤ Config.lockoutMax := TablesOf.lockouts h br r hr

theorem Blocks.TablesOk.announcer (h : b.TablesOk w) : b.announce.Proper := TablesOf.announcer h

theorem Blocks.TablesOk.inUse (h : b.TablesOk w) (t : Track) : (b.platforms.get t).standing.entry = w.inUse t := TablesOf.inUse h t

/-- The train at a platform has the entry in use that the workings name. -/
theorem Blocks.TablesOk.dwell (h : b.TablesOk w) {t : Track} {p : Phase} {d : Dwell} (hs : (b.platforms.get t).standing = .occupied p d) :
    d.entry = w.inUse t := by
  rw [← h.inUse t, hs]
  rfl

theorem Blocks.TablesOk.ite {p : Prop} [Decidable p] (hx : x.TablesOk w) (hy : y.TablesOk w) : (if p then x else y).TablesOk w := by
  split
  · exact hx
  · exact hy

theorem Blocks.TablesOk.foldl {α : Type} {f : Blocks → α → Blocks} (h : b.TablesOk w) (hf : ∀ b x, b.TablesOk w → (f b x).TablesOk w)
    (l : List α) : (l.foldl f b).TablesOk w := foldl_keeps hf l b h

/-- What is announced moves the zone queues and the channels alone. -/
theorem Blocks.TablesOk.announced (h : b.TablesOk w) (k : Announced b x) (ha : b.announce.Proper → x.announce.Proper) : x.TablesOk w := by
  refine ⟨?_, ?_, ?_, ?_, ha h.announcer⟩
  · rw [k.timetable]; exact h.timetable
  · rw [k.platforms]; exact h.inUse
  · rw [k.describer]; exact h.approaching
  · rw [k.power]; exact TablesOf.lockouts h

theorem queueReport_tables {r : ReportBody} (h : b.TablesOk w) : (queueReport e b r).TablesOk w := h

theorem setAnnounce_tables {a : Announcer} (h : b.TablesOk w) (ha : a.Proper) : (b.setAnnounce a).TablesOk w :=
  ⟨h.timetable, h.inUse, h.approaching, TablesOf.lockouts h, ha⟩

theorem setApproach_tables {t : Track} {q : List Approach} (h : b.TablesOk w) (hq : queueProper q) : (b.setApproach t q).TablesOk w := by
  refine ⟨h.timetable, h.inUse, fun u => ?_, TablesOf.lockouts h, h.announcer⟩
  change queueProper ((b.describer.set t q).get u)
  rw [PerTrack.get_set]
  split
  · exact hq
  · exact h.approaching u

theorem setPlatform_tables {t : Track} {p : Platform} (h : b.TablesOk w) (hp : p.standing.entry = w.inUse t) :
    (b.setPlatform t p).TablesOk w := by
  refine ⟨h.timetable, fun u => ?_, h.approaching, TablesOf.lockouts h, h.announcer⟩
  change ((b.platforms.set t p).get u).standing.entry = w.inUse u
  rw [PerTrack.get_set]
  split
  case isTrue same => exact same ▸ hp
  case isFalse => exact h.inUse u

/-! ### Announcements (chapter 10) -/

theorem admitOrDrop_tables {o : Offer} (h : b.TablesOk w) : (admitOrDrop e b o).TablesOk w :=
  h.announced (admitOrDrop_announced ..) admitOrDrop_proper

theorem withdrawWhere_tables {p : Chain → Bool} (h : b.TablesOk w) : (withdrawWhere e b p).TablesOk w :=
  h.announced (withdrawWhere_announced ..) withdrawWhere_proper

theorem offerSuspend_tables {t : Track} {sec : TractionSection} (h : b.TablesOk w) : (offerSuspend e b t sec).TablesOk w :=
  .foldl h (fun _ _ h => admitOrDrop_tables h) _

theorem offerDelay_tables {r : Incident} {l : Option Nat} (h : b.TablesOk w) : (offerDelay e b r l).TablesOk w :=
  .foldl h (fun _ _ h => admitOrDrop_tables h) _

theorem offerEvacuate_tables {r : Incident} (h : b.TablesOk w) : (offerEvacuate e b r).TablesOk w := by
  unfold offerEvacuate
  split
  · exact .foldl h (fun _ _ h => admitOrDrop_tables h) _
  · exact h

theorem offerStalled_tables {r : Incident} (h : b.TablesOk w) : (offerStalled e b r).TablesOk w := by
  unfold offerStalled
  split
  · exact admitOrDrop_tables h
  · exact h

theorem offerForIncident_tables {r : Incident} {l : Option Nat} (h : b.TablesOk w) : (offerForIncident e b r l).TablesOk w := by
  unfold offerForIncident
  split
  case h_1 => exact offerDelay_tables h
  case h_2 => exact .ite (offerEvacuate_tables h) h
  case h_3 => exact .ite (offerStalled_tables h) h
  all_goals exact h

theorem offerApproach_tables {t : Track} {upstream : Nat} {phrase : Option Nat} (h : b.TablesOk w) :
    (offerApproach e b t upstream phrase).TablesOk w := admitOrDrop_tables h

theorem takeAnnounce_tables {c : AnnounceContents} (h : b.TablesOk w) : (takeAnnounce e b c).TablesOk w :=
  .ite (.foldl h (fun _ _ h => admitOrDrop_tables h) _) h

/-! ### Platforms keep the entry of their train (chapter 6) -/

section
variable {t : Track} {d : Dwell}

theorem writeDwell_tables {p : Phase} (h : b.TablesOk w) (hd : d.entry = w.inUse t) : (writeDwell b t p d).TablesOk w :=
  setPlatform_tables h hd

theorem watchHeld_tables (h : b.TablesOk w) : (watchHeld e b t).TablesOk w := by
  unfold watchHeld
  split
  case h_1 d hs => exact .ite (admitOrDrop_tables (writeDwell_tables (d := { d with heldLong := true }) h (h.dwell hs :))) h
  case h_2 => exact h

theorem enterHeld_tables (h : b.TablesOk w) (hd : d.entry = w.inUse t) : (enterHeld e b t d).TablesOk w :=
  watchHeld_tables (b := reportSet e ((writeDwell b t .held d).setStarter t false) t .held d) (writeDwell_tables (p := .held) h hd)

theorem enterReleased_tables (h : b.TablesOk w) (hd : d.entry = w.inUse t) : (enterReleased e b t d).TablesOk w :=
  writeDwell_tables (p := .released) (d := { d with reasons := .empty, staggerOpen := false, grace := none }) h hd

theorem releaseCheck_tables (h : b.TablesOk w) (hd : d.entry = w.inUse t) : (releaseCheck e b t d).TablesOk w :=
  .ite (enterReleased_tables (d := checkedDwell e b t d) h hd) (enterHeld_tables (d := checkedDwell e b t d) h hd)

theorem targetStep_tables (h : b.TablesOk w) : (targetStep e b t).TablesOk w := by
  unfold targetStep
  split
  case h_1 d hs => exact .ite (releaseCheck_tables (d := { d with targetOver := true }) h (h.dwell hs :)) h
  case h_2 => exact h

theorem settleHeld_tables {old : Dwell} (h : b.TablesOk w) (hd : d.entry = w.inUse t) : (settleHeld e b t old d).TablesOk w :=
  .ite (enterReleased_tables h hd) (.ite (writeDwell_tables h hd) (writeDwell_tables (p := .held) h hd))

theorem withdrawRelease_tables {r : Reasons} (h : b.TablesOk w) (hd : d.entry = w.inUse t) :
    (withdrawRelease e b t d r).TablesOk w := enterHeld_tables (d := { d with reasons := r, grace := some 0 }) h hd

theorem toldPower_tables (h : b.TablesOk w) : (toldPower e b t).TablesOk w := by
  unfold toldPower
  split
  case h_1 d hs => exact settleHeld_tables (d := { d with reasons := _ }) h (h.dwell hs :)
  case h_2 d hs => exact .ite (withdrawRelease_tables h (h.dwell hs)) h
  all_goals exact h

theorem toldIncidentAt_tables (h : b.TablesOk w) : (toldIncidentAt e b t).TablesOk w := by
  unfold toldIncidentAt
  split
  case h_1 d hs => exact settleHeld_tables (d := { d with reasons := _ }) h (h.dwell hs :)
  case h_2 d hs => exact .ite (withdrawRelease_tables h (h.dwell hs)) h
  all_goals exact h

theorem toldIncident_tables (h : b.TablesOk w) : (toldIncident e b).TablesOk w := toldIncidentAt_tables (toldIncidentAt_tables h)

theorem toldLatch_tables (h : b.TablesOk w) : (toldLatch e b t).TablesOk w := by
  unfold toldLatch
  split
  case h_1 d hs => exact settleHeld_tables (d := { d with reasons := _ }) h (h.dwell hs :)
  case h_2 d hs => exact .ite (withdrawRelease_tables h (h.dwell hs)) h
  all_goals exact h

theorem toldStartsAt_tables (h : b.TablesOk w) : (toldStartsAt e b t).TablesOk w := by
  unfold toldStartsAt
  split
  case h_1 d hs => exact .ite (settleHeld_tables (d := { d with staggerTime := _, reasons := _ }) h (h.dwell hs :)) h
  all_goals exact h

theorem toldStarts_tables (h : b.TablesOk w) : (toldStarts e b).TablesOk w := toldStartsAt_tables (toldStartsAt_tables h)

theorem staggerStep_tables (h : b.TablesOk w) : (staggerStep e b t).TablesOk w := by
  unfold staggerStep
  split
  case h_1 d hs => exact .ite (settleHeld_tables (d := { d with reasons := _ }) h (h.dwell hs :)) h
  case h_2 => exact h

theorem graceStep_tables (h : b.TablesOk w) : (graceStep b t).TablesOk w := by
  unfold graceStep
  split
  case h_1 p d hs => exact .ite (writeDwell_tables (d := { d with grace := none }) h (h.dwell hs :)) h
  case h_2 => exact h

theorem holdPlatform_tables (h : b.TablesOk w) : (holdPlatform e b t).1.TablesOk w := by
  unfold holdPlatform
  split
  case h_1 => exact h
  case h_2 d hs => exact enterHeld_tables (d := { d with reasons := _, grace := _ }) h (h.dwell hs :)
  case h_3 p d _ hs =>
    split
    · exact h
    · exact writeDwell_tables (d := { d with reasons := _ }) h (h.dwell hs :)

theorem unholdPlatform_tables (h : b.TablesOk w) : (unholdPlatform e b t).1.TablesOk w := by
  unfold unholdPlatform
  split
  case h_1 => exact h
  case h_2 p d hs =>
    split
    · exact h
    · cases p with
      | held => exact settleHeld_tables (d := { d with reasons := _ }) h (h.dwell hs :)
      | dwell => exact writeDwell_tables (d := { d with reasons := _ }) h (h.dwell hs :)
      | released => exact writeDwell_tables (d := { d with reasons := _ }) h (h.dwell hs :)

theorem releasePlatform_tables (h : b.TablesOk w) : (releasePlatform e b t).1.TablesOk w := by
  unfold releasePlatform
  split
  case h_1 => exact h
  case h_2 => exact h
  case h_3 p d _ hs =>
    cases p with
    | dwell => exact releaseCheck_tables (d := { d with targetOver := _, staggerOpen := _, reasons := _ }) h (h.dwell hs :)
    | held => exact settleHeld_tables (d := { d with targetOver := _, staggerOpen := _, reasons := _ }) h (h.dwell hs :)
    | released => exact h

theorem toldAddition_tables {wasEmpty : Bool} (h : b.TablesOk w) : (toldAddition e b t wasEmpty).TablesOk w := by
  unfold toldAddition
  split
  case h_1 d hs =>
    have aimed (i : DwellInput) : ({ d with followerAvailable := false }.aim i).entry = w.inUse t := (h.dwell hs :)
    have written (i : DwellInput) : (writeDwell b t .dwell ({ d with followerAvailable := false }.aim i)).TablesOk w :=
      writeDwell_tables h (aimed i)
    let i := dwellInput e b t d (effectiveGain e b t d.entry.isNone)
    exact .ite (.ite (releaseCheck_tables (queueReport_tables (written i)) (aimed i)) (queueReport_tables (written i))) h
  case h_2 => exact h

end

end

end Sys2Proof.Machine

/-! SUPPORT. The Power Controller and the Incident Table keep the tables: no set of lockout ids grows above four (R125). -/

namespace Sys2Proof.Machine

section
variable {e : Env} {w : Workings} {b : Blocks}

/-! ### Frames and reports -/

theorem queueFrame_tables {f : Frame} (h : b.TablesOk w) : (queueFrame e b f).TablesOk w := by
  obtain ⟨l, p, eq⟩ := queueFrame_eq e b f
  exact eq ▸ h

theorem queuePowerFrame_tables {br : Breaker} {reason : Option RefusalReason} (h : b.TablesOk w) :
    (queuePowerFrame e b br reason).TablesOk w := by
  unfold queuePowerFrame
  split
  · split
    · exact queueFrame_tables h
    · exact h
  · exact h

theorem queueIncidentFrame_tables {id : IncidentId} {action : IncidentAction} {reason : Option CloseReason} (h : b.TablesOk w) :
    (queueIncidentFrame e b id action reason).TablesOk w := by
  unfold queueIncidentFrame
  split
  · exact queueFrame_tables h
  · exact h

theorem reportIncident_tables {event : IncidentEvent} {id : IncidentId} (h : b.TablesOk w) : (reportIncident e b event id).TablesOk w := by
  unfold reportIncident
  split
  · exact queueReport_tables h
  · exact h

/-! ### Sections and isolation items (R127, R128, R132) -/

theorem setBreaker_tables {br : Breaker} {r : BreakerRecord} (h : b.TablesOk w) (hr : r.lockout.length ≤ Config.lockoutMax) :
    (b.setBreaker br r).TablesOk w := by
  refine ⟨by simpa using h.timetable, by simpa using h.inUse, by simpa using h.approaching, fun x y hx => ?_, by simpa using h.announcer⟩
  rw [Blocks.setBreaker_breakers] at hx
  split at hx
  · cases hx
    exact hr
  · exact h.lockouts hx

/-- A breaker's record is written with the lockout set that it has. -/
theorem modifyBreaker_tables {br : Breaker} {f : BreakerRecord → BreakerRecord} (h : b.TablesOk w)
    (hf : ∀ r, (f r).lockout = r.lockout := by exact fun _ => rfl) : (modifyBreaker b br f).TablesOk w := by
  unfold modifyBreaker
  split
  case h_1 r hr => exact setBreaker_tables h (by rw [hf]; exact h.lockouts hr)
  case h_2 => exact h

theorem setCoils_tables {br : Breaker} {c : CoilLines} (h : b.TablesOk w) : (b.setCoils br c).TablesOk w := h

theorem setLatch_tables {t : Track} {l : Latch} (h : b.TablesOk w) : (b.setLatch t l).TablesOk w := h

theorem setRecords_tables {l : List Incident} (h : b.TablesOk w) : (b.setRecords l).TablesOk w := h

theorem modifyRecord_tables {id : IncidentId} {f : Incident → Incident} (h : b.TablesOk w) : (b.modifyRecord id f).TablesOk w := h

theorem tellSection_tables {sec : TractionSection} {before after : SectionState} (h : b.TablesOk w) :
    (tellSection e b sec before after).TablesOk w := by
  have told (x : Option Track) : Blocks.TablesOk w (match x with
      | some t => if after = .dead ∧ e.inService then offerSuspend e (toldPower e b t) t sec else toldPower e b t
      | none => b) := by
    split
    · exact .ite (offerSuspend_tables (toldPower_tables h)) (toldPower_tables h)
    · exact h
  exact .ite (withdrawWhere_tables (told _)) (told _)

theorem sectionUpdate_tables {br : Breaker} (h : b.TablesOk w) : (sectionUpdate e b br).TablesOk w := by
  unfold sectionUpdate
  split
  case h_1 r hr =>
    have written : (b.setBreaker br { r with sectionState := some (sectionStateOf e b br) }).TablesOk w :=
      setBreaker_tables h (h.lockouts hr :)
    refine .ite h ?_
    dsimp only
    split
    · split
      · exact toldPower_tables written
      · exact written
    · exact .ite h (tellSection_tables (queueReport_tables written))
  case h_2 => exact h

theorem setItem_tables {id : IncidentId} {sec : TractionSection} {f : IsolationItem → IsolationItem} (h : b.TablesOk w) :
    (setItem b id sec f).TablesOk w := h

theorem confirmItem_tables {id : IncidentId} {sec : TractionSection} (h : b.TablesOk w) : (confirmItem e b id sec).TablesOk w :=
  .ite (queueReport_tables h) h

theorem confirmItems_tables {p : TractionSection → Bool} (h : b.TablesOk w) : (confirmItems e b p).TablesOk w :=
  .foldl h (fun _ _ h => confirmItem_tables h) _

/-! ### Changes of state, commands and waits (R118 to R122, R138) -/

theorem setCondition_tables {br : Breaker} {c : Condition} {cause : Option ChangeCause} (h : b.TablesOk w) :
    (setCondition e b br c cause).TablesOk w := by
  have written : (modifyBreaker b br fun r => { r with condition := some c }).TablesOk w := modifyBreaker_tables h
  have updated := sectionUpdate_tables (e := e) (br := br) (queueReport_tables (e := e) (r := .breakerChange br c.state cause)
    (queuePowerFrame_tables (e := e) (br := br) (reason := none) written))
  exact .ite (confirmItems_tables updated) updated

theorem refuseRestore_tables {br : Breaker} {requester : Nat} {reason : RefusalReason} (h : b.TablesOk w) :
    (refuseRestore e b br requester reason).TablesOk w := queueReport_tables (queuePowerFrame_tables h)

theorem clearWait_tables {br : Breaker} (h : b.TablesOk w) : (clearWait b br).TablesOk w := modifyBreaker_tables h

theorem endWait_tables {br : Breaker} {reason : RefusalReason} (h : b.TablesOk w) : (endWait e b br reason).TablesOk w := by
  unfold endWait
  split
  · exact refuseRestore_tables (clearWait_tables h)
  · exact h

theorem endPulse_tables {br : Breaker} (h : b.TablesOk w) : (endPulse b br).TablesOk w := by
  unfold endPulse
  split
  · exact h
  · exact h

theorem openCommand_tables {br : Breaker} (h : b.TablesOk w) : (openCommand e b br).TablesOk w := by
  have pulsed : (openCoil b br).TablesOk w := h
  refine endWait_tables ?_
  split
  · split
    · exact setCondition_tables pulsed
    · exact setCondition_tables pulsed
    · exact h
    · exact h
    · exact .ite (setCondition_tables pulsed) (setCondition_tables h)
    · exact h
  · exact h

theorem openIfLocked_tables {br : Breaker} (h : b.TablesOk w) : (openIfLocked e b br).TablesOk w := by
  unfold openIfLocked
  split
  · exact .ite (openCommand_tables h) h
  · exact h

theorem closeCommand_tables {br : Breaker} (h : b.TablesOk w) : (closeCommand e b br).TablesOk w :=
  setCondition_tables (setCoils_tables h)

theorem followInput_tables {br : Breaker} (h : b.TablesOk w) : (followInput e b br).TablesOk w := by
  unfold followInput
  split
  · exact .ite (openIfLocked_tables (setCondition_tables h)) h
  · exact h

/-! ### Lockout sets (R125, R126) -/

theorem reportLockout_tables {br : Breaker} {before : BreakerRecord} (h : b.TablesOk w) : (reportLockout e b br before).TablesOk w := by
  unfold reportLockout
  split
  · exact .ite h (queueReport_tables h)
  · exact h

theorem examineBreaker_tables {br : Breaker} (h : b.TablesOk w) : (examineBreaker e b br).TablesOk w :=
  endWait_tables (setCoils_tables (openCommand_tables h))

/-- A fifth id does not make a lockout set longer: it takes the place of the last one, or sets OVERLOCK alone (R125). -/
theorem BreakerRecord.addLockout_length {r : BreakerRecord} (h : r.lockout.length ≤ Config.lockoutMax) (id : IncidentId) (latch : Bool) :
    (r.addLockout id latch).lockout.length ≤ Config.lockoutMax := by
  have four : Config.lockoutMax = 4 := rfl
  unfold BreakerRecord.addLockout
  split
  case isTrue room => simpa using room
  case isFalse full =>
    split
    · simp only [List.length_append, List.length_dropLast, List.length_singleton]
      omega
    · exact h

theorem lockoutAdd_tables {br : Breaker} {id : IncidentId} {latch : Bool} (h : b.TablesOk w) : (lockoutAdd e b br id latch).TablesOk w := by
  unfold lockoutAdd
  split
  case h_1 r hr =>
    exact .ite h (examineBreaker_tables (reportLockout_tables (setBreaker_tables h (r.addLockout_length (h.lockouts hr) ..))))
  case h_2 => exact h

theorem lockoutRemove_tables {br : Breaker} {id : IncidentId} (h : b.TablesOk w) : (lockoutRemove e b br id).TablesOk w := by
  unfold lockoutRemove
  split
  case h_1 r hr => exact .ite (reportLockout_tables (setBreaker_tables h ((List.length_filter_le ..).trans (h.lockouts hr)))) h
  case h_2 => exact h

theorem forceLockout_tables {br : Breaker} (h : b.TablesOk w) : (forceLockout e b br).TablesOk w := by
  unfold forceLockout
  split
  case h_1 r hr => exact reportLockout_tables (setBreaker_tables h ((List.length_filter_le ..).trans (h.lockouts hr)))
  case h_2 => exact h

theorem failIdLeft_tables {br : Breaker} {id : IncidentId} (h : b.TablesOk w) : (failIdLeft e b br id).TablesOk w := by
  unfold failIdLeft
  split
  case h_1 r hr => exact .ite (followInput_tables (setBreaker_tables h (h.lockouts hr :))) h
  case h_2 => exact h

theorem latchIdLeft_tables {t : Track} {id : IncidentId} (h : b.TablesOk w) : (latchIdLeft b t id).TablesOk w := .ite (setLatch_tables h) h

theorem tellLatchCleared_tables {t : Track} {id : IncidentId} {before : Blocks} (h : b.TablesOk w) :
    (tellLatchCleared e b t id before).TablesOk w := .ite (queueReport_tables (toldLatch_tables h)) h

theorem powerIdLeft_tables {id : IncidentId} (h : b.TablesOk w) : (powerIdLeft e b id).TablesOk w := by
  refine .foldl ?_ (fun _ _ h => failIdLeft_tables h) _
  refine .foldl ?_ (fun _ _ h => tellLatchCleared_tables h) _
  refine .foldl ?_ (fun _ _ h => lockoutRemove_tables h) _
  exact .foldl h (fun _ _ h => latchIdLeft_tables h) _

/-! ### The RESTORE protocol (R134 to R138) -/

theorem namedCleanup_tables {br : Breaker} {id : Option IncidentId} (h : b.TablesOk w) : (namedCleanup e b br id).TablesOk w := by
  unfold namedCleanup
  split
  · exact .ite (lockoutRemove_tables h) h
  · exact h

theorem meetLow_tables {br : Breaker} {fromPort : Bool} {requester : Nat} (h : b.TablesOk w) :
    (meetLow e b br fromPort requester).TablesOk w := by
  unfold meetLow
  split
  · exact closeCommand_tables h
  · exact refuseRestore_tables h

theorem meetHigh_tables {br : Breaker} {fromPort : Bool} {requester : Nat} {id : Option IncidentId} (h : b.TablesOk w) :
    (meetHigh e b br fromPort requester id).TablesOk w := by
  unfold meetHigh
  split
  · exact refuseRestore_tables (clearWait_tables h)
  · exact .ite (closeCommand_tables (clearWait_tables h)) (.ite (modifyBreaker_tables h) (queuePowerFrame_tables (modifyBreaker_tables h)))

theorem meetRestore_tables {br : Breaker} {fromPort : Bool} {requester : Nat} {id : Option IncidentId} (h : b.TablesOk w) :
    (meetRestore e b br fromPort requester id).TablesOk w := by
  have cleaned : (namedCleanup e b br id).TablesOk w := namedCleanup_tables h
  unfold meetRestore
  dsimp only
  split
  · exact queuePowerFrame_tables cleaned
  · exact queuePowerFrame_tables cleaned
  · exact .ite (meetHigh_tables cleaned) (meetLow_tables cleaned)

theorem tryWait_tables {br : Breaker} (h : b.TablesOk w) : (tryWait e b br).TablesOk w := by
  unfold tryWait
  split
  · split
    · exact closeCommand_tables (clearWait_tables h)
    · exact refuseRestore_tables (clearWait_tables h)
  · exact h

theorem toldFarEnd_tables {br : Breaker} (h : b.TablesOk w) : (toldFarEnd e b br).TablesOk w := by
  have confirmed : (confirmItems e (sectionUpdate e b br) fun sec => decide (sec = e.fed br)).TablesOk w :=
    confirmItems_tables (sectionUpdate_tables h)
  exact .ite (tryWait_tables confirmed) confirmed

theorem toldLost_tables {p : Nat} (h : b.TablesOk w) : (toldLost e b p).TablesOk w := .foldl h (fun _ _ h => .ite (tryWait_tables h) h) _

theorem settleBreaker_tables {br : Breaker} {isClosed : Bool} (h : b.TablesOk w) : (settleBreaker e b br isClosed).TablesOk w :=
  openIfLocked_tables (setCondition_tables (modifyBreaker_tables h))

theorem thirdStep_tables {br : Breaker} (h : b.TablesOk w) : (thirdStep e b br).TablesOk w := by
  unfold thirdStep
  split
  · exact .ite (setCondition_tables h) h
  · exact h

theorem waitStep_tables {br : Breaker} (h : b.TablesOk w) : (waitStep e b br).TablesOk w := by
  unfold waitStep
  split
  · exact .ite (endWait_tables h) h
  · exact h

/-! ### Entry to the table and departure from it (R148, R149, R154, R163) -/

theorem setAlarm_tables {on : Bool} (h : b.TablesOk w) : (setAlarm b on).TablesOk w := h

theorem soundAlarm_tables {severity : Nat} (h : b.TablesOk w) : (soundAlarm b severity).TablesOk w := .ite (setAlarm_tables h) h

theorem tellEntry_tables {r : Incident} {lateness : Option Nat} (h : b.TablesOk w) : (tellEntry e b r lateness).TablesOk w :=
  offerForIncident_tables (soundAlarm_tables (toldIncident_tables h))

theorem tellChange_tables {before after : Nat} (h : b.TablesOk w) : (tellChange e b before after).TablesOk w :=
  .ite (soundAlarm_tables (toldIncident_tables h)) (toldIncident_tables h)

theorem tellDeparture_tables {id : IncidentId} (h : b.TablesOk w) : (tellDeparture e b id).TablesOk w :=
  toldIncident_tables (withdrawWhere_tables (powerIdLeft_tables h))

theorem enterRecord_tables {r : Incident} (h : b.TablesOk w) : (enterRecord b r).TablesOk w := h

theorem leaveTable_tables {id : IncidentId} (h : b.TablesOk w) : (leaveTable b id).TablesOk w := h

theorem removeCopy_tables {id : IncidentId} (h : b.TablesOk w) : (removeCopy e b id).TablesOk w :=
  tellDeparture_tables (leaveTable_tables h)

theorem closeRecord_tables {r : Incident} {reason : CloseReason} (h : b.TablesOk w) : (closeRecord e b r reason).TablesOk w :=
  queueReport_tables (tellDeparture_tables (leaveTable_tables (.ite h (queueFrame_tables h))))

theorem closeOwned_tables {id : Option IncidentId} {kind : IncidentKind} (h : b.TablesOk w) : (closeOwned e b id kind).TablesOk w := by
  unfold closeOwned
  split
  · exact closeRecord_tables h
  · exact h

theorem closeWhere_tables {p : Incident → Bool} {reason : CloseReason} (h : b.TablesOk w) : (closeWhere e b p reason).TablesOk w := by
  refine .foldl h (fun b id h => ?_) _
  split
  · exact closeRecord_tables h
  · exact h

theorem evictCopy_tables {r : Incident} (h : b.TablesOk w) : (evictCopy e b r).TablesOk w := queueReport_tables (removeCopy_tables h)

theorem makeRoom_tables {b' : Blocks} {severity : Nat} {isLocal : Bool} (room : makeRoom e b severity isLocal = some b')
    (h : b.TablesOk w) : b'.TablesOk w := by
  unfold makeRoom at room
  split at room
  · cases room; exact h
  · split at room
    · cases room; exact evictCopy_tables h
    · split at room
      · split at room
        · cases room; exact closeRecord_tables h
        · split at room
          · cases room; exact evictCopy_tables h
          · split at room
            · cases room; exact closeRecord_tables h
            · cases room
      · cases room

theorem raiseIncident_tables {x : Raise} {lateness : Option Nat} (h : b.TablesOk w) : (raiseIncident e b x lateness).1.TablesOk w := by
  unfold raiseIncident
  split
  · exact .ite h (queueReport_tables h)
  case h_2 y room =>
    have roomy : y.TablesOk w := makeRoom_tables room h
    exact tellEntry_tables (reportIncident_tables (queueIncidentFrame_tables (enterRecord_tables roomy)))

theorem acknowledgeIncident_tables {id : IncidentId} (h : b.TablesOk w) : (acknowledgeIncident e b id).1.TablesOk w := by
  unfold acknowledgeIncident
  split
  · exact h
  · split
    · exact h
    · split
      · exact h
      · exact reportIncident_tables (queueIncidentFrame_tables (modifyRecord_tables h))

theorem changeIncident_tables {id : IncidentId} {severity : Nat} (h : b.TablesOk w) : (changeIncident e b id severity).1.TablesOk w := by
  unfold changeIncident
  split
  · exact h
  · split
    · exact h
    · split
      · exact h
      · split
        · exact h
        · exact tellChange_tables (reportIncident_tables (queueIncidentFrame_tables (modifyRecord_tables h)))

theorem escalate_tables {id : IncidentId} (h : b.TablesOk w) : (escalate e b id).TablesOk w := by
  unfold escalate
  split
  · refine .ite (.ite ?_ ?_) h
    · exact queueIncidentFrame_tables (modifyRecord_tables h)
    · exact tellChange_tables (reportIncident_tables (queueIncidentFrame_tables (modifyRecord_tables h)))
  · exact h

theorem closeIncident_tables {id : IncidentId} (h : b.TablesOk w) : (closeIncident e b id).1.TablesOk w := by
  unfold closeIncident
  split
  · exact h
  · split
    · exact h
    · split
      · exact h
      · exact closeRecord_tables h

theorem checkAdoptedLost_tables (h : b.TablesOk w) : (checkAdoptedLost e b).TablesOk w := closeWhere_tables h

/-! ### Copies and claims, liveness and counts (R155 to R162) -/

theorem storeCopy_tables {c : IncidentContents} (h : b.TablesOk w) : (storeCopy e b c).TablesOk w := by
  refine .ite h (.ite ?_ h)
  split
  · exact queueReport_tables h
  case h_2 y room =>
    have roomy : y.TablesOk w := makeRoom_tables room h
    exact tellEntry_tables (reportIncident_tables (enterRecord_tables roomy))

theorem updateCopy_tables {r : Incident} {p : CopyPart} {c : IncidentContents} (h : b.TablesOk w) : (updateCopy e b r p c).TablesOk w := by
  have told {q : Prop} [Decidable q] (f : Incident → Incident) (x y : Nat) :
      (if q then b.modifyRecord r.id f else tellChange e (b.modifyRecord r.id f) x y).TablesOk w :=
    .ite (modifyRecord_tables h) (tellChange_tables (modifyRecord_tables h))
  exact .ite h (.ite (.ite (told _ _ _) (reportIncident_tables (told _ _ _))) h)

theorem meetLocal_tables {r : Incident} {c : IncidentContents} (h : b.TablesOk w) : (meetLocal e b r c).TablesOk w := by
  refine .ite (.ite (removeCopy_tables h) (reportIncident_tables ?_)) (.ite h (queueIncidentFrame_tables h))
  exact .ite (modifyRecord_tables h) (tellChange_tables (modifyRecord_tables h))

theorem takeIncident_tables {c : IncidentContents} (h : b.TablesOk w) : (takeIncident e b c).TablesOk w := by
  unfold takeIncident
  split
  · exact .ite (powerIdLeft_tables h) (storeCopy_tables h)
  · split
    · exact meetLocal_tables h
    · exact .ite (removeCopy_tables h) (updateCopy_tables h)

theorem orphanCopies_tables {peer : Nat} (h : b.TablesOk w) : (orphanCopies e b peer).TablesOk w :=
  .foldl h (fun _ _ h => reportIncident_tables (modifyRecord_tables h)) _

theorem toldLiveness_tables {peer : Nat} {after : Liveness} (h : b.TablesOk w) : (toldLiveness e b peer after).TablesOk w := by
  refine checkAdoptedLost_tables ?_
  cases after with
  | lost => exact orphanCopies_tables h
  | current => exact setRecords_tables h
  | stale => exact h
  | unheard => exact h

theorem adoptIncident_tables {id : IncidentId} (h : b.TablesOk w) : (adoptIncident e b id).1.TablesOk w := by
  unfold adoptIncident
  split
  · exact h
  · split
    · exact h
    · split
      · exact h
      · exact checkAdoptedLost_tables (reportIncident_tables (queueIncidentFrame_tables (modifyRecord_tables h)))

theorem refreshStep_tables {id : IncidentId} (h : b.TablesOk w) : (refreshStep e b id).TablesOk w := by
  unfold refreshStep
  split
  · exact .ite (queueIncidentFrame_tables h) h
  · exact h

theorem localAgeStep_tables {id : IncidentId} (h : b.TablesOk w) : (localAgeStep e b id).TablesOk w := by
  unfold localAgeStep
  split
  · exact .ite (closeRecord_tables h) h
  · exact h

theorem copyDropStep_tables {id : IncidentId} (h : b.TablesOk w) : (copyDropStep e b id).TablesOk w := by
  unfold copyDropStep
  split
  · exact .ite (queueReport_tables (removeCopy_tables h)) h
  · exact h

/-! ### Isolations, movements, emergency stop and frames (R120 to R142) -/

theorem sendIsolate_tables {id : IncidentId} {sec : TractionSection} (h : b.TablesOk w) : (sendIsolate e b id sec).TablesOk w :=
  setItem_tables (queueFrame_tables h)

theorem beginIsolation_tables {id : IncidentId} {sec : TractionSection} (h : b.TablesOk w) : (beginIsolation e b id sec).TablesOk w := by
  unfold beginIsolation
  split
  case h_1 r _ =>
    have placed : (if restarts r.items sec then queueReport e (b.modifyRecord id fun r => r.setItems (placeItem r.items sec))
        (.itemChange id sec .pending) else b.modifyRecord id fun r => r.setItems (placeItem r.items sec)).TablesOk w :=
      .ite (queueReport_tables (modifyRecord_tables h)) (modifyRecord_tables h)
    refine .ite (sendIsolate_tables ?_) ?_
    all_goals
      split
      · exact lockoutAdd_tables placed
      · exact placed
  · exact h

theorem failItem_tables {id : IncidentId} {sec : TractionSection} (h : b.TablesOk w) : (failItem e b id sec).TablesOk w :=
  escalate_tables (queueReport_tables (setItem_tables h))

theorem repeatStep_tables {id : IncidentId} {sec : TractionSection} (h : b.TablesOk w) : (repeatStep e b id sec).TablesOk w := by
  unfold repeatStep
  split
  · refine .ite (.ite ?_ (.ite ?_ ?_)) h
    · exact confirmItem_tables (setItem_tables h)
    · exact sendIsolate_tables (setItem_tables h)
    · exact failItem_tables (setItem_tables h)
  · exact h

theorem protectionTrip_tables {br : Breaker} (h : b.TablesOk w) : (protectionTrip e b br).TablesOk w := by
  have raised : (raiseIncident e (setCondition e b br .opened (some .trip)) (sectionRaise .sectionTrip (e.fed br)) none).1.TablesOk w :=
    raiseIncident_tables (setCondition_tables h)
  unfold protectionTrip
  dsimp only
  split
  all_goals
    rename_i heq
    rw [heq] at raised
  · exact beginIsolation_tables (lockoutAdd_tables raised)
  · exact raised

theorem uncommandedClose_tables {br : Breaker} (h : b.TablesOk w) : (uncommandedClose e b br).TablesOk w :=
  openIfLocked_tables (raiseIncident_tables (setCondition_tables h))

theorem breakerChange_tables {br : Breaker} {isClosed : Bool} (h : b.TablesOk w) : (breakerChange e b br isClosed).TablesOk w := by
  have entered : (modifyBreaker b br fun r => { r with inputClosed := some isClosed }).TablesOk w := modifyBreaker_tables h
  unfold breakerChange
  dsimp only
  split
  · exact .ite (setCondition_tables entered) entered
  · exact .ite (setCondition_tables entered) (.ite (modifyBreaker_tables entered) entered)
  · exact .ite entered (protectionTrip_tables entered)
  · exact .ite (uncommandedClose_tables entered) entered
  · exact followInput_tables entered
  · exact entered

theorem limitStep_tables {br : Breaker} (h : b.TablesOk w) : (limitStep e b br).TablesOk w := by
  unfold limitStep
  split
  · refine .ite (endWait_tables (setCondition_tables (modifyBreaker_tables ?_))) h
    exact raiseIncident_tables (modifyBreaker_tables h)
  · exact h

theorem emergencyStop_tables {t : Track} (h : b.TablesOk w) : (emergencyStop e b t).TablesOk w := by
  have raised (l : Latch) : (((raiseIncident e (b.setLatch t { isSet := true, id := none, ignored := 0 }) (estopRaise e t) none).1).setLatch
      t l).TablesOk w := setLatch_tables (raiseIncident_tables (setLatch_tables h))
  refine queueReport_tables (queueReport_tables (toldLatch_tables ?_))
  split
  · exact .foldl (.foldl (raised _) (fun _ _ h => lockoutAdd_tables h) _) (fun _ _ h => beginIsolation_tables h) _
  · exact raised _

theorem plungerPress_tables {t : Track} (h : b.TablesOk w) : (plungerPress e b t).TablesOk w :=
  .ite (queueReport_tables (setLatch_tables h)) (emergencyStop_tables h)

theorem keyLevel_tables {isSet : Bool} (h : b.TablesOk w) : (keyLevel e b isSet).TablesOk w := .ite h (queueReport_tables h)

theorem takeIsolate_tables {sec : TractionSection} {id : IncidentId} (h : b.TablesOk w) : (takeIsolate e b sec id).TablesOk w := by
  unfold takeIsolate
  split
  · exact .ite (queuePowerFrame_tables h) (queuePowerFrame_tables (lockoutAdd_tables h))
  · exact h

theorem takeRestore_tables {sec : TractionSection} {requester : Nat} {id : Option IncidentId} (h : b.TablesOk w) :
    (takeRestore e b sec requester id).TablesOk w := by
  refine .ite ?_ h
  split
  · exact meetRestore_tables h
  · exact h

theorem takePower_tables {source : Nat} {c : PowerContents} (h : b.TablesOk w) : (takePower e b source c).TablesOk w := by
  have failed {q : Prop} [Decidable q] (l : List (IncidentId × TractionSection)) :
      (confirmItems e (if q then l.foldl (fun b x => failItem e b x.1 x.2) b else b) fun _ => true).TablesOk w :=
    confirmItems_tables (.ite (.foldl h (fun _ _ h => failItem_tables h) _) h)
  unfold takePower
  dsimp only
  split
  · exact .ite (endWait_tables (failed _)) (failed _)
  · exact failed _

theorem isolateRequest_tables {sec : Option TractionSection} {id : IncidentId} (h : b.TablesOk w) :
    (isolateRequest e b sec id).1.TablesOk w := by
  unfold isolateRequest
  split
  · exact h
  · split
    · exact h
    · split
      · exact h
      · exact beginIsolation_tables h

theorem restoreRequest_tables {sec : Option TractionSection} {id : Option IncidentId} {force : Bool} (h : b.TablesOk w) :
    (restoreRequest e b sec id force).1.TablesOk w := by
  unfold restoreRequest
  split
  · exact h
  · split
    · exact h
    · split
      · split
        · exact h
        · exact queueFrame_tables h
      · split
        · exact h
        · exact queueFrame_tables (meetRestore_tables (.ite (forceLockout_tables h) h))

end

end Sys2Proof.Machine

/-! SUPPORT. The Peer View and the approaching queues keep the tables: a queue stands in order of U, with no trip twice (R75, R76). -/

namespace Sys2Proof.Machine

section
variable {e : Env} {w : Workings} {b : Blocks}

/-! ### The Peer View (chapter 4) -/

theorem setPeers_tables {p : PeerView} (h : b.TablesOk w) : (b.setPeers p).TablesOk w := h

theorem modifyPeer_tables {n : Nat} {f : PeerEntry → PeerEntry} (h : b.TablesOk w) : (modifyPeer b n f).TablesOk w := h

theorem offerStart_tables {sec : TractionSection} {d : Nat} (h : b.TablesOk w) : (offerStart e b sec d).TablesOk w :=
  .ite h (toldStarts_tables (setPeers_tables h))

theorem lapseStep_tables {node : Nat} (h : b.TablesOk w) : (lapseStep e b node).TablesOk w := by
  unfold lapseStep
  split
  · exact .ite (toldStarts_tables (setPeers_tables h)) h
  · exact h

theorem emptyStarts_tables (h : b.TablesOk w) : (emptyStarts e b).TablesOk w := toldStarts_tables (setPeers_tables h)

theorem raiseLost_tables {peer : Nat} (h : b.TablesOk w) : (raiseLost e b peer).TablesOk w :=
  .ite (setPeers_tables (raiseIncident_tables h)) h

theorem closeLost_tables {peer : Nat} (h : b.TablesOk w) : (closeLost e b peer).TablesOk w := by
  refine .ite (setPeers_tables ?_) h
  split
  · exact .ite (closeRecord_tables h) h
  · exact h

theorem tellLiveness_tables {peer : Nat} {before after : Liveness} (h : b.TablesOk w) :
    (tellLiveness e b peer before after).TablesOk w := by
  have told : (toldLiveness e (queueReport e b (.peerLiveness peer before after)) peer after).TablesOk w :=
    toldLiveness_tables (queueReport_tables h)
  exact .ite (toldLost_tables told) told

theorem hear_tables {source : Nat} (h : b.TablesOk w) : (hear e b source).TablesOk w := by
  refine .ite (modifyPeer_tables h) (.ite (closeLost_tables ?_) ?_)
  all_goals exact tellLiveness_tables (modifyPeer_tables h)

theorem withFarEnds_tables {f : Blocks → Blocks} (h : (f b).TablesOk w) : (withFarEnds e b f).TablesOk w :=
  .foldl h (fun _ _ h => toldFarEnd_tables h) _

theorem staleStep_tables {node : Nat} (h : b.TablesOk w) : (staleStep e b node).TablesOk w :=
  .ite (tellLiveness_tables (modifyPeer_tables h)) h

theorem lostStep_tables {node : Nat} (h : b.TablesOk w) : (lostStep e b node).TablesOk w :=
  .ite (withFarEnds_tables (raiseLost_tables (tellLiveness_tables (modifyPeer_tables h)))) h

theorem hearFrom_tables {source : Nat} (h : b.TablesOk w) : (hearFrom e b source).TablesOk w :=
  hear_tables (lostStep_tables (staleStep_tables h))

theorem statusStart_tables {source : Nat} {c : StatusContents} {t : Track} (h : b.TablesOk w) :
    (statusStart e source c b t).TablesOk w := by
  unfold statusStart
  split
  · exact offerStart_tables h
  · exact h

theorem peerStatus_tables {source : Nat} {c : StatusContents} (h : b.TablesOk w) : (peerStatus e b source c).TablesOk w :=
  withFarEnds_tables (.foldl (modifyPeer_tables h) (fun _ _ h => statusStart_tables h) _)

theorem peerPower_tables {source : Nat} {c : PowerContents} (h : b.TablesOk w) : (peerPower e b source c).TablesOk w :=
  withFarEnds_tables (modifyPeer_tables h)

theorem peerDepart_tables {c : DepartContents} (h : b.TablesOk w) : (peerDepart e b c).TablesOk w := by
  unfold peerDepart
  split
  · exact offerStart_tables h
  · exact h

theorem raiseStandingLost_tables (h : b.TablesOk w) : (raiseStandingLost e b).TablesOk w :=
  .foldl h (fun _ _ h => .ite (raiseLost_tables h) h) _

/-! ### The approaching queues (chapter 5) -/

/-- Placing by a number behind every equal one keeps the order by that number. -/
theorem pairwise_orderedInsert {α : Type} {f : α → Nat} {a : α} {l : List α} (h : l.Pairwise fun x y => f x ≤ f y) :
    (l.orderedInsert (fun x y => f x < f y) a).Pairwise fun x y => f x ≤ f y := by
  induction l with
  | nil => simp
  | cons x l ih =>
    obtain ⟨first, rest⟩ := List.pairwise_cons.1 h
    unfold List.orderedInsert
    split
    case isTrue before =>
      refine List.pairwise_cons.2 ⟨fun y hy => ?_, h⟩
      rcases List.mem_cons.1 hy with rfl | hy
      · exact before.le
      · exact before.le.trans (first y hy)
    case isFalse behind =>
      refine List.pairwise_cons.2 ⟨fun y hy => ?_, ih rest⟩
      rcases (List.mem_orderedInsert _).1 hy with rfl | hy
      · exact not_lt.1 behind
      · exact first y hy

theorem insertApproach_eq_orderedInsert (a : Approach) (l : List Approach) :
    insertApproach a l = l.orderedInsert (fun x y => x.upstream < y.upstream) a := by
  induction l with
  | nil => rfl
  | cons x l ih => simp only [insertApproach, List.orderedInsert, ih]

theorem queueProper.nil : queueProper [] := ⟨Nat.zero_le _, .nil, .nil⟩

theorem queueProper.sublist {q q' : List Approach} (h : queueProper q) (s : q'.Sublist q) : queueProper q' :=
  ⟨s.length_le.trans h.1, h.2.1.sublist s, h.2.2.sublist (s.map _)⟩

theorem queueProper.insert {a : Approach} {q : List Approach} (h : queueProper q) (room : ¬ Config.approachMax ≤ q.length)
    (new : ¬ queueHolds q a.trip = true) : queueProper (insertApproach a q) := by
  have perm := List.perm_orderedInsert (fun x y : Approach => x.upstream < y.upstream) a q
  have other : a.trip ∉ q.map (·.trip) := by
    simpa [queueHolds_iff] using new
  refine ⟨?_, ?_, ?_⟩
  · rw [insertApproach_length]
    omega
  · rw [insertApproach_eq_orderedInsert]
    exact pairwise_orderedInsert h.2.1
  · rw [insertApproach_eq_orderedInsert, (perm.map _).nodup_iff]
    exact List.nodup_cons.2 ⟨other, h.2.2⟩

theorem stallCheck_tables {t : Track} (h : b.TablesOk w) : (stallCheck e b t).TablesOk w := by
  unfold stallCheck
  split
  case h_1 a rest sec hq hs =>
    have proper : queueProper (a :: rest) := hq ▸ h.approaching t
    exact .ite (setApproach_tables (raiseIncident_tables h) (by simpa [queueProper] using proper)) h
  case h_2 => exact h

theorem addApproach_tables {t : Track} {trip upstream : Nat} {source : ApproachSource} (h : b.TablesOk w)
    (room : ¬ Config.approachMax ≤ (b.describer.get t).length) (new : ¬ queueHolds (b.describer.get t) trip = true) :
    (addApproach e b t trip upstream source).TablesOk w := by
  have added : (addedTo e b t ⟨trip, upstream, source, false, none⟩).TablesOk w :=
    queueReport_tables (setApproach_tables h ((h.approaching t).insert room new))
  have told (wasEmpty : Bool) (phrase : Option Nat) :
      (announcedAt e (addedTo e b t ⟨trip, upstream, source, false, none⟩) t wasEmpty upstream phrase).TablesOk w :=
    .ite (offerApproach_tables (toldAddition_tables added)) (toldAddition_tables added)
  rw [addApproach_eq e b t trip upstream source rfl rfl]
  exact .ite (stallCheck_tables (told ..)) (told ..)

theorem describeError_tables {t : Track} {trip : Nat} (h : b.TablesOk w) : (describeError e b t trip).TablesOk w :=
  .ite h (raiseIncident_tables h)

theorem takeDepart_tables {source : Nat} {c : DepartContents} (h : b.TablesOk w) : (takeDepart e b source c).TablesOk w := by
  refine .ite ?_ h
  dsimp only
  split
  case isTrue => exact queueReport_tables (describeError_tables h)
  case isFalse clear =>
    obtain ⟨new, room⟩ := not_or.1 clear
    exact addApproach_tables h room new

theorem injectTrain_tables {platform trip : Nat} {upstream : Option Nat} (h : b.TablesOk w) :
    (injectTrain e b platform trip upstream).1.TablesOk w := by
  unfold injectTrain
  split
  · exact h
  · dsimp only
    split
    · exact h
    · split
      · exact h
      · next new =>
        split
        · exact h
        · next room => exact addApproach_tables h room new

theorem flushTrain_tables {platform trip : Nat} (h : b.TablesOk w) : (flushTrain e b platform trip).1.TablesOk w := by
  unfold flushTrain
  split
  · exact h
  next t _ =>
    split
    · exact h
    · dsimp only
      split
      · exact h
      · refine .ite (stallCheck_tables ?_) ?_
        all_goals exact queueReport_tables (closeOwned_tables (setApproach_tables h ((h.approaching t).sublist List.filter_sublist)))

theorem takeHead_tables {t : Track} {x : Approach} {rest : List Approach} (h : b.TablesOk w) (hq : b.describer.get t = x :: rest) :
    (takeHead e b t x rest).TablesOk w := by
  have proper : queueProper (x :: rest) := hq ▸ h.approaching t
  exact stallCheck_tables (closeOwned_tables (setApproach_tables h (proper.sublist (List.sublist_cons_self ..))))

/-! ### Delivery (R46) -/

theorem deliver_tables {source : Nat} {f : Frame} (h : b.TablesOk w) : (deliver e b source f).TablesOk w := by
  have heard : (hearFrom e b source).TablesOk w := hearFrom_tables h
  cases f with
  | status c => exact peerStatus_tables heard
  | power c => exact takePower_tables (peerPower_tables heard)
  | depart c => exact takeDepart_tables (peerDepart_tables heard)
  | isolate sec id => exact takeIsolate_tables heard
  | restore sec requester id => exact takeRestore_tables heard
  | incident c => exact takeIncident_tables heard
  | announce c => exact takeAnnounce_tables heard

end

end Sys2Proof.Machine

/-! SUPPORT. A sequence and the entry that its platform's train has in use, as the Timetable Store, arrivals and departures keep them
(R63, R66, R67, R70 to R74, R83, R84). -/

namespace Sys2Proof.Machine

/-! ### One sequence (R63) -/

/-- What a sequence keeps while `used` is the trip, if any, whose entry the train at its platform has in use. -/
structure SequenceOk (service : Bool) (used : Option Nat) (l : List Entry) : Prop where
  rising : l.Pairwise fun x y => x.departure ≤ y.departure
  distinct : (l.map (·.trip)).Nodup
  marked : ∀ x ∈ l, x.state = .inUse → used = some x.trip
  works : ∀ trip, used = some trip → service = true ∧ ∃ x ∈ l, x.trip = trip ∧ x.state = .inUse
  final : l.Pairwise fun x y => x.state = .pending → y.state ≠ .inUse ∧ y.state ≠ .consumed

theorem Standing.entry_eq_some {s : Standing} {trip : Nat} : s.entry = some trip ↔ ∃ p d, s = .occupied p d ∧ d.entry = some trip := by
  cases s with
  | vacant => simp [Standing.entry]
  | occupied p d => simp [Standing.entry]

theorem sequenceOk_iff {service : Bool} {s : Standing} {l : List Entry} :
    SequenceOk service s.entry l ↔ ordered l ∧ entriesTrue service s l := by
  constructor
  · intro h
    exact ⟨⟨h.rising, h.distinct⟩, fun x hx hs => Standing.entry_eq_some.1 (h.marked x hx hs),
      fun p d trip hs hd => h.works trip (Standing.entry_eq_some.2 ⟨p, d, hs, hd⟩), h.final⟩
  · rintro ⟨⟨rising, distinct⟩, marked, works, final⟩
    refine ⟨rising, distinct, fun x hx hs => Standing.entry_eq_some.2 (marked x hx hs), fun trip used => ?_, final⟩
    obtain ⟨p, d, hs, hd⟩ := Standing.entry_eq_some.1 used
    exact works p d trip hs hd

theorem SequenceOk.nil {service : Bool} : SequenceOk service none [] where
  rising := .nil
  distinct := .nil
  marked _ hx := absurd hx List.not_mem_nil
  works _ h := nomatch h
  final := .nil

section
variable {service : Bool} {used : Option Nat} {before after : List Entry} {x y : Entry}

/-- Outside SERVICE no entry is in use. -/
theorem SequenceOk.unused {l : List Entry} (h : SequenceOk false used l) : used = none := by
  cases used with
  | none => rfl
  | some trip => exact absurd (h.works trip rfl).1 (by simp)

/-- With no entry in use the service day may begin or end. -/
theorem SequenceOk.of_unused {l : List Entry} (h : SequenceOk service none l) (other : Bool) : SequenceOk other none l :=
  ⟨h.rising, h.distinct, h.marked, fun _ used => (nomatch used), h.final⟩

/-- The entries behind the last one of a load (R67). -/
theorem SequenceOk.append {l : List Entry} (h : SequenceOk service used l) (hs : y.state = .pending)
    (later : ∀ z, l.getLast? = some z → z.departure ≤ y.departure) (new : ∀ z ∈ l, z.trip ≠ y.trip) :
    SequenceOk service used (l ++ [y]) where
  rising := by
    refine List.pairwise_append.2 ⟨h.rising, List.pairwise_singleton .., fun z hz w hw => ?_⟩
    obtain rfl := List.mem_singleton.1 hw
    rcases List.eq_nil_or_concat l with rfl | ⟨init, last, rfl⟩
    · exact absurd hz List.not_mem_nil
    · rw [List.concat_eq_append] at hz h later
      have bound := later last (by simp)
      rcases List.mem_append.1 hz with hz | hz
      · exact ((List.pairwise_append.1 h.rising).2.2 z hz last (by simp)).trans bound
      · exact List.mem_singleton.1 hz ▸ bound
  distinct := by
    rw [List.map_append, List.nodup_append]
    refine ⟨h.distinct, by simp, fun a ha c hc => ?_⟩
    obtain ⟨z, hz, rfl⟩ := List.mem_map.1 ha
    obtain rfl : c = y.trip := by simpa using hc
    exact new z hz
  marked z hz hu := by
    rcases List.mem_append.1 hz with hz | hz
    · exact h.marked z hz hu
    · rw [List.mem_singleton.1 hz, hs] at hu
      cases hu
  works trip ht := by
    obtain ⟨hserv, z, hz, hzt⟩ := h.works trip ht
    exact ⟨hserv, z, List.mem_append_left _ hz, hzt⟩
  final := by
    refine List.pairwise_append.2 ⟨h.final, List.pairwise_singleton .., fun z _ w hw _ => ?_⟩
    rw [List.mem_singleton.1 hw, hs]
    exact ⟨nofun, nofun⟩

theorem insertEntry_eq_orderedInsert (new : Entry) (l : List Entry) :
    insertEntry new l = l.orderedInsert (fun x y => x.departure < y.departure) new := by
  induction l with
  | nil => rfl
  | cons x l ih => simp only [insertEntry, List.orderedInsert, ih]

theorem insertEntry_perm (new : Entry) (l : List Entry) : (insertEntry new l).Perm (new :: l) :=
  insertEntry_eq_orderedInsert new l ▸ List.perm_orderedInsert _ new l

/-- An entry put in its place by its departure, with no entry that is in use or consumed behind it (R72). -/
theorem SequenceOk.insert {l : List Entry} (h : SequenceOk service used l) (hs : y.state = .pending) (new : ∀ z ∈ l, z.trip ≠ y.trip)
    (late : ∀ z ∈ l, z.state = .inUse ∨ z.state = .consumed → z.departure ≤ y.departure) : SequenceOk service used (insertEntry y l) := by
  have perm := insertEntry_perm y l
  refine ⟨insertEntry_eq_orderedInsert y l ▸ pairwise_orderedInsert h.rising, ?_, fun z hz hu => ?_, fun trip ht => ?_, ?_⟩
  · rw [(perm.map _).nodup_iff]
    refine List.nodup_cons.2 ⟨fun held => ?_, h.distinct⟩
    obtain ⟨z, hz, same⟩ := List.mem_map.1 held
    exact new z hz same
  · rcases List.mem_cons.1 (perm.mem_iff.1 hz) with rfl | hz
    · rw [hs] at hu
      cases hu
    · exact h.marked z hz hu
  · obtain ⟨on, z, hz, named⟩ := h.works trip ht
    exact ⟨on, z, perm.mem_iff.2 (List.mem_cons_of_mem _ hz), named⟩
  · obtain ⟨rising, -, -, -, final⟩ := h
    clear new perm
    induction l with
    | nil => exact List.pairwise_singleton ..
    | cons x l ih =>
      obtain ⟨first, rising⟩ := List.pairwise_cons.1 rising
      obtain ⟨settled, rest⟩ := List.pairwise_cons.1 final
      unfold insertEntry
      split
      case isTrue before =>
        refine List.pairwise_cons.2 ⟨fun z hz _ => ?_, final⟩
        have behind : y.departure < z.departure := by
          rcases List.mem_cons.1 hz with rfl | hz
          · exact before
          · exact before.trans_le (first z hz)
        exact ⟨fun hu => Nat.not_le.2 behind (late z hz (.inl hu)), fun hu => Nat.not_le.2 behind (late z hz (.inr hu))⟩
      case isFalse =>
        refine List.pairwise_cons.2 ⟨fun z hz hx => ?_,
          ih (fun z hz => late z (List.mem_cons_of_mem _ hz)) rising rest⟩
        rcases List.mem_cons.1 ((insertEntry_perm y l).mem_iff.1 hz) with rfl | hz
        · rw [hs]
          exact ⟨nofun, nofun⟩
        · exact settled z hz hx

/-! ### One entry replaced (R70, R71, R74) -/

/-- What stands at a place gives way to an entry of the same trip, in the order of departure, that is in use or consumed only where what
stood there was in use, and PENDING only where it was PENDING. -/
theorem SequenceOk.replace {used' : Option Nat} (h : SequenceOk service used (before ++ x :: after)) (same : y.trip = x.trip)
    (behind : ∀ z ∈ before, z.departure ≤ y.departure) (ahead : ∀ z ∈ after, y.departure ≤ z.departure)
    (pending : y.state = .pending → x.state = .pending) (closed : y.state = .inUse ∨ y.state = .consumed → x.state = .inUse)
    (marked : ∀ z ∈ before ++ y :: after, z.state = .inUse → used' = some z.trip)
    (works : ∀ trip, used' = some trip → service = true ∧ ∃ z ∈ before ++ y :: after, z.trip = trip ∧ z.state = .inUse) :
    SequenceOk service used' (before ++ y :: after) := by
  obtain ⟨rising, distinct, -, -, final⟩ := h
  simp only [List.pairwise_append, List.pairwise_cons, List.forall_mem_cons] at rising final
  obtain ⟨rising₁, ⟨-, rising₂⟩, apart⟩ := rising
  obtain ⟨final₁, ⟨settled, final₂⟩, order⟩ := final
  refine ⟨?_, ?_, marked, works, ?_⟩
  · simp only [List.pairwise_append, List.pairwise_cons, List.forall_mem_cons]
    exact ⟨rising₁, ⟨ahead, rising₂⟩, fun z hz => ⟨behind z hz, (apart z hz).2⟩⟩
  · rwa [List.map_append, List.map_cons, same, ← List.map_cons, ← List.map_append]
  · simp only [List.pairwise_append, List.pairwise_cons, List.forall_mem_cons]
    refine ⟨final₁, ⟨fun z hz hy => settled z hz (pending hy), final₂⟩, fun z hz => ⟨fun hp => ?_, (order z hz).2⟩⟩
    have open_ := ((order z hz).1 hp).1
    exact ⟨fun hy => open_ (closed (.inl hy)), fun hy => open_ (closed (.inr hy))⟩

/-- An amendment of a PENDING entry leaves it PENDING or CANCELLED (R70, R71). -/
theorem SequenceOk.amend (h : SequenceOk service used (before ++ x :: after)) (hx : x.state = .pending) (same : y.trip = x.trip)
    (hy : y.state = .pending ∨ y.state = .cancelled) (behind : ∀ z ∈ before, z.departure ≤ y.departure)
    (ahead : ∀ z ∈ after, y.departure ≤ z.departure) : SequenceOk service used (before ++ y :: after) := by
  have idle : y.state ≠ .inUse ∧ y.state ≠ .consumed := by
    rcases hy with hy | hy
    all_goals rw [hy]; exact ⟨nofun, nofun⟩
  have others {z : Entry} (hz : z.state = .inUse) : z ∈ before ++ y :: after ↔ z ∈ before ++ x :: after := by
    have notx : z ≠ x := fun same => by rw [same, hx] at hz; cases hz
    have noty : z ≠ y := fun same => idle.1 (same ▸ hz)
    simp [notx, noty]
  refine h.replace same behind ahead (fun _ => hx) (fun closed => absurd closed (not_or.2 idle))
    (fun z hz hu => h.marked z ((others hu).1 hz) hu) fun trip ht => ?_
  obtain ⟨on, z, hz, named, hu⟩ := h.works trip ht
  exact ⟨on, z, (others hu).2 hz, named, hu⟩

/-- The entry in use comes to its final state, and none is in use (R74). -/
theorem SequenceOk.finish (h : SequenceOk service used (before ++ x :: after)) (hx : x.state = .inUse) (same : y.trip = x.trip)
    (hy : y.state = .consumed ∨ y.state = .cancelled) (behind : ∀ z ∈ before, z.departure ≤ y.departure)
    (ahead : ∀ z ∈ after, y.departure ≤ z.departure) : SequenceOk service none (before ++ y :: after) := by
  have done : y.state ≠ .pending ∧ y.state ≠ .inUse := by
    rcases hy with hy | hy
    all_goals rw [hy]; exact ⟨nofun, nofun⟩
  have alone : ∀ z ∈ before ++ y :: after, z.state ≠ .inUse := by
    have distinct := h.distinct
    rw [List.map_append, List.map_cons, List.nodup_append, List.nodup_cons] at distinct
    obtain ⟨-, ⟨single, -⟩, apart⟩ := distinct
    have twin {z : Entry} (hz : z ∈ before ++ x :: after) (hu : z.state = .inUse) : z.trip = x.trip :=
      Option.some.inj ((h.marked z hz hu).symm.trans (h.marked x (by simp) hx))
    intro z hz hu
    rcases List.mem_append.1 hz with hz | hz
    · exact apart _ (List.mem_map_of_mem hz) _ List.mem_cons_self (twin (by simp [hz]) hu)
    · rcases List.mem_cons.1 hz with rfl | hz
      · exact done.2 hu
      · exact single (twin (by simp [hz]) hu ▸ List.mem_map_of_mem hz)
  exact h.replace same behind ahead (fun hp => absurd hp done.1) (fun _ => hx) (fun z hz hu => absurd hu (alone z hz)) nofun

/-! ### A PENDING entry brought in use (R83, R84) -/

/-- The match leaves no PENDING entry before the one that it brings in use. -/
theorem SequenceOk.use (h : SequenceOk service none (before ++ x :: after)) (on : service = true) :
    SequenceOk service (some x.trip) (before.map Entry.passedOver ++ { x with state := .inUse } :: after) := by
  have kept (f : Entry → Nat) (hf : ∀ z s, f { z with state := s } = f z) :
      (before.map Entry.passedOver ++ { x with state := .inUse } :: after).map f = (before ++ x :: after).map f := by
    have passed : (before.map Entry.passedOver).map f = before.map f := by
      rw [List.map_map]
      refine List.map_congr_left fun z _ => ?_
      unfold Function.comp Entry.passedOver
      split
      · exact hf z _
      · rfl
    rw [List.map_append, List.map_append, passed, List.map_cons, List.map_cons, hf]
  have passed : ∀ z ∈ before.map Entry.passedOver, z.state ≠ .pending ∧ z.state ≠ .inUse := by
    intro z hz
    obtain ⟨v, hv, rfl⟩ := List.mem_map.1 hz
    unfold Entry.passedOver
    split
    case isTrue => exact ⟨nofun, nofun⟩
    case isFalse other => exact ⟨other, fun hu => nomatch h.marked v (by simp [hv]) hu⟩
  have later : ∀ z ∈ after, z.state ≠ .inUse := fun z hz hu => nomatch h.marked z (by simp [hz]) hu
  refine ⟨List.pairwise_map.1 ?_, kept (·.trip) (fun _ _ => rfl) ▸ h.distinct, fun z hz hu => ?_, fun trip ht => ?_, ?_⟩
  · rw [kept (·.departure) fun _ _ => rfl]
    exact List.pairwise_map.2 h.rising
  · rcases List.mem_append.1 hz with hz | hz
    · exact absurd hu (passed z hz).2
    · rcases List.mem_cons.1 hz with rfl | hz
      · rfl
      · exact absurd hu (later z hz)
  · exact ⟨on, _, List.mem_append_right _ List.mem_cons_self, Option.some.inj ht, rfl⟩
  · have behind := (List.pairwise_cons.1 (List.pairwise_append.1 h.final).2.1).2
    exact List.pairwise_append.2 ⟨List.pairwise_of_forall_mem_list fun z hz _ _ hp => absurd hp (passed z hz).1,
      List.pairwise_cons.2 ⟨fun _ _ hp => (nomatch hp), behind⟩, fun z hz _ _ hp => absurd hp (passed z hz).1⟩

end

end Sys2Proof.Machine

/-! SUPPORT. The tables of a node as a whole, and the operations that move its timetable or its entries in use: loads, amendments,
arrivals and departures (R63, R65 to R74, R83, R84, R90, R91, R108). -/

namespace Sys2Proof.Machine

/-! ### The workings of a node (R63, R65, R66) -/

/-- The timetable is within its bounds and agrees with the entries in use. -/
structure Workings.Proper (service : Bool) (w : Workings) : Prop where
  sequence : ∀ t, SequenceOk service (w.inUse t) (w.timetable.sequences.get t)
  total : w.timetable.total ≤ Config.timetableMax
  load : w.timetable.load.fits w.timetable.total

/-- Everything that `Node.TablesProper` says of the blocks, in SERVICE or out of it. -/
def Blocks.TablesProper (service : Bool) (b : Blocks) : Prop := ∃ w : Workings, w.Proper service ∧ b.TablesOk w

theorem Node.tablesProper_iff {n : Node} : n.TablesProper ↔ n.blk.TablesProper (decide (n.env.nodeState = .service)) := by
  constructor
  · intro h
    exact ⟨⟨n.blk.timetable, fun t => (n.blk.platforms.get t).standing.entry⟩,
      ⟨fun t => sequenceOk_iff.2 ⟨h.sequences t, h.entries t⟩, h.total, h.load⟩,
      ⟨rfl, fun _ => rfl, h.approaching, h.lockouts, ⟨fun z => ⟨h.zones z, h.ranked z⟩, ⟨h.channels, h.oneChannel⟩⟩⟩⟩
  · rintro ⟨w, hw, h⟩
    have seq (t : Track) := sequenceOk_iff.1 (h.inUse t ▸ h.timetable ▸ hw.sequence t)
    exact ⟨fun t => (seq t).1, fun t => (seq t).2, h.timetable ▸ hw.total, h.timetable ▸ hw.load, h.approaching,
      fun z => (h.announcer.zones z).1, fun z => (h.announcer.zones z).2, h.announcer.channels.1, h.announcer.channels.2,
      fun _ _ hr => h.lockouts hr⟩

/-- What keeps the workings keeps the tables. -/
theorem Blocks.TablesProper.of {service : Bool} {b x : Blocks} (h : b.TablesProper service) (k : ∀ w, b.TablesOk w → x.TablesOk w) :
    x.TablesProper service := h.imp fun w ⟨hw, h⟩ => ⟨hw, k w h⟩

/-- Where no entry is in use the service day may begin or end. -/
theorem Workings.Proper.of_unused {service : Bool} {w : Workings} (h : w.Proper service) (unused : ∀ t, w.inUse t = none) (other : Bool) :
    w.Proper other where
  sequence t := unused t ▸ (unused t ▸ h.sequence t).of_unused other
  total := h.total
  load := h.load

/-- The workings with another sequence. -/
def Workings.withSequence (w : Workings) (t : Track) (l : List Entry) : Workings :=
  { w with timetable := { w.timetable with sequences := w.timetable.sequences.set t l } }

/-- The workings with another entry in use, or none. -/
def Workings.withUse (w : Workings) (t : Track) (used : Option Nat) : Workings :=
  { w with inUse := fun u => if u = t then used else w.inUse u }

section
variable {service : Bool} {w : Workings} {t : Track} {l : List Entry} {used : Option Nat}

theorem withSequence_self (w : Workings) (t : Track) : w.withSequence t (w.timetable.sequences.get t) = w := by cases t <;> rfl

theorem withUse_self (h : w.inUse t = used) : w.withUse t used = w := by
  unfold Workings.withUse
  congr
  funext u
  split
  case isTrue same => rw [same, h]
  case isFalse => rfl

theorem withSequence_total (w : Workings) (t : Track) (l : List Entry) :
    (w.withSequence t l).timetable.total + (w.timetable.sequences.get t).length = w.timetable.total + l.length := by
  cases t
  all_goals
    simp only [Workings.withSequence, Timetable.total, PerTrack.set, PerTrack.get]
    omega

/-- One sequence and its entry in use move together. -/
theorem Workings.Proper.move (h : w.Proper service) (hl : SequenceOk service used l)
    (total : ((w.withSequence t l).withUse t used).timetable.total ≤ Config.timetableMax)
    (load : w.timetable.load.fits ((w.withSequence t l).withUse t used).timetable.total) :
    ((w.withSequence t l).withUse t used).Proper service := by
  refine ⟨fun u => ?_, total, load⟩
  simp only [Workings.withSequence, Workings.withUse, PerTrack.get_set]
  split
  · exact hl
  · exact h.sequence u

/-- A sequence gives way to one of its length. -/
theorem Workings.Proper.rewrite (h : w.Proper service) (hl : SequenceOk service used l)
    (same : l.length = (w.timetable.sequences.get t).length) : ((w.withSequence t l).withUse t used).Proper service := by
  have total : ((w.withSequence t l).withUse t used).timetable.total = w.timetable.total := by
    have count := withSequence_total w t l
    change (w.withSequence t l).timetable.total = _
    omega
  exact h.move hl (total ▸ h.total) (total ▸ h.load)

variable {b : Blocks}

theorem setSequence_tables (h : b.TablesOk w) : (b.setSequence t l).TablesOk (w.withSequence t l) := by
  refine ⟨?_, h.inUse, h.approaching, TablesOf.lockouts h, h.announcer⟩
  rw [Workings.withSequence, ← h.timetable]
  rfl

theorem setStanding_tables {p : Platform} (h : b.TablesOk w) (hp : p.standing.entry = used) :
    (b.setPlatform t p).TablesOk (w.withUse t used) := by
  refine ⟨h.timetable, fun u => ?_, h.approaching, TablesOf.lockouts h, h.announcer⟩
  change ((b.platforms.set t p).get u).standing.entry = if u = t then used else w.inUse u
  rw [PerTrack.get_set]
  split
  · exact hp
  · exact h.inUse u

theorem setTimetable_tables {x : Timetable} (h : b.TablesOk w) : (b.setTimetable x).TablesOk { w with timetable := x } :=
  ⟨rfl, h.inUse, h.approaching, TablesOf.lockouts h, h.announcer⟩

end

/-! ### Loads (R65 to R68) -/

/-- The workings of an emptied store, with no entry in use. -/
def Workings.emptied (load : LoadState) : Workings :=
  { timetable := { sequences := ⟨[], []⟩, load := load, lastPart := none }, inUse := fun _ => none }

theorem Workings.Proper.emptied {service : Bool} {load : LoadState} (fits : load.fits 0) : (Workings.emptied load).Proper service where
  sequence t := by cases t <;> exact .nil
  total := Nat.zero_le _
  load := fits

theorem emptyTimetable_tables {w : Workings} {b : Blocks} {load : LoadState} (h : b.TablesOk w) (unused : ∀ t, w.inUse t = none) :
    (emptyTimetable b load).TablesOk (.emptied load) :=
  ⟨rfl, fun t => (h.inUse t).trans (unused t), h.approaching, TablesOf.lockouts h, h.announcer⟩

/-- Every sequence of a store is in order with no entry in use. -/
def storeOk (s : PerTrack (List Entry)) : Prop := ∀ t, SequenceOk false none (s.get t)

/-- The entries a store holds. -/
def heldBy (s : PerTrack (List Entry)) : Nat := s.up.length + s.down.length

theorem checkEntry_storeOk {s s' : PerTrack (List Entry)} {x : EntryRequest} (h : storeOk s) (hs : checkEntry s x = .ok s') :
    storeOk s' ∧ heldBy s' = heldBy s + 1 := by
  cases hx : x.entry with
  | none => rw [EntryRequest.entry_out hx] at hs; cases hs
  | some r =>
    obtain ⟨t, y⟩ := r
    obtain ⟨-, -, -, -, -, -, -, hy⟩ := EntryRequest.entry_eq_some.1 hx
    by_cases early : ∃ z, (s.get t).getLast? = some z ∧ y.departure < z.departure
    · obtain ⟨z, hz, early⟩ := early
      rw [checkEntry_early hx hz early] at hs
      cases hs
    · have later : ∀ z, (s.get t).getLast? = some z → z.departure ≤ y.departure := fun z hz =>
        Nat.not_lt.1 fun before => early ⟨z, hz, before⟩
      by_cases held : ∃ z ∈ s.get t, z.trip = y.trip
      · rw [checkEntry_held hx later held] at hs
        cases hs
      · have new : ∀ z ∈ s.get t, z.trip ≠ y.trip := fun z hz same => held ⟨z, hz, same⟩
        rw [checkEntry_new hx later new] at hs
        cases hs
        refine ⟨fun u => ?_, ?_⟩
        · rw [PerTrack.get_set]
          split
          · exact (h t).append (by rw [hy]) later new
          · exact h u
        · cases t
          all_goals
            simp only [heldBy, PerTrack.set, PerTrack.get, List.length_append, List.length_singleton]
            omega

theorem checkEntries_storeOk {s s' : PerTrack (List Entry)} {n : Nat} {l : List EntryRequest} (h : storeOk s)
    (hs : checkEntries s n l = .ok s') : storeOk s' ∧ heldBy s' = heldBy s + l.length := by
  induction l generalizing s n with
  | nil =>
    cases hs
    exact ⟨h, rfl⟩
  | cons x l ih =>
    unfold checkEntries at hs
    split at hs
    case h_1 r hr =>
      obtain ⟨ok, more⟩ := checkEntry_storeOk h hr
      obtain ⟨ok', more'⟩ := ih ok hs
      refine ⟨ok', ?_⟩
      rw [more', more, List.length_cons]
      omega
    case h_2 => cases hs

section
variable {b : Blocks} {p : PartRequest}

/-- Outside SERVICE no train has an entry in use. -/
theorem Blocks.TablesProper.unused (h : b.TablesProper false) {w : Workings} (hb : b.TablesOk w) (t : Track) : w.inUse t = none := by
  obtain ⟨v, hv, hb'⟩ := h
  rw [← hb.inUse t, hb'.inUse t]
  exact (hv.sequence t).unused

theorem failedStore_tablesProper (h : b.TablesProper false) : (emptyTimetable b .failed).TablesProper false := by
  obtain ⟨w, -, hb⟩ := id h
  exact ⟨_, .emptied (load := .failed) trivial, emptyTimetable_tables hb fun t => h.unused hb t⟩

theorem storePart_tablesProper {start : PerTrack (List Entry)} (h : b.TablesProper false) (hs : storeOk start)
    (held : heldBy start + 8 ≤ 8 * p.index) (last : p.index ≤ p.total) (total : p.total ≤ 192) (count : p.entries.length ≤ 8) :
    (storePart b start p).1.TablesProper false := by
  cases hp : checkEntries start 1 p.entries with
  | error r =>
    rw [storePart_error (st := r.1) (n := r.2) hp]
    exact failedStore_tablesProper h
  | ok s =>
    rw [storePart_ok hp]
    obtain ⟨ok, more⟩ := checkEntries_storeOk hs hp
    obtain ⟨w, hw, hb⟩ := h
    have max : Config.timetableMax = 1536 := rfl
    have size : heldBy s ≤ 8 * p.index := by omega
    have fits : LoadState.fits (heldBy s) (if p.index = p.total then .loaded else .loading p.total (p.index + 1)) := by
      split
      · trivial
      · exact ⟨by omega, total, by omega⟩
    exact ⟨{ w with timetable := { sequences := s, load := _, lastPart := some p.index } },
      ⟨fun t => (hw.sequence t).unused ▸ ok t, show heldBy s ≤ Config.timetableMax by omega, fits⟩, setTimetable_tables hb⟩

theorem takePart_tablesProper (h : b.TablesProper false) : (takePart b p).1.TablesProper false := by
  have failed := failedStore_tablesProper h
  by_cases bad : p.total < 1 ∨ 192 < p.total ∨ p.entries.length < 1 ∨ 8 < p.entries.length
  · rw [takePart, if_pos bad]
    exact failed
  · have total : 1 ≤ p.total ∧ p.total ≤ 192 := by omega
    have count : 1 ≤ p.entries.length ∧ p.entries.length ≤ 8 := by omega
    rw [takePart_ranged total count]
    split
    case isTrue first =>
      refine storePart_tablesProper h (fun t => ?_) ?_ (first ▸ total.1) total.2 count.2
      · cases t <;> exact .nil
      · rw [first]
        exact le_refl 8
    case isFalse =>
      split
      case isTrue loading =>
        obtain ⟨w, hw, hb⟩ := id h
        have fits := hw.load
        rw [← hb.timetable, loading] at fits
        obtain ⟨last, -, held⟩ := fits
        refine storePart_tablesProper h (fun t => ?_) held last total.2 count.2
        have seq := hw.sequence t
        rwa [(hw.sequence t).unused, ← hb.timetable] at seq
      case isFalse => exact failed

end

/-! ### Amendments (R70 to R73) -/

section
variable {before after : List Entry} {x : Entry} {d : Nat}

/-- In an order by departure the last entry before a place bounds all before it, and the first behind it all behind. -/
theorem departures_bounded (rising : (before ++ x :: after).Pairwise fun y z => y.departure ≤ z.departure)
    (h : changeRefusal (before ++ x :: after) before.length d = none) :
    (∀ z ∈ before, z.departure ≤ d) ∧ ∀ z ∈ after, d ≤ z.departure := by
  obtain ⟨behind, ahead, -⟩ := (changeRefusal_append before after x d).1 h
  obtain ⟨rising₁, rest, -⟩ := List.pairwise_append.1 rising
  refine ⟨fun z hz => ?_, fun z hz => ?_⟩
  · rcases List.eq_nil_or_concat before with rfl | ⟨init, last, rfl⟩
    · exact absurd hz List.not_mem_nil
    · have bound := behind last (by simp)
      rw [List.concat_eq_append] at hz rising₁
      rcases List.mem_append.1 hz with hz | hz
      · exact ((List.pairwise_append.1 rising₁).2.2 z hz last (by simp)).trans bound
      · exact List.mem_singleton.1 hz ▸ bound
  · cases after with
    | nil => exact absurd hz List.not_mem_nil
    | cons first more =>
      have bound := ahead first rfl
      rcases List.mem_cons.1 hz with rfl | hz
      · exact bound
      · exact bound.trans ((List.pairwise_cons.1 (List.pairwise_cons.1 rest).2).1 z hz)

theorem departures_around (rising : (before ++ x :: after).Pairwise fun y z => y.departure ≤ z.departure) :
    (∀ z ∈ before, z.departure ≤ x.departure) ∧ ∀ z ∈ after, x.departure ≤ z.departure :=
  ⟨fun z hz => (List.pairwise_append.1 rising).2.2 z hz x List.mem_cons_self,
    (List.pairwise_cons.1 (List.pairwise_append.1 rising).2.1).1⟩

end

section
variable {service : Bool} {b : Blocks}

theorem setSequence_tablesProper {w : Workings} {t : Track} {l : List Entry} (hw : w.Proper service) (hb : b.TablesOk w)
    (hl : SequenceOk service (w.inUse t) l) (same : l.length = (w.timetable.sequences.get t).length) :
    (b.setSequence t l).TablesProper service :=
  ⟨_, withUse_self (w := w.withSequence t l) rfl ▸ hw.rewrite hl same, setSequence_tables hb⟩

theorem holdAmendment_tables {w : Workings} {t : Track} {a : Amendment} (h : b.TablesOk w) : (holdAmendment b t a).TablesOk w :=
  setPlatform_tables h (h.inUse t)

theorem amendCancel_tablesProper {platform trip : Nat} (h : b.TablesProper service) :
    (amendCancel b platform trip).1.TablesProper service := by
  cases hc : amendCheck b platform trip [] with
  | error st =>
    rw [amendCancel, hc]
    exact h
  | ok t =>
    rcases trip_split (b.timetable.sequences.get t) trip with unknown | ⟨before, x, after, hl, first, named⟩
    · rw [amendCancel_unknown hc unknown]
      exact h
    · cases hx : x.state with
      | pending =>
        rw [amendCancel_of_pending hl first named hc hx]
        obtain ⟨w, hw, hb⟩ := h
        have seq := hw.sequence t
        rw [← hb.timetable, hl] at seq
        obtain ⟨behind, ahead⟩ := departures_around seq.rising
        exact setSequence_tablesProper hw hb (seq.amend hx rfl (.inr rfl) behind ahead) (by simp [← hb.timetable, hl])
      | inUse =>
        rw [amendCancel_of_inUse hl first named hc hx]
        exact h.of fun w hb => holdAmendment_tables hb
      | consumed =>
        rw [amendCancel_of_final hl first named hc (.inl hx)]
        exact h
      | cancelled =>
        rw [amendCancel_of_final hl first named hc (.inr hx)]
        exact h

theorem amendChange_tablesProper {platform trip d : Nat} (h : b.TablesProper service) :
    (amendChange b platform trip d).1.TablesProper service := by
  cases hc : amendCheck b platform trip [d] with
  | error st =>
    rw [amendChange, hc]
    exact h
  | ok t =>
    rcases trip_split (b.timetable.sequences.get t) trip with unknown | ⟨before, x, after, hl, first, named⟩
    · rw [amendChange_unknown hc unknown]
      exact h
    · by_cases final : x.state = .consumed ∨ x.state = .cancelled
      · rw [amendChange_of_final hl first named hc final]
        exact h
      · have open_ : x.state = .pending ∨ x.state = .inUse := by cases hx : x.state <;> simp [hx] at final ⊢
        cases hr : changeRefusal (before ++ x :: after) before.length d with
        | some st =>
          rw [amendChange_refused hl first named hc open_ hr]
          exact h
        | none =>
          rcases open_ with hx | hx
          · rw [amendChange_of_pending hl first named hc hr hx]
            obtain ⟨w, hw, hb⟩ := h
            have seq := hw.sequence t
            rw [← hb.timetable, hl] at seq
            obtain ⟨behind, ahead⟩ := departures_bounded seq.rising hr
            exact setSequence_tablesProper hw hb (seq.amend hx rfl (.inl hx) behind ahead) (by simp [← hb.timetable, hl])
          · rw [amendChange_of_inUse hl first named hc hr hx]
            exact h.of fun w hb => holdAmendment_tables hb

theorem amendInsert_tablesProper {x : EntryRequest} (h : b.TablesProper service) : (amendInsert b x).1.TablesProper service := by
  by_cases loaded : b.timetable.load = .loaded
  case neg =>
    rw [amendInsert, amendCheck_of_not_loaded loaded]
    exact h
  cases hx : x.entry with
  | none =>
    rw [amendInsert_out loaded hx]
    exact h
  | some r =>
    obtain ⟨t, y⟩ := r
    by_cases held : ∃ z ∈ b.timetable.sequences.get t, z.trip = y.trip
    · rw [amendInsert_held loaded hx held]
      exact h
    have new : ∀ z ∈ b.timetable.sequences.get t, z.trip ≠ y.trip := fun z hz same => held ⟨z, hz, same⟩
    by_cases early : ∃ z ∈ b.timetable.sequences.get t, (z.state = .inUse ∨ z.state = .consumed) ∧ y.departure < z.departure
    · rw [amendInsert_early loaded hx new early]
      exact h
    have late : ∀ z ∈ b.timetable.sequences.get t, z.state = .inUse ∨ z.state = .consumed → z.departure ≤ y.departure :=
      fun z hz hs => Nat.not_lt.1 fun before => early ⟨z, hz, hs, before⟩
    rw [amendInsert_late loaded hx new late]
    split
    case isTrue => exact h
    case isFalse room =>
      obtain ⟨w, hw, hb⟩ := h
      rw [hb.timetable] at new late room loaded
      obtain ⟨-, -, -, -, -, -, -, hy⟩ := EntryRequest.entry_eq_some.1 hx
      have seq := (hw.sequence t).insert (y := y) (by rw [hy]) new late
      have count := withSequence_total w t (insertEntry y (w.timetable.sequences.get t))
      rw [(insertEntry_perm y _).length_eq, List.length_cons] at count
      have max : Config.timetableMax = 1536 := rfl
      refine ⟨_, withUse_self (w := w.withSequence t _) rfl ▸ hw.move seq ?_ ?_, hb.timetable ▸ setSequence_tables hb⟩
      · change (w.withSequence t _).timetable.total ≤ _
        omega
      · rw [loaded]
        trivial

end

end Sys2Proof.Machine

/-! SUPPORT. Arrivals and departures: a train that arrives brings its entry in use, and one that leaves brings it to its final state
(R63, R74, R83, R84, R90, R91, R108). -/

namespace Sys2Proof.Machine

section
variable {service : Bool} {e : Env} {w : Workings} {b : Blocks} {t : Track}

/-! ### Arrivals (R83 to R85, R90, R91) -/

/-- What a match leaves: the sequence, of its length, with the matched entry in use. -/
def MatchedIn (w : Workings) (t : Track) (r : Blocks × Match) : Prop :=
  ∃ l, SequenceOk true (r.2.entry.map (·.trip)) l ∧ l.length = (w.timetable.sequences.get t).length ∧ r.1.TablesOk (w.withSequence t l)

/-- A match that finds nothing leaves the sequence as it is. -/
theorem matchedIn_nothing {r : Blocks × Match} (h : r.1.TablesOk w) (seq : SequenceOk true none (w.timetable.sequences.get t))
    (hm : r.2.entry = none) : MatchedIn w t r := by
  refine ⟨_, ?_, rfl, (withSequence_self w t).symm ▸ h⟩
  rw [hm]
  exact seq

theorem useTrip_tables {before after : List Entry} {x : Entry} {y : Blocks} (h : y.TablesOk w)
    (seq : SequenceOk true none (w.timetable.sequences.get t)) (hl : y.timetable.sequences.get t = before ++ x :: after)
    (hx : x.state = .pending) (hb : (pendingOf before).length < 8) :
    ∃ l, SequenceOk true (some x.trip) l ∧ l.length = (w.timetable.sequences.get t).length
      ∧ (y.setSequence t (useTrip (y.timetable.sequences.get t) x.trip).1).TablesOk (w.withSequence t l) := by
  rw [← h.timetable, hl] at seq
  rw [hl, useTrip_append hx seq.distinct hb]
  exact ⟨_, seq.use rfl, by simp [← h.timetable, hl], setSequence_tables h⟩

theorem matchArrival_matchedIn (h : b.TablesOk w) (seq : SequenceOk true none (w.timetable.sequences.get t)) :
    MatchedIn w t (matchArrival e b t) := by
  cases hq : b.describer.get t with
  | cons a rest =>
    have taken : (takeHead e b t a rest).TablesOk w := takeHead_tables h hq
    cases hf : findAhead ((takeHead e b t a rest).timetable.sequences.get t) a.trip with
    | none =>
      rw [matchArrival_of_unknown hq rfl hf]
      exact matchedIn_nothing taken seq rfl
    | some x =>
      rw [matchArrival_of_found hq rfl hf]
      obtain ⟨before, after, hl, named, hx, hb⟩ := findAhead_split hf
      rw [← named]
      exact useTrip_tables taken seq hl hx hb
  | nil =>
    cases hc : cursor (b.timetable.sequences.get t) with
    | none =>
      rw [matchArrival_of_extra hq hc]
      exact matchedIn_nothing (.ite h (describeError_tables h)) seq rfl
    | some x =>
      rw [matchArrival_of_cursor hq hc]
      obtain ⟨before, after, hl, hx, hb⟩ := cursor_split hc
      obtain ⟨l, used, same, tables⟩ := useTrip_tables h seq hl hx (by simp [pendingOf_eq_nil hb])
      exact ⟨l, used, same, .ite tables (describeError_tables tables)⟩

theorem writeDwell_begins {p : Phase} {d : Dwell} (h : b.TablesOk w) : (writeDwell b t p d).TablesOk (w.withUse t d.entry) :=
  setStanding_tables h rfl

theorem withUse_get (w : Workings) (t : Track) (used : Option Nat) : (w.withUse t used).inUse t = used := if_pos rfl

theorem regulatedArrival_tablesProper {stamp : Nat} (h : b.TablesProper true) (hv : (b.platforms.get t).standing = .vacant) :
    (regulatedArrival e b t stamp).TablesProper true := by
  obtain ⟨w, hw, hb⟩ := h
  have unused : w.inUse t = none := by rw [← hb.inUse t, hv]; rfl
  obtain ⟨l, used, same, tables⟩ := matchArrival_matchedIn (e := e) hb (unused ▸ hw.sequence t)
  generalize hm : matchArrival e b t = r at used tables
  obtain ⟨x, m⟩ := r
  refine ⟨_, hw.rewrite used same, ?_⟩
  rw [regulatedArrival_of_match hm rfl rfl rfl]
  generalize hd : arrivalDwell x t m (arrivalInput e x t m stamp) = d
  have entry : d.entry = m.entry.map (·.trip) := hd ▸ rfl
  have begun (r : ReportBody) : (queueReport e (writeDwell x t .dwell d) r).TablesOk
      ((w.withSequence t l).withUse t (m.entry.map (·.trip))) :=
    entry ▸ queueReport_tables (writeDwell_begins tables)
  exact .ite (releaseCheck_tables (begun _) (entry.trans (withUse_get ..).symm)) (begun _)

theorem manualArrival_tables {stamp : Nat} (h : b.TablesOk w) (hv : (b.platforms.get t).standing = .vacant) :
    (manualArrival e b t stamp).TablesOk w := by
  have unused : none = w.inUse t := by rw [← h.inUse t, hv]; rfl
  cases hq : b.describer.get t with
  | nil =>
    rw [manualArrival_of_empty hq]
    exact queueReport_tables (writeDwell_tables h unused)
  | cons a rest =>
    rw [manualArrival_of_head hq]
    exact queueReport_tables (writeDwell_tables (takeHead_tables h hq) unused)

theorem arrive_tablesProper {stamp : Nat} (h : b.TablesProper e.inService) : (arrive e b t stamp).TablesProper e.inService := by
  cases hs : (b.platforms.get t).standing with
  | occupied p d =>
    rw [arrive_of_occupied hs]
    exact h.of fun w hb => queueReport_tables hb
  | vacant =>
    cases hn : e.nodeState with
    | configuring =>
      simp only [arrive, hs, hn]
      exact h
    | ready =>
      rw [arrive_in_ready hs hn]
      exact h.of fun w hb => manualArrival_tables hb hs
    | service =>
      have on : e.inService = true := decide_eq_true hn
      rw [arrive_in_service hs hn, on]
      exact regulatedArrival_tablesProper (on ▸ h) hs

/-! ### Departures (R74, R108) -/

/-- The entry in use comes to its final state, whatever its platform holds of an amendment. -/
theorem settledEntry_tables {used : Option Nat} (h : b.TablesOk w) (seq : SequenceOk service used (w.timetable.sequences.get t)) :
    ∃ l, SequenceOk service none l ∧ l.length = (w.timetable.sequences.get t).length
      ∧ (settledEntry e b t used).TablesOk (w.withSequence t l) := by
  cases used with
  | none => exact ⟨_, seq, rfl, (withSequence_self w t).symm ▸ h⟩
  | some trip =>
    obtain ⟨-, x, held, rfl, hx⟩ := seq.works trip rfl
    obtain ⟨before, after, hl⟩ := List.append_of_mem held
    rw [hl] at seq ⊢
    have around := departures_around seq.rising
    have cleared : (b.setPlatform t { b.platforms.get t with amendment := none }).TablesOk w := setPlatform_tables h (h.inUse t)
    have done {y : Entry} (same : y.trip = x.trip) (hy : y.state = .consumed ∨ y.state = .cancelled)
        (place : (∀ z ∈ before, z.departure ≤ y.departure) ∧ ∀ z ∈ after, y.departure ≤ z.departure) :
        ∃ l, SequenceOk service none l ∧ l.length = (before ++ x :: after).length
          ∧ ((b.setPlatform t { b.platforms.get t with amendment := none }).setSequence t (before ++ y :: after)).TablesOk
            (w.withSequence t l) :=
      ⟨_, seq.finish hx same hy place.1 place.2, by simp, setSequence_tables cleared⟩
    unfold settledEntry
    dsimp only
    rw [finishEntry_append (h.timetable ▸ hl) (trips_before_ne seq.distinct) rfl]
    cases (b.platforms.get t).amendment with
    | none => exact done rfl (.inl rfl) around
    | some a =>
      cases a with
      | cancel => exact done rfl (.inr rfl) around
      | change d =>
        dsimp only
        split
        case isTrue good => exact done rfl (.inl rfl) (departures_bounded seq.rising good)
        case isFalse =>
          obtain ⟨l, final, same, tables⟩ := done (y := { x with state := .consumed }) rfl (.inl rfl) around
          exact ⟨l, final, same, queueReport_tables tables⟩

theorem judgeLateness_tables {trip : Nat} {lateness : Int} (h : b.TablesOk w) : (judgeLateness e b t trip lateness).TablesOk w := by
  have held {x : Blocks} (hx : x.TablesOk w) (id : Option IncidentId) :
      (x.setPlatform t { x.platforms.get t with delayId := id }).TablesOk w := setPlatform_tables hx (hx.inUse t)
  unfold judgeLateness
  dsimp only
  refine .ite ?_ (.ite ?_ (held h _))
  · split
    · exact held h _
    · exact held (raiseIncident_tables (held h _)) _
  · split
    · exact held (closeOwned_tables (held h _)) _
    · exact held h _

theorem afterEntry_tables {d : Dwell} {dact : Nat} {cls : DepartureClass} {terminates : Bool} {lateness : Option Int} (h : b.TablesOk w) :
    (afterEntry e b t d dact cls terminates lateness).TablesOk w := by
  have started : Blocks.TablesOk w (match e.sectionAhead t with | some sec => offerStart e b sec dact | none => b) := by
    split
    · exact offerStart_tables h
    · exact h
  have judged {x : Blocks} (hx : x.TablesOk w) :
      Blocks.TablesOk w (match lateness with | some l => judgeLateness e x t d.trip l | none => x) := by
    split
    · exact judgeLateness_tables hx
    · exact hx
  have left {x : Blocks} (hx : x.TablesOk w) (q : Prop) [Decidable q] (z : Raise) :
      (if q then (raiseIncident e x z none).1 else x).TablesOk w := .ite (raiseIncident_tables hx) hx
  have reported := queueReport_tables (e := e) (r := .departed t d.trip dact cls lateness)
    (left (judged (queueFrame_tables (e := e) (f := departFrame e t d.trip dact terminates) started)) (cls = .unreleased)
      (e.platformRaise .departedUnreleased t (e.aheadOrBehind t) d.trip))
  exact .ite (queueReport_tables reported) reported

theorem depart_tablesProper {stamp : Nat} (h : b.TablesProper service) : (depart e b t stamp).TablesProper service := by
  cases hs : (b.platforms.get t).standing with
  | vacant =>
    rw [depart_of_vacant hs]
    exact h.of fun w hb => queueReport_tables hb
  | occupied p d =>
    rw [depart_of_occupied hs, departTrain_eq]
    obtain ⟨w, hw, hb⟩ := h
    have left : (leftPlatform b t d stamp).TablesOk (w.withUse t none) := setStanding_tables hb rfl
    obtain ⟨l, final, same, tables⟩ := settledEntry_tables (e := e) left (hb.dwell hs ▸ hw.sequence t)
    exact ⟨_, hw.rewrite final same, afterEntry_tables tables⟩

end

end Sys2Proof.Machine

/-! SUPPORT. The Linebus Controller and the field lines keep the tables: what a frame brings moves them, and what an input brings
(R15 to R21, R35 to R49). -/

namespace Sys2Proof.Machine

section
variable {e : Env} {w : Workings} {b : Blocks}

theorem setBus_tables {l : Linebus} (h : b.TablesOk w) : (b.setBus l).TablesOk w := h

theorem dropFrame_tables {cause : TxDropCause} {f : Frame} (h : b.TablesOk w) : (dropFrame e b cause f).TablesOk w := by
  obtain ⟨l, p, eq⟩ := dropFrame_eq e b cause f
  exact eq ▸ h

theorem queueStatus_tables (h : b.TablesOk w) : (queueStatus e b).TablesOk w := by
  refine .ite h (.ite (setBus_tables h) ?_)
  obtain ⟨l, p, eq⟩ := admitFrame_eq e b (.status (snapshot e b))
  exact eq ▸ h

/-! ### The receive assembly (R44 to R47) -/

theorem noteError_tables (h : b.TablesOk w) : (noteError e b).TablesOk w :=
  .ite (queueReport_tables (setBus_tables h)) (setBus_tables h)

theorem errorReportStep_tables (h : b.TablesOk w) : (errorReportStep e b).TablesOk w :=
  .ite (queueReport_tables (setBus_tables h)) h

theorem setRx_tables {x : Assembly} (h : b.TablesOk w) : (setRx b x).TablesOk w := setBus_tables h

theorem setIdle_tables {n : Nat} (h : b.TablesOk w) : (setIdle b n).TablesOk w := setBus_tables h

theorem countCheckError_tables (h : b.TablesOk w) : (countCheckError e b).TablesOk w := noteError_tables (setBus_tables h)

theorem countClassError_tables (h : b.TablesOk w) : (countClassError e b).TablesOk w := noteError_tables (setBus_tables h)

theorem countContentError_tables (h : b.TablesOk w) : (countContentError e b).TablesOk w := noteError_tables (setBus_tables h)

theorem countTruncated_tables (h : b.TablesOk w) : (countTruncated e b).TablesOk w := noteError_tables (setBus_tables h)

theorem countLengthError_tables (h : b.TablesOk w) : (countLengthError e b).TablesOk w := noteError_tables (setBus_tables h)

theorem noteIdle_tables (h : b.TablesOk w) : (noteIdle e b).TablesOk w := by
  unfold noteIdle
  split
  · exact setRx_tables h
  · exact h
  · exact countTruncated_tables (setRx_tables h)

theorem rxError_tables (h : b.TablesOk w) : (rxError e b).TablesOk w := by
  unfold rxError
  split
  · exact h
  · exact setRx_tables h
  · exact countTruncated_tables (setRx_tables h)

theorem enterSilent_tables (h : b.TablesOk w) : (enterSilent e b).TablesOk w := .ite h (queueReport_tables h)

theorem judgeContent_tables {source : Byte} {cls : FrameClass} {payload : List Byte} (h : b.TablesOk w) :
    (judgeContent e b source cls payload).TablesOk w := by
  unfold judgeContent
  split
  · exact countContentError_tables h
  · exact .ite (enterSilent_tables (setBus_tables h)) (deliver_tables (setBus_tables h))

theorem judgeFrame_tables {source cls : Byte} {payload : List Byte} {check : Check} (h : b.TablesOk w) :
    (judgeFrame e b source cls payload check).TablesOk w := by
  refine .ite (countCheckError_tables h) ?_
  split
  · exact countClassError_tables h
  · exact judgeContent_tables h

theorem receiveFrame_tables {source : Byte} {cls : FrameClass} {payload : List Byte} (h : b.TablesOk w) :
    (receiveFrame e b source cls payload).TablesOk w :=
  .ite (.ite (countLengthError_tables (setIdle_tables (setRx_tables h))) (judgeContent_tables (setIdle_tables (setRx_tables h)))) h

theorem discardFrame_tables {source cls : Byte} {payload : List Byte} {check : Check} (h : b.TablesOk w) :
    (discardFrame e b source cls payload check).TablesOk w := .ite (judgeFrame_tables (setIdle_tables (setRx_tables h))) h

theorem lengthError_tables {source cls len : Byte} (h : b.TablesOk w) : (lengthError e b source cls len).TablesOk w :=
  .ite (countLengthError_tables (setIdle_tables (setRx_tables h))) h

theorem takeInFrame_tables {taken : List Byte} (h : b.TablesOk w) : (takeInFrame e b taken).TablesOk w := by
  unfold takeInFrame
  split
  · exact .ite (countLengthError_tables (setRx_tables h)) (.ite (judgeFrame_tables (setRx_tables h)) (setRx_tables h))
  · exact setRx_tables h

theorem takeChar_tables {c : Byte} (h : b.TablesOk w) : (takeChar e b c).TablesOk w := by
  have quiet : (setIdle b 0).TablesOk w := setIdle_tables h
  unfold takeChar
  dsimp only
  split
  · exact quiet
  · exact .ite (setRx_tables quiet) (setRx_tables quiet)
  · exact takeInFrame_tables quiet

theorem takeChars_tables {heard : List Byte} (h : b.TablesOk w) : (takeChars e b heard).TablesOk w :=
  .foldl h (fun _ _ h => takeChar_tables h) _

theorem characterError_tables {heard : List Byte} (h : b.TablesOk w) : (characterError e b heard).TablesOk w :=
  rxError_tables (setIdle_tables (takeChars_tables h))

theorem lineIdle_tables {heard : List Byte} {idle : Nat} (h : b.TablesOk w) : (lineIdle e b heard idle).TablesOk w :=
  .ite (noteIdle_tables (setIdle_tables (takeChars_tables h))) (setIdle_tables (takeChars_tables h))

theorem otherCharacter_tables {c : Option Byte} (h : b.TablesOk w) : (otherCharacter b c).TablesOk w := by
  unfold otherCharacter
  split
  · exact .ite h (setIdle_tables (setRx_tables h))
  · exact h
  · exact h
/-! ### The transmitter (R35 to R38, R42) -/

theorem stayIdle_tables {more : Nat} (h : b.TablesOk w) : (stayIdle e b more).TablesOk w :=
  .ite (noteIdle_tables (setIdle_tables h)) (setIdle_tables h)

theorem attemptBegin_tables {idle : Nat} (h : b.TablesOk w) : (attemptBegin e b idle).TablesOk w := by
  unfold attemptBegin
  split
  · exact .ite (setBus_tables (stayIdle_tables h)) (stayIdle_tables h)
  · exact h

theorem backoffRetry_tables {idle : Nat} (h : b.TablesOk w) : (backoffRetry e b idle).TablesOk w := by
  unfold backoffRetry
  split
  · exact .ite (setBus_tables (stayIdle_tables h)) (stayIdle_tables h)
  · exact h

theorem releaseHand_tables (h : b.TablesOk w) : (releaseHand b).TablesOk w := h

theorem collideHand_tables {x : Hand} (h : b.TablesOk w) : (collideHand e b x).TablesOk w :=
  .ite (releaseHand_tables h) (.ite (dropFrame_tables (releaseHand_tables h)) (setBus_tables h))

theorem collide_tables {cause : CollisionCause} {heard : List Byte} (h : b.TablesOk w) : (collide e b cause heard).TablesOk w := by
  unfold collide
  split
  · have taken {l : Linebus} {x : Hand} : (takeChars e (collideHand e (b.setBus l) x) heard).TablesOk w :=
      takeChars_tables (collideHand_tables (setBus_tables h))
    exact .ite (rxError_tables taken) taken
  · exact h

theorem judgeOwn_tables {f : Frame} (h : b.TablesOk w) : (judgeOwn e b f).TablesOk w := by
  unfold judgeOwn
  split
  · exact h
  · split
    · exact setBus_tables h
    · exact countContentError_tables (setRx_tables h)

theorem frameSent_tables (h : b.TablesOk w) : (frameSent e b).TablesOk w := by
  unfold frameSent
  split
  · exact judgeOwn_tables (releaseHand_tables (setBus_tables h))
  · exact h

theorem statusStep_tables (h : b.TablesOk w) : (statusStep e b).TablesOk w := .ite (queueStatus_tables (setBus_tables h)) h

theorem enableBus_tables (h : b.TablesOk w) : (enableBus b).TablesOk w := by
  obtain ⟨tx, eq⟩ := enableBus_eq b
  exact eq ▸ h

theorem removeFrames_tables (h : b.TablesOk w) : (removeFrames b).TablesOk w := h

/-! ### What waits to be delivered (R19) -/

theorem setWaiting_tables {l : Deliveries} (h : b.TablesOk w) : (setWaiting b l).TablesOk w := h

theorem setField_tables {f : FieldState} (h : b.TablesOk w) : (b.setField f).TablesOk w := h

theorem plungerRise_tables {t : Track} (h : b.TablesOk w) : (plungerRise e b t).TablesOk w := by
  unfold plungerRise
  split
  · exact .ite (plungerPress_tables (setWaiting_tables h)) h
  · exact h

theorem plungerFall_tables {t : Track} (h : b.TablesOk w) : (plungerFall e b t).TablesOk w := by
  unfold plungerFall
  split
  · exact .ite (queueReport_tables (setWaiting_tables h)) h
  · exact h

theorem breakerSettles_tables {br : Breaker} {isClosed : Bool} (h : b.TablesOk w) :
    (breakerSettles e b br isClosed).TablesOk w := by
  unfold breakerSettles
  split
  · exact .ite (settleBreaker_tables (setWaiting_tables h)) h
  · exact h

theorem breakerMoves_tables {br : Breaker} {isClosed : Bool} (h : b.TablesOk w) :
    (breakerMoves e b br isClosed).TablesOk w := by
  unfold breakerMoves
  split
  · exact .ite (breakerChange_tables (setWaiting_tables h)) h
  · exact h

theorem keyMoves_tables {isSet : Bool} (h : b.TablesOk w) : (keyMoves e b isSet).TablesOk w :=
  .ite (keyLevel_tables (setWaiting_tables h)) h

theorem deliverStatus_tables {br : Breaker} (h : b.TablesOk w) : (deliverStatus e b br).TablesOk w := by
  unfold deliverStatus
  split
  · exact .ite (breakerSettles_tables h) (breakerMoves_tables h)
  · exact h

theorem deliverKey_tables (h : b.TablesOk w) : (deliverKey e b).TablesOk w := by
  unfold deliverKey
  split
  · exact keyMoves_tables h
  · exact h
end

/-! ### Inputs that bring trains (R17 to R20) -/

section
variable {service : Bool} {e : Env} {b x y : Blocks} {t : Track}

theorem Blocks.TablesProper.ite {p : Prop} [Decidable p] (hx : x.TablesProper service) (hy : y.TablesProper service) :
    (if p then x else y).TablesProper service := by
  split
  · exact hx
  · exact hy

theorem Blocks.TablesProper.foldl {α : Type} {f : Blocks → α → Blocks} (h : b.TablesProper service)
    (hf : ∀ b x, b.TablesProper service → (f b x).TablesProper service) (l : List α) : (l.foldl f b).TablesProper service :=
  foldl_keeps hf l b h

theorem occupancyRise_tablesProper (h : b.TablesProper e.inService) : (occupancyRise e b t).TablesProper e.inService := by
  unfold occupancyRise
  split
  · exact .ite (arrive_tablesProper (h.of fun w hb => setWaiting_tables hb)) h
  · exact h

theorem occupancyFall_tablesProper (h : b.TablesProper service) : (occupancyFall e b t).TablesProper service := by
  unfold occupancyFall
  split
  · exact .ite (depart_tablesProper (h.of fun w hb => setWaiting_tables hb)) h
  · exact h

theorem deliverAll_tablesProper (h : b.TablesProper e.inService) : (deliverAll e b).TablesProper e.inService := by
  have moved : (allTracks.foldl (fun b t => occupancyFall e (occupancyRise e b t) t) b).TablesProper e.inService :=
    .foldl h (fun _ _ h => occupancyFall_tablesProper (occupancyRise_tablesProper h)) _
  refine moved.of fun w hb => deliverKey_tables (.foldl ?_ (fun _ _ h => deliverStatus_tables h) _)
  exact .foldl hb (fun _ _ h => plungerFall_tables (plungerRise_tables h)) _

theorem sampleStatus_tables {w : Workings} {l : InputLevels} {br : Breaker} (h : b.TablesOk w) : (sampleStatus e l b br).TablesOk w := by
  unfold sampleStatus
  split
  · exact setField_tables h
  · exact h

theorem samplingPoint_tablesProper {l : InputLevels} (h : b.TablesProper e.inService) : (samplingPoint e b l).TablesProper e.inService := by
  refine (deliverAll_tablesProper h).of fun w hb => setField_tables (.foldl ?_ (fun _ _ h => sampleStatus_tables h) _)
  refine .foldl ?_ (fun _ _ h => setField_tables h) _
  exact .foldl hb (fun _ _ h => .ite (setField_tables h) h) _

end

end Sys2Proof.Machine

/-! SUPPORT. The advance, the node-state requests, the station port and every command keep the tables (R5, R11 to R14, R209 to R214). -/

namespace Sys2Proof.Machine

section
variable {e : Env} {w : Workings} {b : Blocks} {n : Node}

/-! ### Chains in time and AUDIO requests (R181, R183 to R195) -/

theorem notBeforeStep_tables {m : Nat} (h : b.TablesOk w) : (notBeforeStep e b m).TablesOk w :=
  h.announced (notBeforeStep_announced ..) notBeforeStep_proper

theorem expiryStep_tables {m : Nat} (h : b.TablesOk w) : (expiryStep e b m).TablesOk w :=
  h.announced (expiryStep_announced ..) expiryStep_proper

theorem deadlineStep_tables {i : Nat} (h : b.TablesOk w) : (deadlineStep e b i).TablesOk w :=
  h.announced (deadlineStep_announced ..) deadlineStep_proper

theorem stopStep_tables {i : Nat} (h : b.TablesOk w) : (stopStep e b i).TablesOk w :=
  h.announced (stopStep_announced ..) stopStep_proper

theorem admitZones_tables {x : AnnounceRequest} {o : AnnounceOrder} (h : b.TablesOk w) : (admitZones e b x o).1.TablesOk w :=
  h.announced (admitZones_announced ..) admitZones_proper

theorem withdrawRequest_tables {m : Nat} (h : b.TablesOk w) : (withdrawRequest e b m).1.TablesOk w :=
  h.announced (withdrawRequest_announced ..) withdrawRequest_proper

theorem audioDoneRequest_tables {i m : Nat} (h : b.TablesOk w) : (audioDoneRequest e b i m).1.TablesOk w :=
  h.announced (audioDoneRequest_announced ..) audioDoneRequest_proper

theorem audioFailedRequest_tables {i m : Nat} (h : b.TablesOk w) : (audioFailedRequest e b i m).1.TablesOk w :=
  h.announced (audioFailedRequest_announced ..) audioFailedRequest_proper

theorem audioStoppedRequest_tables {i m : Nat} (h : b.TablesOk w) : (audioStoppedRequest e b i m).1.TablesOk w :=
  h.announced (audioStoppedRequest_announced ..) audioStoppedRequest_proper

theorem audioResetRequest_tables {zone : Nat} (h : b.TablesOk w) : (audioResetRequest e b zone).1.TablesOk w :=
  h.announced (audioResetRequest_announced ..) audioResetRequest_proper

/-! ### An advance (R5, R8) -/

theorem settle_tablesProper (h : b.TablesProper e.inService) : (settle e b).TablesProper e.inService := by
  refine (deliverAll_tablesProper h).of fun w hb => ?_
  refine .foldl ?_ (fun _ _ h => stopStep_tables h) _
  refine .foldl ?_ (fun _ _ h => deadlineStep_tables h) _
  refine .foldl ?_ (fun _ _ h => expiryStep_tables h) _
  refine .foldl ?_ (fun _ _ h => notBeforeStep_tables h) _
  refine .foldl ?_ (fun _ _ h => copyDropStep_tables h) _
  refine .foldl ?_ (fun _ _ h => localAgeStep_tables h) _
  refine .foldl ?_ (fun _ _ h => refreshStep_tables h) _
  refine .foldl ?_ (fun _ _ h => watchHeld_tables h) _
  refine .foldl ?_ (fun _ _ h => graceStep_tables h) _
  refine .foldl ?_ (fun _ _ h => staggerStep_tables h) _
  refine .foldl ?_ (fun _ _ h => targetStep_tables h) _
  refine .foldl ?_ (fun _ _ h => stallCheck_tables h) _
  refine .foldl ?_ (fun _ _ h => lapseStep_tables h) _
  refine .foldl ?_ (fun _ _ h => lostStep_tables h) _
  refine .foldl ?_ (fun _ _ h => staleStep_tables h) _
  refine errorReportStep_tables (statusStep_tables ?_)
  refine .foldl ?_ (fun _ _ h => waitStep_tables h) _
  refine .foldl ?_ (fun _ _ h => repeatStep_tables h) _
  refine .foldl ?_ (fun _ _ h => limitStep_tables h) _
  exact .foldl hb (fun _ _ h => thirdStep_tables h) _

theorem tick_tables {configured : Bool} {before after : Nat} (h : b.TablesOk w) : (b.tick configured before after).TablesOk w := by
  refine ⟨h.timetable, fun t => ?_, h.approaching, fun br r hr => ?_, h.announcer.tick before after⟩
  · rw [Blocks.tick_platforms_get, ← h.inUse t]
    change (b.platforms.get t).standing.tick.entry = _
    cases (b.platforms.get t).standing <;> rfl
  · change b.power.tick.breakers.get br = some r at hr
    rw [Power.tick_get] at hr
    obtain ⟨y, hy, rfl⟩ := Option.map_eq_some_iff.1 hr
    exact (h.lockouts hy :)

theorem Node.TablesProper.blk (h : n.TablesProper) : n.blk.TablesProper n.env.inService := Node.tablesProper_iff.1 h

theorem Blocks.TablesProper.node (h : b.TablesProper e.inService) : (Node.mk e b).TablesProper := Node.tablesProper_iff.2 h

/-- Blocks of the same workings under an `Env` of the same node state. -/
theorem Node.TablesProper.kept (h : n.TablesProper) {x : Env} {b : Blocks} (k : ∀ w, n.blk.TablesOk w → b.TablesOk w)
    (same : x.inService = n.env.inService := by rfl) : (Node.mk x b).TablesProper :=
  Blocks.TablesProper.node (same ▸ h.blk.of k)

theorem advance_tablesProper (h : n.TablesProper) : (advance n).TablesProper := by
  refine Blocks.TablesProper.node ?_
  have settled := settle_tablesProper h.blk
  exact .ite (settled.of fun w hb => queueReport_tables (tick_tables hb)) (settled.of fun w hb => tick_tables hb)

theorem clockPulse_tablesProper (since : Nat) (h : n.TablesProper) : (clockPulse n since).TablesProper := by
  unfold clockPulse
  split
  · exact advance_tablesProper h
  · dsimp only
    generalize (if since < Config.pulseRunMs then n.env.time.run + 1 else 1) = run
    split
    · exact h.kept fun w hb => queueReport_tables hb
    · exact h.kept fun w hb => hb

theorem pulseTimeout_tablesProper (h : n.TablesProper) : (pulseTimeout n).TablesProper := by
  unfold pulseTimeout
  split
  · have begun : (Node.mk { n.env with time := { n.env.time with mode := .holdover, run := 0 } } n.blk).TablesProper :=
      h.kept fun w hb => hb
    exact (advance_tablesProper (advance_tablesProper begun)).kept fun w hb => queueReport_tables hb
  · exact h

theorem oscillatorAdvance_tablesProper (h : n.TablesProper) : (oscillatorAdvance n).TablesProper := by
  unfold oscillatorAdvance
  split
  · exact advance_tablesProper h
  · exact h

/-! ### CONFIGURE (R4, R11, R182) -/

theorem discardBreaker_tables {br : Breaker} (h : b.TablesOk w) : (discardBreaker e b br).TablesOk w := by
  refine .ite h ⟨h.timetable, h.inUse, h.approaching, fun x r hr => ?_, h.announcer⟩
  change (b.power.breakers.set br none).get x = some r at hr
  rw [PerBreaker.get_set] at hr
  split at hr
  · cases hr
  · exact h.lockouts hr

theorem trimLocal_tables {id : IncidentId} (h : b.TablesOk w) : (trimLocal e b id).TablesOk w := by
  unfold trimLocal
  split
  · refine .ite (.ite (closeRecord_tables h) ?_) h
    exact reportIncident_tables (tellChange_tables (modifyRecord_tables h))
  · exact h

theorem deferredSend_tables {x : IncidentId × TractionSection} (h : b.TablesOk w) : (deferredSend e b x).TablesOk w := by
  unfold deferredSend
  split
  · exact .ite (sendIsolate_tables h) h
  · exact h

theorem offerStanding_tables {r : Incident} (h : b.TablesOk w) : (offerStanding e b r).TablesOk w := by
  unfold offerStanding
  split
  · exact .ite (offerEvacuate_tables h) h
  · exact offerDelay_tables h
  · exact h
/-- CONFIGURE brings no train and no entry, and at most three channels. -/
theorem applyConfigure_tables (h : b.TablesOk w) (few : (e.config.map (·.channelCount)).getD 0 ≤ 3) : (applyConfigure e b).TablesOk w := by
  have created {x : Blocks} (hx : x.TablesOk w) : (createChannels x ((e.config.map (·.channelCount)).getD 0)).TablesOk w :=
    setAnnounce_tables hx (createChannels_proper hx.announcer few)
  unfold applyConfigure
  refine raiseStandingLost_tables (.foldl (created ?_) (fun _ _ h => offerStanding_tables h) _)
  refine .foldl ?_ (fun _ _ h => queueIncidentFrame_tables h) _
  refine .foldl ?_ (fun _ _ h => deferredSend_tables h) _
  refine .foldl ?_ (fun _ _ h => removeCopy_tables h) _
  refine .foldl (enableBus_tables (toldStarts_tables (setPeers_tables (setField_tables ?_)))) (fun _ _ h => trimLocal_tables h) _
  exact .foldl h (fun _ _ h => discardBreaker_tables h) _

/-! ### DAY START and DAY END (R12, R13, R86, R113) -/

theorem suspendAgain_tables {t : Track} (h : b.TablesOk w) : (suspendAgain e b t).TablesOk w := by
  unfold suspendAgain
  split
  · exact .ite (offerSuspend_tables h) h
  · exact h
theorem clearQueue_tables {t : Track} (h : b.TablesOk w) : (clearQueue e b t).TablesOk w :=
  .foldl (setApproach_tables h .nil) (fun _ _ h => closeOwned_tables h) _

theorem forgetDeparture_tables {t : Track} (h : b.TablesOk w) : (forgetDeparture b t).TablesOk w := setPlatform_tables h (h.inUse t)

theorem forgetDelay_tables {t : Track} (h : b.TablesOk w) : (forgetDelay b t).TablesOk w := setPlatform_tables h (h.inUse t)

/-! ### SERVICE RESET (R14, R114, R144, R204) -/

theorem resetFailed_tables {br : Breaker} (h : b.TablesOk w) : (resetFailed e b br).TablesOk w := by
  unfold resetFailed
  split
  · exact .ite (setCondition_tables (modifyBreaker_tables h)) h
  · exact h
theorem resetAnnouncer_tables (h : b.TablesOk w) : (resetAnnouncer e b).TablesOk w :=
  h.announced (resetAnnouncer_announced ..) resetAnnouncer_proper

/-- Both platforms become VACANT. -/
theorem resetPlatforms_tables (h : b.TablesOk w) : (allTracks.foldl resetPlatform b).TablesOk { w with inUse := fun _ => none } :=
  ⟨h.timetable, fun t => by cases t <;> rfl, h.approaching, TablesOf.lockouts h, h.announcer⟩

theorem applyReset_tables (h : b.TablesOk w) : (applyReset e b).TablesOk (.emptied .empty) := by
  unfold applyReset
  refine raiseStandingLost_tables (.foldl (closeWhere_tables (setPeers_tables ?_)) (fun _ _ h => openIfLocked_tables h) _)
  refine .foldl (.foldl ?_ (fun _ _ h => clearWait_tables h) _) (fun _ _ h => resetFailed_tables h) _
  have emptied : (emptyTimetable b .empty).TablesOk { w with timetable := { sequences := ⟨[], []⟩, load := .empty, lastPart := none } } :=
    setTimetable_tables h
  exact removeFrames_tables (setField_tables (resetPlatforms_tables (resetAnnouncer_tables
    (.foldl emptied (fun _ _ h => setApproach_tables h .nil) _))))

/-! ### The owners of requests (R10 to R14) -/

/-- An owner of requests keeps the tables in the node states that its row permits. -/
def OwnerKeepsTables (p : Allowed) (owner : Node → Node × Reply) : Prop :=
  ∀ {n : Node}, n.TablesProper → p.permits n.env.nodeState = true → (owner n).1.TablesProper

theorem eq_configuring_of_permits {s : NodeState} (h : Allowed.configuringOnly.permits s = true) : s = .configuring := by
  cases s with
  | configuring => rfl
  | ready => cases h
  | service => cases h

theorem eq_ready_of_permits {s : NodeState} (h : Allowed.readyOnly.permits s = true) : s = .ready := by
  cases s with
  | configuring => cases h
  | ready => rfl
  | service => cases h

theorem held_channelCount (r : RawConfig) : r.held.channelCount ≤ 3 := Nat.min_le_right ..

theorem configure_tables (r : RawConfig) : OwnerKeepsTables .configuringOnly (configure · r) := by
  intro n h hp
  have out : n.env.inService = false := decide_eq_false (by rw [eq_configuring_of_permits hp]; exact nofun)
  have delivered := deliverAll_tablesProper h.blk
  dsimp only
  unfold configure
  split
  · exact h
  · refine Blocks.TablesProper.node ?_
    exact (out ▸ delivered).of fun w hb => applyConfigure_tables hb (held_channelCount r)

theorem dayStart_tables (day start : Nat) : OwnerKeepsTables .readyOnly (dayStart · day start) := by
  intro n h hp
  have out : n.env.inService = false := decide_eq_false (by rw [eq_ready_of_permits hp]; exact nofun)
  have before : n.blk.TablesProper false := out ▸ h.blk
  obtain ⟨w, hw, hb⟩ := id before
  have started : n.blk.TablesProper true := ⟨w, hw.of_unused (fun t => before.unused hb t) true, hb⟩
  dsimp only
  unfold dayStart
  split
  · split
    · exact h
    · refine Blocks.TablesProper.node (started.of fun w hb => ?_)
      refine .foldl (emptyStarts_tables (.foldl ?_ (fun _ _ h => forgetDeparture_tables h) _)) (fun _ _ h => suspendAgain_tables h) _
      have reported {x : Env} {q : Prop} [Decidable q] : (if q then queueReport x n.blk .dayOverrun else n.blk).TablesOk w :=
        .ite (queueReport_tables hb) hb
      exact setAnnounce_tables reported (reported.announcer.markDue ..)
  all_goals exact h

theorem dayEnd_tables : OwnerKeepsTables .serviceOnly dayEnd := by
  intro n h _
  have delivered : (deliverAll n.env n.blk).TablesProper n.env.inService := deliverAll_tablesProper h.blk
  unfold dayEnd
  dsimp only
  split
  case isTrue vacant =>
    obtain ⟨w, hw, hb⟩ := delivered
    have unused (t : Track) : w.inUse t = none := by
      rw [← hb.inUse t]
      obtain ⟨up, down⟩ := vacant
      cases t
      · exact congrArg Standing.entry up
      · exact congrArg Standing.entry down
    refine Blocks.TablesProper.node ⟨_, .emptied (load := .empty) trivial, ?_⟩
    refine .foldl (closeWhere_tables ?_) (fun _ _ h => forgetDelay_tables h) _
    exact .foldl (emptyTimetable_tables hb unused) (fun _ _ h => clearQueue_tables h) _
  case isFalse => exact delivered.node

theorem serviceReset_tables : OwnerKeepsTables .configured serviceReset := by
  intro n h _
  have delivered : (deliverAll n.env n.blk).TablesProper n.env.inService := deliverAll_tablesProper h.blk
  unfold serviceReset
  dsimp only
  split
  · exact delivered.node
  · obtain ⟨w, -, hb⟩ := delivered
    exact Blocks.TablesProper.node ⟨_, .emptied (load := .empty) trivial, applyReset_tables hb⟩

/-! ### The station port (chapter 11) -/

theorem plainOwner_tables {f : Env → Blocks → Blocks × Status} {p : Allowed}
    (hf : ∀ {e b w}, Blocks.TablesOk w b → (f e b).1.TablesOk w) : OwnerKeepsTables p (plainOwner f) := fun h _ => h.kept fun _ hb => hf hb

theorem fieldOwner_tables {f : Env → Blocks → Blocks × Reply} {p : Allowed}
    (hf : ∀ {e b w}, Blocks.TablesOk w b → (f e b).1.TablesOk w) : OwnerKeepsTables p (fieldOwner f) := fun h _ => h.kept fun _ hb => hf hb

/-- An AMEND may move the timetable itself. -/
theorem amendOwner_tables {f : Env → Blocks → Blocks × Status} {p : Allowed}
    (hf : ∀ {e b service}, Blocks.TablesProper service b → (f e b).1.TablesProper service) : OwnerKeepsTables p (plainOwner f) :=
  fun h _ => (hf h.blk).node

theorem partOwner_tables (r : PartRequest) : OwnerKeepsTables .readyOnly (fieldOwner fun _ b => ownPart r b) := by
  intro n h hp
  have out : n.env.inService = false := decide_eq_false (by rw [eq_ready_of_permits hp]; exact nofun)
  refine Blocks.TablesProper.node ?_
  rw [out]
  exact takePart_tablesProper (out ▸ h.blk)

theorem request_tablesProper {ch : PortChannel} {kind : Nat} {tag : Byte} {payload : List Byte} {shape : Bool} {p : Allowed}
    {owner : Node → Node × Reply} (hp : OwnerKeepsTables p owner) (h : n.TablesProper) :
    (request n ch kind tag payload shape p owner).TablesProper := by
  have counted : ({ n with blk := n.blk.setPort n.blk.port.completed } : Node).TablesProper := h.kept fun _ hb => hb
  have dispatched (m : Node) (hm : m.TablesProper) : (dispatch m shape p owner).1.TablesProper := by
    unfold dispatch
    split
    · exact hm
    · split
      · exact hm
      case isFalse permitted => exact hp hm (by simpa using permitted)
  unfold request
  split
  · dsimp only
    split
    · exact h.kept fun _ hb => queueReport_tables hb
    · exact (dispatched _ counted).kept fun _ hb => hb
  · exact h

theorem onTrack_tables {code : Nat} {f : Track → Blocks × Status} (h : b.TablesOk w) (hf : ∀ t, (f t).1.TablesOk w) :
    (onTrack b code f).1.TablesOk w := by
  unfold onTrack
  split
  · exact hf _
  · exact h

theorem ownRestore_tables {sec : Option TractionSection} {id : Option IncidentId} {force : Nat} (h : b.TablesOk w) :
    (ownRestore e b sec id force).1.TablesOk w := by
  unfold ownRestore
  split
  · exact h
  · exact restoreRequest_tables h

theorem raiseRequest_tables {x : Option Raise} (h : b.TablesOk w) : (raiseRequest e b x).1.TablesOk w := by
  cases x with
  | none => exact h
  | some x =>
    have raised : (raiseIncident e b x none).1.TablesOk w := raiseIncident_tables h
    unfold raiseRequest
    dsimp only
    split
    all_goals
      rename_i heq
      rw [heq] at raised
      exact raised

theorem announceRequest_tables {x : AnnounceRequest} (h : b.TablesOk w) : (announceRequest e b x).1.TablesOk w := by
  unfold announceRequest
  split
  · exact h
  case h_2 o _ =>
    split
    · exact h
    · split
      · exact admitZones_tables h
      case h_2 range _ =>
        have sent : (queueFrame e b (announceFrameOf x o range)).TablesOk w := queueFrame_tables h
        dsimp only
        split
        · exact admitZones_tables sent
        · exact sent
theorem portGap_tables {heard : List Byte} {quiet : Nat} (h : b.TablesOk w) : (portGap b heard quiet).TablesOk w := by
  refine .ite h (.ite h ?_)
  split
  all_goals exact h

theorem portError_tables {heard : List Byte} (h : b.TablesOk w) : (portError b heard).TablesOk w := by
  refine .ite h ?_
  split
  all_goals exact h

theorem portLength_tables {len : Byte} (h : b.TablesOk w) : (portLength b len).TablesOk w := .ite h h

theorem portNak_tables {channel kind tag : Byte} {payload : List Byte} {check : Check} (h : b.TablesOk w) :
    (portNak b channel kind tag payload check).TablesOk w := by
  refine .ite ?_ h
  split
  all_goals exact h

theorem portEnd_tables (h : b.TablesOk w) : (portEnd b).TablesOk w := by
  unfold portEnd
  split
  all_goals exact h

/-! ### Every command -/

theorem exec_tablesProper (c : Instr) {q : List Instr} {t : State} (h : n.TablesProper) (ht : exec c ⟨n, q⟩ = .next t) :
    t.node.TablesProper := by
  have kept {b : Blocks} (k : ∀ w, n.blk.TablesOk w → b.TablesOk w) : ({ n with blk := b } : Node).TablesProper := h.kept k
  cases c with
  | powerOnReset straps => cases ht; exact atReset_tablesProper _
  | clockPulse since => cases ht; exact clockPulse_tablesProper since h
  | pulseTimeout => cases ht; exact pulseTimeout_tablesProper h
  | oscillatorAdvance => cases ht; exact oscillatorAdvance_tablesProper h
  | occupancyRise t => cases ht; exact (occupancyRise_tablesProper h.blk).node
  | departure t => cases ht; exact (occupancyFall_tablesProper h.blk).node
  | samplingPoint levels => cases ht; exact (samplingPoint_tablesProper h.blk).node
  | linebusOtherCharacter char => cases ht; exact kept fun _ hb => otherCharacter_tables hb
  | plungerPress t => cases ht; exact kept fun _ hb => plungerRise_tables hb
  | plungerRelease t => cases ht; exact kept fun _ hb => plungerFall_tables hb
  | breakerSettlement br isClosed => cases ht; exact kept fun _ hb => breakerSettles_tables hb
  | breakerStatusChange br isClosed => cases ht; exact kept fun _ hb => breakerMoves_tables hb
  | localKeyChange isSet => cases ht; exact kept fun _ hb => keyMoves_tables hb
  | pulseEnd br => cases ht; exact kept fun _ hb => endPulse_tables hb
  | thirdAdvanceOpen br => cases ht; exact kept fun _ hb => thirdStep_tables hb
  | breakerTimeLimit br => cases ht; exact kept fun _ hb => limitStep_tables hb
  | isolateRepeat id sec => cases ht; exact kept fun _ hb => repeatStep_tables hb
  | restoreWaitTimeout br => cases ht; exact kept fun _ hb => waitStep_tables hb
  | attemptBegin idle => cases ht; exact kept fun _ hb => attemptBegin_tables hb
  | backoffRetry idle => cases ht; exact kept fun _ hb => backoffRetry_tables hb
  | collision cause heard => cases ht; exact kept fun _ hb => collide_tables hb
  | frameSent => cases ht; exact kept fun _ hb => frameSent_tables hb
  | statusPoint => cases ht; exact kept fun _ hb => statusStep_tables hb
  | lineIdle heard idle => cases ht; exact kept fun _ hb => lineIdle_tables hb
  | linebusCharacterError heard => cases ht; exact kept fun _ hb => characterError_tables hb
  | linebusLengthError source cls len => cases ht; exact kept fun _ hb => lengthError_tables hb
  | linebusFrameDiscarded source cls payload check => cases ht; exact kept fun _ hb => discardFrame_tables hb
  | frameErrorReport => cases ht; exact kept fun _ hb => errorReportStep_tables hb
  | statusFrame source payload => cases ht; exact kept fun _ hb => receiveFrame_tables hb
  | powerFrame source payload => cases ht; exact kept fun _ hb => receiveFrame_tables hb
  | isolateFrame source payload => cases ht; exact kept fun _ hb => receiveFrame_tables hb
  | restoreFrame source payload => cases ht; exact kept fun _ hb => receiveFrame_tables hb
  | incidentFrame source payload => cases ht; exact kept fun _ hb => receiveFrame_tables hb
  | departFrame source payload => cases ht; exact kept fun _ hb => receiveFrame_tables hb
  | announceFrame source payload => cases ht; exact kept fun _ hb => receiveFrame_tables hb
  | peerStale node => cases ht; exact kept fun _ hb => staleStep_tables hb
  | peerLost node => cases ht; exact kept fun _ hb => lostStep_tables hb
  | lapse node => cases ht; exact kept fun _ hb => lapseStep_tables hb
  | overdueInstant t => cases ht; exact kept fun _ hb => stallCheck_tables hb
  | dwellTargetReached t => cases ht; exact kept fun _ hb => targetStep_tables hb
  | staggerTimeReached t => cases ht; exact kept fun _ hb => staggerStep_tables hb
  | graceExpiry t => cases ht; exact kept fun _ hb => graceStep_tables hb
  | wmaxReached t => cases ht; exact kept fun _ hb => watchHeld_tables hb
  | refresh id => cases ht; exact kept fun _ hb => refreshStep_tables hb
  | localAgeClose id => cases ht; exact kept fun _ hb => localAgeStep_tables hb
  | copyDrop id => cases ht; exact kept fun _ hb => copyDropStep_tables hb
  | notBeforeReached message => cases ht; exact kept fun _ hb => notBeforeStep_tables hb
  | messageExpiry message => cases ht; exact kept fun _ hb => expiryStep_tables hb
  | playDeadline channel => cases ht; exact kept fun _ hb => deadlineStep_tables hb
  | stopTimeout channel => cases ht; exact kept fun _ hb => stopStep_tables hb
  | portFrameGap heard quietUs => cases ht; exact kept fun _ hb => portGap_tables hb
  | portCharacterError heard => cases ht; exact kept fun _ hb => portError_tables hb
  | portLengthError len => cases ht; exact kept fun _ hb => portLength_tables hb
  | nak channel kind tag payload check => cases ht; exact kept fun _ hb => portNak_tables hb
  | portFrameEnd => cases ht; exact kept fun _ hb => portEnd_tables hb
  | configure tag payload => cases ht; exact request_tablesProper (configure_tables _) h
  | dayStart tag payload => cases ht; exact request_tablesProper (dayStart_tables _ _) h
  | dayEnd tag payload => cases ht; exact request_tablesProper dayEnd_tables h
  | serviceReset tag payload => cases ht; exact request_tablesProper serviceReset_tables h
  | readStatus tag payload => cases ht; exact request_tablesProper (fieldOwner_tables fun h => h) h
  | alarmAck tag payload => cases ht; exact request_tablesProper (plainOwner_tables fun h => setAlarm_tables h) h
  | timetablePart tag payload => cases ht; exact request_tablesProper (partOwner_tables _) h
  | amendChange tag payload => cases ht; exact request_tablesProper (amendOwner_tables fun h => amendChange_tablesProper h) h
  | amendCancel tag payload => cases ht; exact request_tablesProper (amendOwner_tables fun h => amendCancel_tablesProper h) h
  | amendInsert tag payload => cases ht; exact request_tablesProper (amendOwner_tables fun h => amendInsert_tablesProper h) h
  | inject tag payload => cases ht; exact request_tablesProper (plainOwner_tables fun h => injectTrain_tables h) h
  | flush tag payload => cases ht; exact request_tablesProper (plainOwner_tables fun h => flushTrain_tables h) h
  | hold tag payload => cases ht; exact request_tablesProper (plainOwner_tables fun h => onTrack_tables h fun _ => holdPlatform_tables h) h
  | unhold tag payload =>
    cases ht
    exact request_tablesProper (plainOwner_tables fun h => onTrack_tables h fun _ => unholdPlatform_tables h) h
  | release tag payload =>
    cases ht
    exact request_tablesProper (plainOwner_tables fun h => onTrack_tables h fun _ => releasePlatform_tables h) h
  | readPlatform tag payload => cases ht; exact request_tablesProper (fieldOwner_tables fun h => h) h
  | isolate tag payload => cases ht; exact request_tablesProper (plainOwner_tables fun h => isolateRequest_tables h) h
  | restore tag payload => cases ht; exact request_tablesProper (plainOwner_tables fun h => ownRestore_tables h) h
  | readPower tag payload => cases ht; exact request_tablesProper (fieldOwner_tables fun h => h) h
  | raise tag payload => cases ht; exact request_tablesProper (fieldOwner_tables fun h => raiseRequest_tables h) h
  | acknowledge tag payload => cases ht; exact request_tablesProper (plainOwner_tables fun h => acknowledgeIncident_tables h) h
  | close tag payload => cases ht; exact request_tablesProper (plainOwner_tables fun h => closeIncident_tables h) h
  | adopt tag payload => cases ht; exact request_tablesProper (plainOwner_tables fun h => adoptIncident_tables h) h
  | change tag payload => cases ht; exact request_tablesProper (plainOwner_tables fun h => changeIncident_tables h) h
  | readIncidents tag payload => cases ht; exact request_tablesProper (fieldOwner_tables fun h => h) h
  | announce tag payload => cases ht; exact request_tablesProper (fieldOwner_tables fun h => announceRequest_tables h) h
  | withdraw tag payload => cases ht; exact request_tablesProper (plainOwner_tables fun h => withdrawRequest_tables h) h
  | audioDone tag payload => cases ht; exact request_tablesProper (plainOwner_tables fun h => audioDoneRequest_tables h) h
  | audioFailed tag payload => cases ht; exact request_tablesProper (plainOwner_tables fun h => audioFailedRequest_tables h) h
  | audioStopped tag payload => cases ht; exact request_tablesProper (plainOwner_tables fun h => audioStoppedRequest_tables h) h
  | audioReset tag payload => cases ht; exact request_tablesProper (plainOwner_tables fun h => audioResetRequest_tables h) h
end

/-- Settles O59: whatever the command, its operations keep the workings, or move a sequence together with its entry in use. -/
theorem stepKeepsTablesProper : Obligations.StepKeepsTablesProper := by
  rintro ⟨n, q⟩ t h ht
  cases q with
  | nil => cases ht; exact h
  | cons c rest => exact exec_tablesProper c h ht

end Sys2Proof.Machine
